-- ==== Sys2Proof/Word.lean ====
section
/-! DEFINITION. The word types of the SZ872: the 32-bit BAR0 register (R579), the 72-bit quay word
(R24, R48), the byte of a Damisk port, and the 64-bit tide number (R41). -/

namespace Sys2Proof

/-- A 32-bit BAR0 register value (R579). -/
abbrev Word := BitVec 32

/-- A 72-bit quay word: four 18-bit slots (R24), or a time stamp (R48). -/
abbrev Quay := BitVec 72

/-- One character of a Damisk port (R71, R78). -/
abbrev Byte := BitVec 8

/-- The 64-bit tide number (R41). -/
abbrev TideNo := BitVec 64

end Sys2Proof
end

