-- ==== Sys2Proof/Syntax.lean ====
section
/-! DEFINITION. The commands the unit takes (the rows of opcode_table.json), and the names their operands
use. -/

namespace Sys2Proof

/-- Who reads or writes a register: the PCIe host, or `REG` and `REG?` on a Damisk port (R601). -/
inductive Requester where
  | pcie
  | port (p : Fin 3)
  deriving DecidableEq, Repr

/-- The two Lighthouse synthesisers. -/
inductive Synth where
  | lha | lhs
  deriving DecidableEq, Repr

/-- The DDR clock rate word of CLK:DDR (R562): DDR_DIV 0, 1, 2. -/
inductive DdrRate where
  | d3200 | d2666 | d1600
  deriving DecidableEq, Repr

/-- The power domains of R172, AON first. -/
inductive Dom where
  | aon | ctrl | lhs | lha | tally | dock | berth01 | berth23 | berth45 | berth67 | acq | host | emica
  deriving DecidableEq, Repr

/-- RISE, FALL or BOTH. -/
inductive Edge3 where
  | rise | fall | both
  deriving DecidableEq, Repr

/-- A list of object numbers, or ALL (R557). -/
inductive Sel where
  | all
  | list (ns : List Nat)
  deriving DecidableEq, Repr

/-- A memory word of R565: DOCK0, DOCK1 or QBUF. -/
inductive Mem where
  | dock0 | dock1 | qbuf
  deriving DecidableEq, Repr

/-- What BERTH:CAL names (R563). -/
inductive CalSel where
  | skew | gain | offset | all
  deriving DecidableEq, Repr

/-- Digital detector types (R236). -/
inductive DigType where
  | level | window | slope | width | runt
  deriving DecidableEq, Repr

/-- PILOT:TRIGOUT modes (R249). -/
inductive TrigoutMode where
  | off | accept | raw
  deriving DecidableEq, Repr

/-- Watermark modes (R300). -/
inductive WmkMode where
  | minmax | mean | pick
  deriving DecidableEq, Repr

/-- A Warehouse object: a histogram or a persistence map (R557). -/
inductive WObj where
  | hist (h : Nat)
  | map (m : Nat)
  deriving DecidableEq, Repr

/-- Tally measurement modes (R363). -/
inductive TlyMode where
  | stamp | interval | period | width | freq | diff
  deriving DecidableEq, Repr

/-- SLUICE:MODE words (R408). -/
inductive LoopMode where
  | off | man | auto
  deriving DecidableEq, Repr

/-- Slipway port modes (R417). -/
inductive PortMode where
  | off | spidac | hrpwm
  deriving DecidableEq, Repr

/-- LDAC modes (R423). -/
inductive LdacMode where
  | none | after | cycle
  deriving DecidableEq, Repr

/-- HRPWM output B modes (R425). -/
inductive BMode where
  | off | comp | same
  deriving DecidableEq, Repr

/-- The limits PROT:LIMIT sets (R428). -/
inductive LimitKind where
  | ov | uv | ochi | oclo | op
  deriving DecidableEq, Repr

/-- Ferry ring types (R477). -/
inductive RingType where
  | stream | mark | monitor | read | write
  deriving DecidableEq, Repr

/-- EMICA:ROLE words (R509). -/
inductive RigRole where
  | off | master | member
  deriving DecidableEq, Repr

/-- A Damisk decimal number, man × 10^exp10, before any scaling (R85). -/
structure Dec where
  man : Int
  exp10 : Int
  deriving DecidableEq, Repr

/-- A Ferry descriptor as read from host memory (R479). -/
structure Desc where
  addr : Nat
  len : Nat
  op : Nat
  fmt : Nat
  irq : Bool
  ch : Nat
  maddr : Nat
  mem : Nat
  words : Nat
  tag : Nat
  deriving DecidableEq, Repr

/-- One converter sample of a channel before correction (R202): its raw 16-bit code, and whether it entered the
tide-sample accumulator before the last tide edge (R209). -/
structure Sample where
  code : Int
  early : Bool
  deriving DecidableEq, Repr

/-- Samples of a channel that have entered the accumulator and are not yet handed over (R201), and the ACLK cycle
of the first of them. -/
structure Late where
  ch : Nat
  cyc : Nat
  xs : List Sample
  deriving DecidableEq, Repr

/-- An edge as a Tally lane captures it (R351): the TCLK count of its capturing edge, the codes of the four readers,
and its direction. -/
structure LaneEdge where
  count : Nat
  codes : List Nat
  rising : Bool
  deriving DecidableEq, Repr

/-- The commands of the unit, one constructor per row of opcode_table.json. A Damisk row stands for a
one-unit line of port `p` at the instant the unit is executed: its commit for a command, its parse
completion for a query (log 3); these rows come first. The other rows are events at the unit's pins, clocks and links, PCIe
accesses, and the actions the unit takes at fixed cycles; their operands are what comes from outside. -/
inductive Instr where
  /-- R17. SYS:ID? returns SYS_ID. -/
  | sysIdQuery (p : Fin 3)
  /-- R17. SYS:STEP? returns SYS_STEP. -/
  | sysStepQuery (p : Fin 3)
  /-- R34. SYS:TIDE sets TIDE_LEN at a boundary, subject to refusals. -/
  | sysTide (p : Fin 3) (n : Nat)
  /-- R561. SYS:TIDE? returns TIDE_LEN. -/
  | sysTideQuery (p : Fin 3)
  /-- R41. SYS:TIDENUM? returns the tide number. -/
  | sysTidenumQuery (p : Fin 3)
  /-- R44. SYS:EPOCH? returns STATE_EPOCH. -/
  | sysEpochQuery (p : Fin 3)
  /-- R559. SYS:GUARD makes its line conditional on STATE_EPOCH. -/
  | sysGuard (p : Fin 3) (e : Nat)
  /-- R561. SYS:CONFLICT? returns the conflict registers and clears SYS_IGNORED. -/
  | sysConflictQuery (p : Fin 3)
  /-- R72. SYS:UART sets the baud divisor and RTS/CTS. -/
  | sysUart (p : Fin 3) (baud : Nat) (rts : Option Bool)
  /-- R81. SYS:ECHO sets echo on the issuing port. -/
  | sysEcho (p : Fin 3) (on : Bool)
  /-- R94. SYS:NOTIFY sets the asynchronous line mask of the issuing port. -/
  | sysNotify (p : Fin 3) (mask : Nat)
  /-- R92. SYS:ERR? returns the port's last error code, unit and argument. -/
  | sysErrQuery (p : Fin 3)
  /-- R183. SYS:RESET, alone in its line, resets the unit after its commit. -/
  | sysReset (p : Fin 3)
  /-- R52. TIME? returns seconds and nanoseconds as an atomic pair. -/
  | timeQuery (p : Fin 3)
  /-- R54. TIME:SET stages a time-of-day set. -/
  | timeSet (p : Fin 3) (sec : Nat) (ns : Nat)
  /-- R54. TIME:CANCEL discards a staged set. -/
  | timeCancel (p : Fin 3)
  /-- R55. TIME:ADJ adds to the slew remainder. -/
  | timeAdj (p : Fin 3) (t : Int)
  /-- R56. TIME:PPS enables or disables 1PPS discipline. -/
  | timePps (p : Fin 3) (on : Bool) (fall : Option Bool)
  /-- R561. TIME:PPSLIM sets SLEW_MAX and STEP_EN. -/
  | timePpslim (p : Fin 3) (t : Nat) (step : Option Bool)
  /-- R561. TIME:PPS? returns the lock, last error and counts. -/
  | timePpsQuery (p : Fin 3)
  /-- R561. TIME:STAMP? returns the current time stamp. -/
  | timeStampQuery (p : Fin 3)
  /-- R104. REG writes a BAR0 register through the Damisk path at the commit. -/
  | reg (p : Fin 3) (off : Nat) (v : Nat)
  /-- R104. REG? reads a BAR0 register with its read side effects. -/
  | regQuery (p : Fin 3) (off : Nat)
  /-- R100. A line holding ABORT alone takes an abort at its terminator. -/
  | abort (p : Fin 3)
  /-- R158. CLK:ACLK sets the FCW from a frequency. -/
  | clkAclk (p : Fin 3) (fcw : Nat)
  /-- R562. CLK:ACLK? returns the FCW, N and frequency. -/
  | clkAclkQuery (p : Fin 3)
  /-- R158. CLK:FCW sets the raw FCW. -/
  | clkFcw (p : Fin 3) (v : Nat)
  /-- R145. CLK:BW sets a Lighthouse loop bandwidth. -/
  | clkBw (p : Fin 3) (h : Synth) (n : Nat)
  /-- R148. CLK:LOCKWIN sets LOCK_WIN. -/
  | clkLockwin (p : Fin 3) (h : Synth) (n : Nat)
  /-- R150. CLK:PHLIM sets PH_LIM. -/
  | clkPhlim (p : Fin 3) (h : Synth) (n : Nat)
  /-- R149. CLK:AUTORES sets AUTO_RESUME. -/
  | clkAutores (p : Fin 3) (h : Synth) (on : Bool)
  /-- R149. CLK:RESUME resumes a LOCKED Lighthouse at the next tide edge. -/
  | clkResume (p : Fin 3) (h : Synth)
  /-- R146. CLK:DDR sets DDR_DIV while LHS is OFF. -/
  | clkDdr (p : Fin 3) (r : DdrRate)
  /-- R155. CLK:SYNC arms or disarms SYNCIN with its source, edge, targets and mode. -/
  | clkSync (p : Fin 3) (on : Bool) (esync : Option Bool) (fall : Option Bool) (mask : Option Nat) (cont : Option Bool)
  /-- R562. CLK:STAT? returns the Lighthouse states, CAP LOCK and CLK_STAT. -/
  | clkStatQuery (p : Fin 3)
  /-- R562. CLK:COUNT? returns the last window count. -/
  | clkCountQuery (p : Fin 3) (h : Synth)
  /-- R176. PWR:ON requests a domain ON. -/
  | pwrOn (p : Fin 3) (d : Dom)
  /-- R178. PWR:OFF requests a domain OFF. -/
  | pwrOff (p : Fin 3) (d : Dom)
  /-- R562. PWR:STATE? returns a domain state or PWR_STATE. -/
  | pwrStateQuery (p : Fin 3) (d : Option Dom)
  /-- R562. PWR:DISC? returns and clears PWR_DISCARD_n. -/
  | pwrDiscQuery (p : Fin 3) (d : Dom)
  /-- R562. PWR:CAUSE? returns PWR_RST_CAUSE and PWR_STRAP. -/
  | pwrCauseQuery (p : Fin 3)
  /-- R185. PWR:PERST sets the PERST# reset scope. -/
  | pwrPerst (p : Fin 3) (host : Bool)
  /-- R198. BERTH:ROUTE makes a mask the whole Berth set of an input. -/
  | berthRoute (p : Fin 3) (n : Nat) (mask : Nat)
  /-- R563. BERTH:ROUTE? returns an input's mask and factor. -/
  | berthRouteQuery (p : Fin 3) (n : Nat)
  /-- R198. BERTH:MAP writes BRT_ROUTE whole. -/
  | berthMap (p : Fin 3) (v : Nat)
  /-- R563. BERTH:MAP? returns BRT_ROUTE. -/
  | berthMapQuery (p : Fin 3)
  /-- R209. BERTH:CAL runs or freezes skew, gain or offset calibration. -/
  | berthCal (p : Fin 3) (run : Bool) (which : CalSel)
  /-- R563. BERTH:CAL? returns BRT_CAL_STAT and the round count. -/
  | berthCalQuery (p : Fin 3)
  /-- R209. BERTH:BGCLEAR zeroes the background terms at the boundary. -/
  | berthBgclear (p : Fin 3)
  /-- R211. BERTH:TRIM writes a Berth trim while skew calibration is frozen. -/
  | berthTrim (p : Fin 3) (b : Nat) (v : Nat)
  /-- R563. BERTH:TRIM? returns a trim and its skew error. -/
  | berthTrimQuery (p : Fin 3) (b : Nat)
  /-- R211. BERTH:CALOFS writes CAL_OFS. -/
  | berthCalofs (p : Fin 3) (b : Nat) (v : Int)
  /-- R211. BERTH:CALGAIN writes CAL_GAIN. -/
  | berthCalgain (p : Fin 3) (b : Nat) (v : Int)
  /-- R217. BERTH:MON? returns a monitor value and clears FRESH. -/
  | berthMonQuery (p : Fin 3) (n : Nat)
  /-- R218. BERTH:SNAP? returns BRT_SNAP_n. -/
  | berthSnapQuery (p : Fin 3) (n : Nat)
  /-- R217. BERTH:MONCHK sets a channel's CHK bit. -/
  | berthMonchk (p : Fin 3) (n : Nat) (on : Bool)
  /-- R219. BERTH:MONSTREAM sets the monitor stream mask. -/
  | berthMonstream (p : Fin 3) (mask : Nat)
  /-- R215. BERTH:OVR? returns and clears an over-range count. -/
  | berthOvrQuery (p : Fin 3) (b : Nat)
  /-- R563. BERTH:STAT? returns the channel and calibration status. -/
  | berthStatQuery (p : Fin 3)
  /-- R229. PILOT:COMP sets a comparator's threshold, hysteresis and edge. -/
  | pilotComp (p : Fin 3) (n : Nat) (th : Nat) (hyst : Option Nat) (edge : Option Edge3)
  /-- R564. PILOT:COMP? returns a comparator's settings and level. -/
  | pilotCompQuery (p : Fin 3) (n : Nat)
  /-- R231. PILOT:DLY sets a comparator or TRIGIN delay compensation. -/
  | pilotDly (p : Fin 3) (src : Nat) (v : Int)
  /-- R564. PILOT:DLY? returns a delay compensation. -/
  | pilotDlyQuery (p : Fin 3) (src : Nat)
  /-- R232. PILOT:TRIGIN sets a TRIGIN threshold and edge. -/
  | pilotTrigin (p : Fin 3) (j : Nat) (th : Nat) (edge : Option Edge3)
  /-- R236. PILOT:DIG configures a digital detector. -/
  | pilotDig (p : Fin 3) (d : Nat) (ch : Nat) (ty : DigType) (dir : Nat) (th1 : Int) (th2 : Option Int) (hyst : Option Nat) (ovrq : Option Bool)
  /-- R236. PILOT:WIDTH sets a detector's width condition. -/
  | pilotWidth (p : Fin 3) (d : Nat) (cond : Nat) (w1 : Nat) (w2 : Option Nat)
  /-- R236. PILOT:SPAN sets a detector's slope span. -/
  | pilotSpan (p : Fin 3) (d : Nat) (n : Nat)
  /-- R241. PILOT:ENG sets an engine's mode, sources and window. -/
  | pilotEng (p : Fin 3) (g : Nat) (ab : Bool) (srcA : Nat) (srcB : Option Nat) (win : Option Nat)
  /-- R564. PILOT:ENG? returns an engine's configuration and state. -/
  | pilotEngQuery (p : Fin 3) (g : Nat)
  /-- R239. PILOT:REF sets an engine's reference channel. -/
  | pilotRef (p : Fin 3) (g : Nat) (ch : Nat)
  /-- R242. PILOT:QUAL sets an engine's qualifier. -/
  | pilotQual (p : Fin 3) (g : Nat) (src : Option Nat) (pol : Option Nat)
  /-- R243. PILOT:HOLD sets an engine's holdoff mode and value. -/
  | pilotHold (p : Fin 3) (g : Nat) (count : Bool) (v : Nat)
  /-- R246. PILOT:ON enables an engine. -/
  | pilotOn (p : Fin 3) (g : Nat)
  /-- R246. PILOT:OFF disables an engine. -/
  | pilotOff (p : Fin 3) (g : Nat)
  /-- R248. PILOT:EFIRE configures the EFIRE driver. -/
  | pilotEfire (p : Fin 3) (on : Bool) (src : Option Nat) (group : Option Nat) (width : Option Nat)
  /-- R249. PILOT:TRIGOUT configures a trigger output. -/
  | pilotTrigout (p : Fin 3) (j : Nat) (mode : TrigoutMode) (sel : Option Nat) (width : Option Nat)
  /-- R564. PILOT:LAST? returns an engine's last accepted trigger. -/
  | pilotLastQuery (p : Fin 3) (g : Nat)
  /-- R564. PILOT:COUNT? returns the trigger count and clears the rejection counts. -/
  | pilotCountQuery (p : Fin 3) (g : Nat)
  /-- R247. TRIG presents a SOFT event to the named engines at the commit. -/
  | trig (p : Fin 3) (gs : Sel)
  /-- R261. ACQ:GROUP sets a group's mode and channel mask. -/
  | acqGroup (p : Fin 3) (g : Nat) (stream : Bool) (mask : Nat)
  /-- R565. ACQ:GROUP? returns a group's mode, mask and state. -/
  | acqGroupQuery (p : Fin 3) (g : Nat)
  /-- R272. ACQ:MEM sets a group's memory, base and size. -/
  | acqMem (p : Fin 3) (g : Nat) (mem : Mem) (base : Nat) (size : Nat)
  /-- R275. ACQ:DISARM disarms a segment group. -/
  | acqDisarm (p : Fin 3) (g : Nat)
  /-- R565. ACQ:STAT? returns a group's state and counts and clears REJ. -/
  | acqStatQuery (p : Fin 3) (g : Nat)
  /-- R270. ACQ:DEAD? returns the cumulative dead time. -/
  | acqDeadQuery (p : Fin 3) (g : Nat)
  /-- R265. ARM arms the named segment groups at the commit. -/
  | arm (p : Fin 3) (gs : Sel)
  /-- R268. SEG:LEN sets P and Q. -/
  | segLen (p : Fin 3) (g : Nat) (pre : Nat) (post : Nat)
  /-- R269. SEG:OVERLAP sets OVERLAP. -/
  | segOverlap (p : Fin 3) (g : Nat) (on : Bool)
  /-- R273. SEG:BUF sets LINEAR or RING mode and COUNT. -/
  | segBuf (p : Fin 3) (g : Nat) (ring : Bool) (count : Nat)
  /-- R281. SEG:DIR sets the directory memory, base and length. -/
  | segDir (p : Fin 3) (mem : Mem) (base : Nat) (len : Nat)
  /-- R565. SEG:DIR? returns the directory settings, NEXT and WRAPS. -/
  | segDirQuery (p : Fin 3)
  /-- R279. SEG:SEQ? returns MAN_SEQ. -/
  | segSeqQuery (p : Fin 3)
  /-- R282. STREAM:SRC sets a stream group's source to RAW or WMARK. -/
  | streamSrc (p : Fin 3) (g : Nat) (wmark : Bool)
  /-- R284. STREAM:BLOCK sets BLOCK_LOG2 and NBUF. -/
  | streamBlock (p : Fin 3) (g : Nat) (log2 : Nat) (nbuf : Nat)
  /-- R265. STREAM:START starts a stream group. -/
  | streamStart (p : Fin 3) (g : Nat)
  /-- R288. STREAM:STOP stops a stream group. -/
  | streamStop (p : Fin 3) (g : Nat)
  /-- R565. STREAM:GAP? returns and clears the drop and mark-lost counts. -/
  | streamGapQuery (p : Fin 3) (g : Nat)
  /-- R305. WMARK:SET sets a decimator's mode and ratio. -/
  | wmarkSet (p : Fin 3) (g : Nat) (mode : WmkMode) (d : Nat)
  /-- R565. WMARK:SET? returns a decimator's mode and ratio. -/
  | wmarkSetQuery (p : Fin 3) (g : Nat)
  /-- R306. WHOUSE:HIST sets a histogram's source, resolution and OVRX. -/
  | whouseHist (p : Fin 3) (h : Nat) (src : Nat) (res : Nat) (ovrx : Option Bool)
  /-- R308. WHOUSE:GATE sets a histogram's gate. -/
  | whouseGate (p : Fin 3) (h : Nat) (seg : Bool) (group : Option Nat)
  /-- R306. WHOUSE:TWIN sets a histogram's OFS and SHIFT. -/
  | whouseTwin (p : Fin 3) (h : Nat) (ofs : Nat) (shift : Nat)
  /-- R310. WHOUSE:FLUSHT sets FLUSHT. -/
  | whouseFlusht (p : Fin 3) (h : Nat) (t : Nat)
  /-- R309. WHOUSE:MEM sets an object's memory and base. -/
  | whouseMem (p : Fin 3) (obj : WObj) (mem : Mem) (base : Nat)
  /-- R313. WHOUSE:MAP configures a persistence map. -/
  | whouseMap (p : Fin 3) (m : Nat) (group : Nat) (ch : Nat) (cols : Nat) (rows : Nat) (ovrx : Option Bool)
  /-- R315. WHOUSE:RATE sets a map's RATE. -/
  | whouseRate (p : Fin 3) (m : Nat) (r : Nat)
  /-- R316. WHOUSE:DECAY sets a map's decay interval. -/
  | whouseDecay (p : Fin 3) (m : Nat) (k : Nat)
  /-- R318. WHOUSE:START starts an accumulation after admission. -/
  | whouseStart (p : Fin 3) (obj : WObj) (clear : Bool)
  /-- R312. WHOUSE:STOP stops an accumulation with a final sweep. -/
  | whouseStop (p : Fin 3) (obj : WObj)
  /-- R312. WHOUSE:FLUSH requests a histogram flush. -/
  | whouseFlush (p : Fin 3) (h : Nat)
  /-- R565. WHOUSE:STAT? returns an object's status and counts. -/
  | whouseStatQuery (p : Fin 3) (obj : WObj)
  /-- R565. WHOUSE:BINS? returns the partial bins reserved. -/
  | whouseBinsQuery (p : Fin 3)
  /-- R566. DOCK:CFG sets a channel's organisation, density and ranks and sets EN. -/
  | dockCfg (p : Fin 3) (n : Nat) (x16 : Bool) (dens8 : Bool) (ranks : Nat)
  /-- R566. DOCK:CFG NONE clears a channel's EN. -/
  | dockCfgNone (p : Fin 3) (n : Nat)
  /-- R566. DOCK:CFG? returns a channel's configuration. -/
  | dockCfgQuery (p : Fin 3) (n : Nat)
  /-- R327. DOCK:TIM sets a channel's DDR timing. -/
  | dockTim (p : Fin 3) (n : Nat) (cl : Nat) (cwl : Nat) (trcd : Nat) (trp : Nat) (twr : Nat) (trc : Nat) (tfaw : Nat) (trfc : Nat) (trrdl : Nat) (tccdl : Nat)
  /-- R330. DOCK:TRAIN starts training a channel. -/
  | dockTrain (p : Fin 3) (n : Nat)
  /-- R337. DOCK:FERRY sets the Ferry readout reservation after calendar admission. -/
  | dockFerry (p : Fin 3) (n : Nat) (units : Nat)
  /-- R566. DOCK:CAL? returns U and the per-client charges. -/
  | dockCalQuery (p : Fin 3) (n : Nat)
  /-- R566. DOCK:REFUSE? returns DCK_REFUSE. -/
  | dockRefuseQuery (p : Fin 3)
  /-- R566. DOCK:STAT? returns a channel's state, size and rounds. -/
  | dockStatQuery (p : Fin 3) (n : Nat)
  /-- R566. DOCK:ERR? returns the parity and bad-burst counts and clears them. -/
  | dockErrQuery (p : Fin 3) (n : Nat)
  /-- R360. TALLY:IN sets a lane's source and slope. -/
  | tallyIn (p : Fin 3) (l : Nat) (src : Nat) (edge : Option Edge3)
  /-- R363. TALLY:MODE sets a lane's mode and partner. -/
  | tallyMode (p : Fin 3) (l : Nat) (mode : TlyMode) (partner : Option Nat)
  /-- R361. TALLY:HOLD sets a lane's holdoff. -/
  | tallyHold (p : Fin 3) (l : Nat) (t : Nat)
  /-- R365. TALLY:GATE sets a lane's FREQ gate. -/
  | tallyGate (p : Fin 3) (l : Nat) (t : Nat)
  /-- R366. TALLY:STILL sets a lane's STILL time. -/
  | tallyStill (p : Fin 3) (l : Nat) (t : Nat)
  /-- R352. TALLY:DLY sets a lane's delay compensation. -/
  | tallyDly (p : Fin 3) (l : Nat) (v : Int)
  /-- R360. TALLY:EDGEIN sets an EDGEIN threshold and hysteresis. -/
  | tallyEdgein (p : Fin 3) (j : Nat) (th : Nat) (hyst : Option Nat)
  /-- R371. TALLY:STATS configures a lane's statistics. -/
  | tallyStats (p : Fin 3) (l : Nat) (n : Option Nat) (cont : Option Bool)
  /-- R368. TALLY:START starts a lane run. -/
  | tallyStart (p : Fin 3) (l : Nat)
  /-- R368. TALLY:STOP ends a lane run. -/
  | tallyStop (p : Fin 3) (l : Nat)
  /-- R567. TALLY:RES? returns a lane's last result. -/
  | tallyResQuery (p : Fin 3) (l : Nat)
  /-- R370. TALLY:READ? returns and removes the oldest FIFO result. -/
  | tallyReadQuery (p : Fin 3) (l : Nat)
  /-- R371. TALLY:STAT? returns a lane's statistics. -/
  | tallyStatQuery (p : Fin 3) (l : Nat)
  /-- R357. TALLY:CAL starts a calibration of the named lanes. -/
  | tallyCal (p : Fin 3) (m : Option Nat)
  /-- R567. TALLY:CAL? returns TLY_STAT and TLY_CAL_STAT. -/
  | tallyCalQuery (p : Fin 3)
  /-- R372. KNOB:CFG sets the knob filter, STILL time and INV. -/
  | knobCfg (p : Fin 3) (filt : Nat) (still : Nat) (inv : Bool)
  /-- R567. KNOB:POS? returns the position, direction, speed and STILL. -/
  | knobPosQuery (p : Fin 3)
  /-- R380. KNOB:POS sets the knob position at the boundary and clears ACC. -/
  | knobPos (p : Fin 3) (v : Int)
  /-- R374. KNOB:SVC configures the knob-to-setpoint service. -/
  | knobSvc (p : Fin 3) (on : Bool) (loop : Option Nat) (detent : Option Nat)
  /-- R375. KNOB:LIM sets SPMIN and SPMAX. -/
  | knobLim (p : Fin 3) (mn : Int) (mx : Int)
  /-- R374. KNOB:ACC sets an acceleration entry. -/
  | knobAcc (p : Fin 3) (i : Nat) (thresh : Nat) (step : Nat)
  /-- R408. SLUICE:MODE sets a loop to OFF, MANUAL or AUTO. -/
  | sluiceMode (p : Fin 3) (n : Nat) (mode : LoopMode)
  /-- R385. SLUICE:IN sets a loop's input channel and polarity. -/
  | sluiceIn (p : Fin 3) (n : Nat) (ch : Nat) (neg : Bool)
  /-- R385. SLUICE:SHARE sets a loop's SHARE. -/
  | sluiceShare (p : Fin 3) (n : Nat) (on : Bool)
  /-- R393. SLUICE:LAW sets a loop's law and band. -/
  | sluiceLaw (p : Fin 3) (n : Nat) (hyst : Bool) (band : Option Nat)
  /-- R398. SLUICE:TIMING sets a loop's timing mode and cycle. -/
  | sluiceTiming (p : Fin 3) (n : Nat) (deadline : Bool) (cycle : Nat)
  /-- R396. SLUICE:PAIR pairs or unpairs an even loop. -/
  | sluicePair (p : Fin 3) (n : Nat) (on : Bool)
  /-- R417. SLUICE:PORTS sets a loop's ports. -/
  | sluicePorts (p : Fin 3) (n : Nat) (mask : Nat)
  /-- R390. SLUICE:PHSRC sets a loop's ripple phase source. -/
  | sluicePhsrc (p : Fin 3) (n : Nat) (src : Nat)
  /-- R404. SLUICE:SWPRESET sets SWPRESET. -/
  | sluiceSwpreset (p : Fin 3) (n : Nat) (on : Bool)
  /-- R385. SLUICE:SETP sets a loop's setpoint. -/
  | sluiceSetp (p : Fin 3) (n : Nat) (code : Int)
  /-- R394. SLUICE:MANOUT sets a loop's manual output. -/
  | sluiceManout (p : Fin 3) (n : Nat) (v : Int)
  /-- R402. SLUICE:SAFE sets a loop's safe output. -/
  | sluiceSafe (p : Fin 3) (n : Nat) (v : Int)
  /-- R409. SLUICE:OUTLIM sets OUTMIN and OUTMAX as one change. -/
  | sluiceOutlim (p : Fin 3) (n : Nat) (mn : Int) (mx : Int)
  /-- R409. SLUICE:ILIM sets ILO and IHI as one change. -/
  | sluiceIlim (p : Fin 3) (n : Nat) (lo : Int) (hi : Int)
  /-- R386. SLUICE:STAGES sets NSTAGES in the inactive bank. -/
  | sluiceStages (p : Fin 3) (n : Nat) (k : Nat)
  /-- R392. SLUICE:COEF normalises and writes a stage's coefficients in the inactive bank. -/
  | sluiceCoef (p : Fin 3) (n : Nat) (k : Nat) (b0 : Dec) (b1 : Dec) (b2 : Dec) (a1 : Dec) (a2 : Dec)
  /-- R392. SLUICE:COEFRAW writes a stage's raw exponent and mantissas. -/
  | sluiceCoefraw (p : Fin 3) (n : Nat) (k : Nat) (e : Int) (m0 : Int) (m1 : Int) (m2 : Int) (m3 : Int) (m4 : Int)
  /-- R392. SLUICE:KI normalises and writes KI in the inactive bank. -/
  | sluiceKi (p : Fin 3) (n : Nat) (ki : Dec)
  /-- R389. SLUICE:DBAND writes a deadband table entry. -/
  | sluiceDband (p : Fin 3) (n : Nat) (i : Nat) (v : Int)
  /-- R390. SLUICE:RIPPLE writes a ripple table entry. -/
  | sluiceRipple (p : Fin 3) (n : Nat) (i : Nat) (v : Int)
  /-- R404. SLUICE:SWAP swaps the named loops' banks at the commit. -/
  | sluiceSwap (p : Fin 3) (ns : List Nat)
  /-- R401. SLUICE:MOORAFTER sets SLC_MOOR_AFTER. -/
  | sluiceMoorafter (p : Fin 3) (n : Nat)
  /-- R568. SLUICE:STAT? returns a loop's state and values. -/
  | sluiceStatQuery (p : Fin 3) (n : Nat)
  /-- R568. SLUICE:MISSED? returns and clears the missed, stale and saturation counts. -/
  | sluiceMissedQuery (p : Fin 3) (n : Nat)
  /-- R405. LIST:ENTRY writes a list entry. -/
  | listEntry (p : Fin 3) (i : Nat) (sp : Int) (dwell : Nat)
  /-- R405. LIST:RANGE sets a loop's list range and repeat. -/
  | listRange (p : Fin 3) (n : Nat) (first : Nat) (last : Nat) (rep : Option Nat)
  /-- R406. LIST:RUN starts a loop's list. -/
  | listRun (p : Fin 3) (n : Nat)
  /-- R406. LIST:STOP puts a running list into HOLD. -/
  | listStop (p : Fin 3) (n : Nat)
  /-- R406. LIST:STEP steps a running list. -/
  | listStep (p : Fin 3) (n : Nat)
  /-- R568. LIST:STAT? returns the index, state and dwell left. -/
  | listStatQuery (p : Fin 3) (n : Nat)
  /-- R418. SLIP:MODE sets a port's mode. -/
  | slipMode (p : Fin 3) (k : Nat) (mode : PortMode)
  /-- R419. SLIP:BUS sets the SPI bus and LDAC settings. -/
  | slipBus (p : Fin 3) (sckdiv : Nat) (cpol : Bool) (ldac : LdacMode) (cyc : Option Nat)
  /-- R420. SLIP:FRAME sets a port's SPI frame format. -/
  | slipFrame (p : Fin 3) (k : Nat) (len : Nat) (vbits : Nat) (vpos : Nat) (prefixv : Nat) (signed : Option Bool) (ldac : Option Bool)
  /-- R424. SLIP:PWM sets a port's HRPWM period, phase, shift and B output. -/
  | slipPwm (p : Fin 3) (k : Nat) (per : Nat) (phase : Nat) (hshift : Nat) (bmode : Option BMode) (dt : Option (Nat × Nat))
  /-- R436. SLIP:SAFE sets a port's safe value. -/
  | slipSafe (p : Fin 3) (k : Nat) (v : Int)
  /-- R417. SLIP:VALUE sets an undriven port's value. -/
  | slipValue (p : Fin 3) (k : Nat) (v : Int)
  /-- R569. SLIP:STAT? returns a port's status and clears SLP_P_LATE. -/
  | slipStatQuery (p : Fin 3) (k : Nat)
  /-- R428. PROT:CHAN sets a loop's voltage and current channels. -/
  | protChan (p : Fin 3) (n : Nat) (v : Nat) (i : Nat)
  /-- R428. PROT:LIMIT sets or disables a digital limit. -/
  | protLimit (p : Fin 3) (n : Nat) (kind : LimitKind) (value : Option Int)
  /-- R429. PROT:PERSIST sets PERSIST. -/
  | protPersist (p : Fin 3) (n : Nat) (k : Nat)
  /-- R428. PROT:UVDLY sets UVDLY. -/
  | protUvdly (p : Fin 3) (n : Nat) (k : Nat)
  /-- R428. PROT:OVRT enables the OVR limit. -/
  | protOvrt (p : Fin 3) (n : Nat) (on : Bool)
  /-- R430. PROT:FAST sets a fast-trip threshold, direction and loops. -/
  | protFast (p : Fin 3) (n : Nat) (th : Nat) (below : Bool) (mask : Nat)
  /-- R430. PROT:FAST OFF sets a fast trip's LOOPS to 0. -/
  | protFastOff (p : Fin 3) (n : Nat)
  /-- R435. PROT:TRIPOUT sets a TRIP pin's loop mask. -/
  | protTripout (p : Fin 3) (j : Nat) (mask : Nat)
  /-- R434. PROT:MOOR latches a SOFT trip for the named loops. -/
  | protMoor (p : Fin 3) (ns : List Nat)
  /-- R434. PROT:CLEAR clears the named trips at the commit. -/
  | protClear (p : Fin 3) (ns : Sel)
  /-- R569. PROT:STAT? returns PRT_TRIPPED and the cause words. -/
  | protStatQuery (p : Fin 3)
  /-- R463. BELL:EN enables or disables a source. -/
  | bellEn (p : Fin 3) (n : Nat) (on : Bool)
  /-- R570. BELL:EN? returns the enables. -/
  | bellEnQuery (p : Fin 3)
  /-- R463. BELL:TARGET sets a target's enable, count and time. -/
  | bellTarget (p : Fin 3) (t : Nat) (on : Bool) (count : Option Nat) (time : Option Nat)
  /-- R570. BELL:TARGET? returns a target's settings and state. -/
  | bellTargetQuery (p : Fin 3) (t : Nat)
  /-- R455. BELL:VEC sets a source's vector. -/
  | bellVec (p : Fin 3) (n : Nat) (v : Nat)
  /-- R456. BELL:CLAIM? claims the lowest pending source for a target. -/
  | bellClaimQuery (p : Fin 3) (t : Nat)
  /-- R457. BELL:COMPLETE completes a source at the commit. -/
  | bellComplete (p : Fin 3) (t : Nat) (n : Nat)
  /-- R570. BELL:STAT? returns the levels, the pending set and the target states. -/
  | bellStatQuery (p : Fin 3)
  /-- R570. BELL:BAD? returns and clears the bad-completion and lost counts. -/
  | bellBadQuery (p : Fin 3)
  /-- R494. FERRY:RING sets a ring's type, size and groups. -/
  | ferryRing (p : Fin 3) (r : Nat) (ty : RingType) (szlog2 : Nat) (groups : Option Nat)
  /-- R494. FERRY:BASE sets a ring's array addresses. -/
  | ferryBase (p : Fin 3) (r : Nat) (d : Nat) (c : Nat)
  /-- R490. FERRY:MOD sets EVERY and HOLD. -/
  | ferryMod (p : Fin 3) (r : Nat) (every : Nat) (hold : Nat)
  /-- R493. FERRY:START starts a ring. -/
  | ferryStart (p : Fin 3) (r : Nat)
  /-- R493. FERRY:STOP stops a ring. -/
  | ferryStop (p : Fin 3) (r : Nat)
  /-- R493. FERRY:RESUME resumes HALTED rings. -/
  | ferryResume (p : Fin 3) (r : Option Nat)
  /-- R486. FERRY:POST posts descriptors to a ring. -/
  | ferryPost (p : Fin 3) (r : Nat) (n : Nat)
  /-- R570. FERRY:STAT? returns a ring's state and books and clears its drop count. -/
  | ferryStatQuery (p : Fin 3) (r : Nat)
  /-- R473. FERRY:BAR2 sets the BAR2 window memory and base. -/
  | ferryBar2 (p : Fin 3) (mem : Mem) (base : Nat)
  /-- R495. FERRY:ABREC sets the ABORT record address. -/
  | ferryAbrec (p : Fin 3) (addr : Nat)
  /-- R570. FERRY:LINK? returns the link speed, width, L1 and D-state. -/
  | ferryLinkQuery (p : Fin 3)
  /-- R509. EMICA:ROLE sets the unit's role and slot. -/
  | emicaRole (p : Fin 3) (role : RigRole) (slot : Option Nat)
  /-- R509. EMICA:MEMBERS sets the expected slots. -/
  | emicaMembers (p : Fin 3) (mask : Nat)
  /-- R515. EMICA:SHARE sets SHCH and CONTRIB. -/
  | emicaShare (p : Fin 3) (ch : Nat) (on : Bool)
  /-- R516. EMICA:GAIN sets KS and CLAMP. -/
  | emicaGain (p : Fin 3) (ks : Nat) (clamp : Nat)
  /-- R518. EMICA:MOOR sets MOOR. -/
  | emicaMoor (p : Fin 3) (on : Bool)
  /-- R523. EMICA:CALRX sets CALRX. -/
  | emicaCalrx (p : Fin 3) (on : Bool)
  /-- R520. EMICA:EARM sets the groups armed by EARM. -/
  | emicaEarm (p : Fin 3) (mask : Nat)
  /-- R510. EMICA:ALIGN makes the master pulse ESYNC. -/
  | emicaAlign (p : Fin 3)
  /-- R520. EMICA:ARM makes the master pulse EARM. -/
  | emicaArm (p : Fin 3)
  /-- R523. EMICA:CALFIRE makes the master drive a calibration EFIRE. -/
  | emicaCalfire (p : Fin 3)
  /-- R522. EMICA:CAL writes EMC_CAL. -/
  | emicaCal (p : Fin 3) (v : Int)
  /-- R571. EMICA:CAL? returns EMC_CAL and CALTAKEN. -/
  | emicaCalQuery (p : Fin 3)
  /-- R516. EMICA:SHCLR zeroes C_raw. -/
  | emicaShclr (p : Fin 3)
  /-- R571. EMICA:STAT? returns the state, hold, ECLK_OK, slots and correction. -/
  | emicaStatQuery (p : Fin 3)
  /-- R571. EMICA:VAL? returns a slot's last frame. -/
  | emicaValQuery (p : Fin 3) (j : Nat)
  /-- R571. EMICA:ABS? returns and clears a slot's absence count. -/
  | emicaAbsQuery (p : Fin 3) (j : Nat)
  /-- R522. EMICA:RIGOFS? returns EMC_RIGOFS. -/
  | emicaRigofsQuery (p : Fin 3)
  /-- R541. STORE:SAVE starts a save of a record. -/
  | storeSave (p : Fin 3) (rec : Nat)
  /-- R543. STORE:RECALL starts a recall of a record. -/
  | storeRecall (p : Fin 3) (rec : Nat) (trim : Bool)
  /-- R546. STORE:APPLY applies the staged setup as one change. -/
  | storeApply (p : Fin 3)
  /-- R545. STORE:VERIFY verifies one record or all records. -/
  | storeVerify (p : Fin 3) (rec : Option Nat)
  /-- R572. STORE:STAT? returns the store status and clears TRL_SKIP. -/
  | storeStatQuery (p : Fin 3)
  /-- R572. STORE:IDENT? returns the IDENT words. -/
  | storeIdentQuery (p : Fin 3)
  /-- R572. STORE:RAW? returns one store word. -/
  | storeRawQuery (p : Fin 3) (addr : Nat)
  /-- R130. PIN:FUNC assigns a pin's function, index and park state. -/
  | pinFunc (p : Fin 3) (n : Nat) (func : Nat) (index : Nat) (park : Option Nat)
  /-- R131. PIN:INV sets a pin's INV, which is a switch. -/
  | pinInv (p : Fin 3) (n : Nat) (on : Bool)
  /-- R128. PIN:GPO sets a pin's GPO level. -/
  | pinGpo (p : Fin 3) (n : Nat) (hi : Nat)
  /-- R119. YARD:ROUTE sets and enables a route. -/
  | yardRoute (p : Fin 3) (k : Nat) (src : Nat) (task : Nat) (target : Nat) (edge : Edge3)
  /-- R572. YARD:ROUTE? returns a route. -/
  | yardRouteQuery (p : Fin 3) (k : Nat)
  /-- R119. YARD:OFF disables a route. -/
  | yardOff (p : Fin 3) (k : Nat)
  /-- R118. YARD:PULSE registers SOFTj at the commit. -/
  | yardPulse (p : Fin 3) (j : Nat)
  /-- R125. YARD:BELL selects a user Bell source's event. -/
  | yardBell (p : Fin 3) (j : Nat) (src : Nat)
  /-- R126. YARD:LOGMASK enables or disables logging of an event code. -/
  | yardLogmask (p : Fin 3) (src : Nat) (on : Bool)
  /-- R572. PIN:FUNC? returns a pin's function settings. -/
  | pinFuncQuery (p : Fin 3) (n : Nat)
  /-- R572. PIN:LEVEL? returns a pin's synchronised level. -/
  | pinLevelQuery (p : Fin 3) (n : Nat)
  /-- R572. YARD:BELL? returns the user Bell selections and status. -/
  | yardBellQuery (p : Fin 3)
  /-- R127. YARD:LOG? returns and removes the oldest log entry. -/
  | yardLogQuery (p : Fin 3)
  /-- R122. YARD:COINC? returns and clears a task's coincidence count. -/
  | yardCoincQuery (p : Fin 3) (task : Nat)
  /-- R123. YARD:IGN? returns and clears a task's ignored count. -/
  | yardIgnQuery (p : Fin 3) (task : Nat)
  /-- R137. YARD:ABORTED? returns and clears YRD_ABORT_DISC. -/
  | yardAbortedQuery (p : Fin 3)
  /-- R124. YARD:SNAP? returns the latched snapshot stamp and tide number. -/
  | yardSnapQuery (p : Fin 3)
  /-- R35. The tide counter expires: the tide number increments, the edge is stamped, and the cycle-0 actions of the tide ledger run. -/
  | tideEdge
  /-- R39. At tide cycle L-10 staging for the coming boundary closes, and the staged changes are checked in R43 order. -/
  | stagingCutoff (reach : Option Nat)
  /-- R216. At tide cycle L-12 every channel's averaging window closes, and MEAN and OVR are formed. -/
  | averagingWindowClose (late : List Late)
  /-- R429. At tide cycle 1 the digital limit sets are evaluated on the latched tide samples, and the violation counts are updated. -/
  | limitEvaluation
  /-- R429. At tide cycle 9, digital, SAMPLE and RIG trips whose counts have been reached are latched. -/
  | protectionLatchCycle
  /-- R397. At its write cycle W, a loop forms OUT from the law, the feed-forward and the pair selection, and writes it to its ports. -/
  | loopOutputWrite (n : Fin 8)
  /-- R131. Four rc after a switch commit, the new function takes the pin, PMX_SWITCHED is set and Bell source 39 is raised. -/
  | pinSwitchTakeover (pads : BitVec 32)
  /-- R417. An undriven SPIDAC port sends its changed SLP_P_VALUE at tide cycle 10. -/
  | slpValueSend (k : Fin 8)
  /-- R423. In CYCLE mode LDAC pulses at LDAC_CYC, or after the frame in progress, if a frame ended since the last pulse. -/
  | ldacCyclePulse
  /-- R51. TIM_NS reaches one second and TIM_SEC increments. -/
  | secondRollover
  /-- R55. One RCLK cycle in 100 applies a 1 ns slew step while the remainder is non-zero. -/
  | slewStep
  /-- R56. A 1PPS edge is qualified, and if accepted it is stamped and disciplines the time of day by a slew or a step. -/
  | ppsEdge (falling : Bool)
  /-- R56. No accepted 1PPS edge for 1.5 s: PPS_LOCK clears, PPS_LOST is set and Bell source 7 is raised. -/
  | ppsLostTimeout
  /-- R78. A UART character is received and handled by the line assembler; a framing error or break is counted. -/
  | uartByteReceived (b : BitVec 8) (bad : Bool)
  /-- R73. The host changes UART_RTS_N, which pauses or resumes UART transmission. -/
  | uartRtsChange (high : Bool)
  /-- R75. DSPI_CS_N falls: the SPI mode is taken and the status byte is sampled for sending. -/
  | spiCsFall (sckHigh : Bool)
  /-- R75. A full-duplex SPI byte moves one input character to the assembler and one output byte out of the buffer. -/
  | spiByteTransfer (mosi : BitVec 8)
  /-- R112. DSPI_CS_N rises and ends the frame; a partial byte is discarded and counted. -/
  | spiCsRise (cut : Bool)
  /-- R76. A write to CMD_MB_IN delivers four bytes to the mailbox line assembler. -/
  | cmdMbInWrite (v : BitVec 32)
  /-- R76. A read of CMD_MB_OUT returns up to four output bytes and removes them from the buffer. -/
  | cmdMbOutRead
  /-- R88. Parsing of a line completes: the line is staged, or its query or parse error is answered. -/
  | lineParseComplete (p : Fin 3)
  /-- R98. A waiting response enters the port's output buffer whole once room exists, and its queue slot frees. -/
  | responsePlaced (p : Fin 3)
  /-- R93. A pending asynchronous line is placed between response lines, with the partial line re-echoed. -/
  | asyncLineEmit (p : Fin 3)
  /-- R72. A new baud rate takes effect once the response to the line that set it has been sent. -/
  | uartRateApply
  /-- R83. A line holding only a tag is answered with the tag and OK, in line order. -/
  | bareTag (p : Fin 3) (tag : Nat)
  /-- R100. ABORT_N held low for 2 RCLK cycles takes an abort. -/
  | abortNLow
  /-- R100. A write of SYS_ABORT.GO takes an abort. -/
  | sysAbortGo
  /-- R101. By 4.5 µs the bursts in flight are done, the Ferry has written its ABORT record, and acquisition and Tally are stopped. -/
  | abortDrained
  /-- R101. By 5.0 µs !ABORTED is placed on every port and ABORT_DONE, Bell source 5, is raised. -/
  | abortedEmit
  /-- R117. A pad level change on a multi-function pin is synchronised and registered as an MF event, or ignored in a park window. -/
  | mfPinLevelChange (n : Fin 32) (level : Bool)
  /-- R118. A write to YRD_PULSE registers the SOFTj events. -/
  | yrdPulseWrite (v : BitVec 8)
  /-- R127. A read of YRD_LOG_Q0 returns and removes the oldest log entry and latches its upper bits. -/
  | yrdLogRead (q : Requester)
  /-- R142. The reference monitor declares REFIN absent: RCLK stops, the Lighthouses gate, the Dock self-refreshes and REFGOOD is pulled low. -/
  | refinAbsentDeclared
  /-- R170. After 1000 good periods REFIN is declared present: RCLK resumes, the Lighthouses acquire, flags are set and HRPWM loops trip. -/
  | refinPresentDeclared
  /-- R148. A Lighthouse completes band selection and phase pull-in, and its first counter window starts. -/
  | pullInComplete (h : Synth)
  /-- R148. A counter window ends and is judged: it counts toward lock, withdraws lock, or declares a loss of lock. -/
  | lockWindowEnd (h : Synth) (count : Nat)
  /-- R149. A LOCKED Lighthouse starts its outputs at a tide edge; LHS also switches the time base to TCLK. -/
  | lighthouseResume (h : Synth)
  /-- R150. The phase monitor finds the error over PH_LIM on 3 periods: the outputs are gated, CLK_UNLOCK is raised and the blocks react. -/
  | lockLossPhase (h : Synth)
  /-- R152. The Capstan delay line locks after CTRL goes ON, and DLL_READY sets. -/
  | capstanDllLocked
  /-- R153. CAP_LOCKF rises above 0.60 V and CLK_CAP_STAT.LOCK sets. -/
  | capstanLockSet
  /-- R154. CAP_LOCKF falls below 0.40 V: LOCK clears, SOFT is set, HRPWM ports park and a CAPSTAN trip latches. -/
  | capstanLockClear
  /-- R154. The delay-line error exceeds 4 steps on 2 cycles or the control reaches an end stop: HARD is set and a CAPSTAN trip latches. -/
  | capstanHardFault
  /-- R155. An armed SYNCIN or ESYNC edge is registered at edge S, or is counted as skipped. -/
  | syncEdgeRegister (esync : Bool) (falling : Bool)
  /-- R156. At E = S + 8 rc the selected tide, LHS, LHA and CAP targets are realigned, and CLK_SYNC_TS is stamped. -/
  | syncRealign
  /-- R156. A SYNCING Lighthouse-A resumes ACLK at a tide edge once its phase has held for 64 periods. -/
  | lhaSyncResume
  /-- R176. A STARTING domain enters ON at a tide edge; PWR_DONE is set and Bell source 38 is raised. -/
  | domainOnEntry (d : Dom)
  /-- R180. A DRAINING domain whose work is done goes OFF at a tide edge; PWR_DONE is set and Bell source 38 is raised. -/
  | domainOffEntry (d : Dom)
  /-- R180. At edge k+2 the remaining work is discarded and counted, and the domain goes OFF. -/
  | drainLimitReached (d : Dom)
  /-- R193. A power switch not good within four times the STARTING time returns the domain and its dependants to OFF, and sets PWR_FAIL. -/
  | domainStartFail (d : Dom)
  /-- R613. VCORE, VAUX or VCLK falls below its threshold and asserts a unit reset. -/
  | powerOnReset
  /-- R182. RESET_N held low for 100 ns asserts a unit reset. -/
  | resetNAssert
  /-- R185. PERST# goes low while HOST is ON and resets the unit or HOST alone, according to SCOPE. -/
  | perstAssert
  /-- R185. PERST# rises: a HOST-only reset ends and the endpoint retrains. -/
  | perstRelease
  /-- R183. A write of SYS_RESET with the key asserts a unit reset, or is ignored and counted. -/
  | sysResetWrite (v : BitVec 32)
  /-- R182. The internal reset releases on an RCLK edge, BOOTHOST is sampled, PWR_RST_CAUSE is set and HOST starts if strapped. -/
  | resetRelease (boothost : Bool)
  /-- R184. PCIe link training completes and the endpoint becomes reachable. -/
  | linkUp (speed : Fin 4) (width : Fin 8)
  /-- R502. The PCIe link goes down: the rings fault with cause LINK and the MSI-X targets are withdrawn. -/
  | linkDown
  /-- R496. The function enters or leaves D3hot; on return to D0, the held MSI-X messages and the Ferry resume. -/
  | pciePowerStateChange (d3 : Bool)
  /-- R462. MSI-X Enable or Bus Master Enable changes, which makes the MSI-X targets eligible or withdraws them. -/
  | msixConfigChange (enable : Bool) (busMaster : Bool)
  /-- R455. Unmasking a vector sends its held MSI-X message. -/
  | msixVectorUnmask (v : Fin 16)
  /-- R212. A Berth's input is out of range: values saturate, OVR holds and extends to the neighbour, and the event is counted with Bell source 16+b. -/
  | berthOverRange (b : Fin 8) (cyc : Nat) (positive : Bool)
  /-- R205. A skew calibration round ends and computes per-Berth errors and trim steps for the next boundary. -/
  | skewRoundComplete (sums : List (Option Int))
  /-- R207. A block of 2^20 samples per Berth ends, and background offset and gain updates are computed. -/
  | matchBlockComplete (ch : Fin 8)
  /-- R209. A write of BRT_CAL_CMD.BG_CLEAR zeroes every background term at the next boundary. -/
  | brtBgClearWrite
  /-- R229. A Pilot comparator makes its configured crossing, which is timed on the Pilot lane and registered in the Yard. -/
  | comparatorCrossing (n : Fin 8) (e : LaneEdge)
  /-- R230. At the end of cycle 19 the comparator's state against the new threshold becomes its reference, and suppression ends. -/
  | thresholdSettleEnd (n : Fin 8) (high : Bool)
  /-- R232. A configured edge on a TRIGIN pin is timed on the Pilot lane. -/
  | triginEdge (j : Fin 2) (e : LaneEdge)
  /-- R236. A digital detector fires on the sample stream, with its trigger sample and interpolated fraction. -/
  | digitalDetectorFire (d : Fin 8)
  /-- R240. An event enters its engine at cycle 54, placed on the sample grid, and is combined, qualified and checked against rate and holdoff. -/
  | engineEventEntry (g : Fin 8)
  /-- R241. An AB window closes unused when its WIN time passes. -/
  | abWindowExpire (g : Fin 8)
  /-- R248. The EFIRE pulse ends after WIDTH tc. -/
  | efirePulseEnd
  /-- R249. A TRIGOUT pulse ends after WIDTH tc. -/
  | trigoutPulseEnd (j : Fin 2)
  /-- R247. A write of PLT_SOFT presents a SOFT event to the named engines. -/
  | pltSoftWrite (v : BitVec 8)
  /-- R269. A segment group reaches its ready sample r and enters ARMED_READY. -/
  | readySampleReached (g : Fin 8)
  /-- R268. Sample e of a segment is taken, and the group ends capture for that segment. -/
  | segmentCaptureEnd (g : Fin 8)
  /-- R274. The header and directory entry are written and SEG_DONE is raised; the group re-arms, or ends through CLOSING. -/
  | segmentHeaderWritten (g : Fin 8)
  /-- R297. A CLOSING group has written its last header, GAP or STOP record and goes IDLE with DONE set. -/
  | groupCloseComplete (g : Fin 8)
  /-- R285. A stream block begins in a free staging buffer, or is dropped and counted with STREAM_GAP raised. -/
  | streamBlockBegin (g : Fin 8)
  /-- R284. A block's last word leaves the capture engine, and the block is offered to the Ferry. -/
  | streamBlockComplete (g : Fin 8)
  /-- R301. A Watermark interval of D samples ends and forms its output slots. -/
  | decimatorIntervalEnd (g : Fin 8) (ch : Fin 8)
  /-- R265. A write of ACQ_G_CMD.ARM arms a segment group, or is refused under R266. -/
  | acqGCmdArm (g : Fin 8)
  /-- R275. A write of ACQ_G_CMD.DISARM disarms a segment group. -/
  | acqGCmdDisarm (g : Fin 8)
  /-- R265. A write of ACQ_G_CMD.START starts a stream group. -/
  | acqGCmdStart (g : Fin 8)
  /-- R288. A write of ACQ_G_CMD.STOP stops a stream group with a STOP record. -/
  | acqGCmdStop (g : Fin 8)
  /-- R310. The period T_SWEEP expires and a histogram flush sweep begins. -/
  | histSweepStart (h : Fin 8)
  /-- R310. A sweep completes: FLUSH_STAMP is written, SWEEPS advances, and a served flush or final sweep sets HDONE. -/
  | histSweepComplete (h : Fin 8)
  /-- R312. A write of WHS_H_CMD.FLUSH requests a flush served by the next sweep. -/
  | whsHCmdFlush (h : Fin 8)
  /-- R314. The hits of a taken segment have been written to the map cells. -/
  | mapHitsWritten (m : Fin 2)
  /-- R316. A due decay sweep starts once the segment's hits are written and no other sweep runs. -/
  | mapDecayStart (m : Fin 2)
  /-- R316. A decay sweep halving every cell completes. -/
  | mapDecayComplete (m : Fin 2)
  /-- R330. A write of DCK_CHn_CMD.TRAIN starts Dock training. -/
  | dckTrainWrite (n : Fin 2)
  /-- R331. A training step meets its criterion and the next step begins; after step 5 STATE becomes TRAINED. -/
  | dockTrainStepDone (n : Fin 2)
  /-- R347. Training has not completed within 5 ms: STATE becomes FAILED and TRAINFAIL is set. -/
  | dockTrainTimeout (n : Fin 2)
  /-- R333. A refresh round begins with its refresh block, and a new calendar takes effect at this boundary. -/
  | refreshRoundStart (n : Fin 2)
  /-- R346. ALERT_N asserts: recent bursts are marked bad, MEMERR is set and PARITY is raised. -/
  | alertNAssert (n : Fin 2)
  /-- R348. After the Lighthouse-S resume the Dock leaves self-refresh, issues ZQCS and starts a new round. -/
  | dockSelfrefExit (n : Fin 2)
  /-- R474. A BAR2 read is served through free calendar slots, or completes with Completer Abort status. -/
  | bar2Read (off : Nat) (dws : Nat)
  /-- R474. A BAR2 read not served within 1 ms completes with Completer Abort status and is counted. -/
  | bar2ReadTimeout
  /-- R475. A BAR2 write latches a slot, or writes the whole word on slot 3. -/
  | bar2Write (off : Nat) (v : BitVec 32)
  /-- R361. A user lane accepts an edge, stamps it, and forms results, statistics and the Yard TLY event. -/
  | tallyEdgeAccepted (l : Fin 4) (e : LaneEdge)
  /-- R366. No closing or opening edge within GATE + STILL: a STILL result with VALUE 0 is issued. -/
  | freqStillTimeout (l : Fin 4)
  /-- R367. An interval still open after 2^32 tc is issued as an OVF result. -/
  | intervalOverflow (l : Fin 4)
  /-- R355. A lane's code-density histogram reaches 4 194 304 hits, and its new table is built and validated. -/
  | tallyCalHitsComplete (l : Fin 6) (h : List Nat)
  /-- R357. A write of TLY_CAL_CMD.GO starts a calibration of the lanes set. -/
  | tlyCalGoWrite (m : BitVec 6)
  /-- R358. A write of TLY_CAL_CMD.LOAD checks the inactive table and swaps it at the next boundary, or sets CALFAIL. -/
  | tlyCalLoadWrite (m : BitVec 6)
  /-- R358. An access of TLY_TBL_DATA reads or writes a table entry and advances INDEX. -/
  | tlyTblDataAccess (w : Option (BitVec 16))
  /-- R368. A write of TLY_L_CMD.START starts a user lane run. -/
  | tlyLCmdStart (l : Fin 4)
  /-- R368. A write of TLY_L_CMD.STOP ends a user lane run. -/
  | tlyLCmdStop (l : Fin 4)
  /-- R370. A read of TLY_L_FIFO_Q0 removes the oldest result and latches its upper bits. -/
  | tlyFifoRead (q : Requester) (l : Fin 4)
  /-- R372. A filtered encoder level changes: the position, direction and speed are updated and detent steps accumulate. -/
  | knobCountEdge (a : Bool) (b : Bool) (count : Nat)
  /-- R373. No knob edge for STILL ms: SPEED becomes 0 and STILL is set. -/
  | knobStillTimeout
  /-- R406. An entry's dwell ends and the next list entry applies, or the list goes to HOLD with LISTEND. -/
  | listDwellExpire (n : Fin 8)
  /-- R404. A write of SLC_SWAP stages bank swaps for the named loops. -/
  | slcSwapWrite (m : BitVec 8)
  /-- R406. A write of SLC_STEP stages a list step for the running named loops. -/
  | slcStepWrite (m : BitVec 8)
  /-- R406. A write of SLC_L_LISTCMD.RUN stages a list run. -/
  | slcListcmdRun (n : Fin 8)
  /-- R406. A write of SLC_L_LISTCMD.STOP stages a list stop into HOLD. -/
  | slcListcmdStop (n : Fin 8)
  /-- R422. A requested SPI-DAC frame starts when the shared bus is free. -/
  | spidacFrameStart
  /-- R421. An SPI-DAC frame ends with CS_N rising, and an AFTER-mode LDAC pulse follows. -/
  | spidacFrameEnd (k : Fin 8)
  /-- R426. Eight rc before a period starts, the port takes the value for that period. -/
  | hrpwmValueSample (k : Fin 8)
  /-- R424. An HRPWM period starts and A and B are placed on Capstan phases. -/
  | hrpwmPeriodStart (k : Fin 8)
  /-- R430. A fast-trip comparator enters its tripping state: HRPWM pins park, TRIP pins assert and a FAST trip latches. -/
  | fastTripCrossing (n : Fin 8)
  /-- R434. A write of PRT_CMD.CLEAR clears the named trips and releases their ports. -/
  | prtCmdClear (m : BitVec 8)
  /-- R434. A write of PRT_CMD.MOOR latches a SOFT trip for the named loops. -/
  | prtCmdMoor (m : BitVec 8)
  /-- R453. When |P| > D, one delivery goes to the next eligible, free and met target in rotation. -/
  | bellDelivery
  /-- R455. A queued MSI-X message is sent once the link is in L0 and the vector is unmasked. -/
  | msixMessageSend
  /-- R456. A read of BEL_CLAIM_t claims the lowest pending source for the target and releases its INT pin. -/
  | belClaimRead (t : Fin 4)
  /-- R457. A write of BEL_COMPLETE_t ends the service of a source, or is counted as a bad completion. -/
  | belCompleteWrite (t : Fin 4) (n : BitVec 6)
  /-- R463. A write of BEL_EN enables or disables sources at once. -/
  | belEnWrite (hi : Bool) (v : BitVec 32)
  /-- R488. A descriptor fetch read completes, or faults the ring with cause FETCH. -/
  | descriptorFetchComplete (r : Fin 8) (res : Option (List Desc))
  /-- R486. The Ferry begins the descriptor at HEAD, moving it from DEV to INFL, or faults the ring if it is bad. -/
  | descriptorIssue (r : Fin 8)
  /-- R480. A descriptor's data and completion record are written, it moves to HOST, and DONE may be set. -/
  | descriptorComplete (r : Fin 8)
  /-- R482. A MARK or MONITOR descriptor completes after HOLD tides. -/
  | bufferHoldExpire (r : Fin 8)
  /-- R485. A LOAD data read from host memory completes, and its words are written to quay memory, or HOST_ERR is reported. -/
  | loadReadComplete (r : Fin 8) (res : Option (List Quay))
  /-- R492. A STOPPING ring has nothing in flight, makes the return move and enters STOPPED. -/
  | ringStopDone (r : Fin 8)
  /-- R493. A write of FRY_R_CMD.START starts a ring with its books reset. -/
  | fryRCmdStart (r : Fin 8)
  /-- R492. A write of FRY_R_CMD.STOP puts a ring into STOPPING. -/
  | fryRCmdStop (r : Fin 8)
  /-- R492. A write of FRY_R_CMD.RESUME returns a HALTED ring to RUNNING. -/
  | fryRCmdResume (r : Fin 8)
  /-- R486. A write of FRY_R_POST moves n slots from HOST to DEV. -/
  | fryRPostWrite (r : Fin 8) (n : BitVec 16)
  /-- R512. The master sends its poll frame in slot 0 at tide cycle 10. -/
  | emicaPollSend
  /-- R512. A polled member sends its share frame in its own slot. -/
  | emicaSlotSend
  /-- R514. A frame is received in a slot and judged valid or absent; a collision in the own slot is flagged. -/
  | emicaFrameReceived (j : Fin 8) (w : BitVec 17)
  /-- R516. At tide cycle L-8 presence is frozen, the share integrator updates or holds, and the slot states move. -/
  | emicaDeadline (eclk : Nat)
  /-- R510. The master drives ESYNC at cycle L-9 for an alignment. -/
  | esyncPulse
  /-- R520. The master drives EARM at tide cycle 1. -/
  | earmPulse
  /-- R520. EARM registers on every unit, and the GROUPS are armed at cycle 3 or counted as refused. -/
  | earmReceived
  /-- R523. The master drives EFIRE for calibration from tide cycle 50. -/
  | calfirePulse
  /-- R521. A received EFIRE edge is timed on the Pilot lane, registers the Yard EFIRE event, and may set EMC_CAL. -/
  | efireReceived (e : LaneEdge)
  /-- R510. A write of EMC_CMD.ALIGN on the master requests an ESYNC pulse. -/
  | emcCmdAlign
  /-- R520. A write of EMC_CMD.ARM on the master requests an EARM pulse. -/
  | emcCmdArm
  /-- R523. A write of EMC_CMD.CALFIRE on the master requests a calibration pulse. -/
  | emcCmdCalfire
  /-- R516. A write of EMC_CMD.SHCLR zeroes C_raw at the next boundary. -/
  | emcCmdShclr
  /-- R541. A write of TRL_CMD with SAVE starts a save of a record. -/
  | trlCmdSave (rec : BitVec 5)
  /-- R543. A write of TRL_CMD with RECALL starts a recall of a record. -/
  | trlCmdRecall (rec : BitVec 5) (trim : Bool)
  /-- R545. A write of TRL_CMD with VERIFY starts a verify of a record. -/
  | trlCmdVerify (rec : BitVec 5)
  /-- R546. A write of TRL_APPLY.GO stages the application of the staged setup as one change. -/
  | trlApplyGo
  /-- R549. A read of TRL_RAW_DATA returns a store word and advances the address. -/
  | trlRawDataRead (q : Requester)
  /-- R541. A copy write and its read-back finish: the next copy begins, a retry or failure follows, or the save ends with DONE. -/
  | storeSaveCopyDone (good : Bool)
  /-- R543. Both copies are read and judged: the record is staged for application or for APPLY, or the recall fails. -/
  | storeRecallReadDone
  /-- R545. A verify finishes and sets BAD, ONECOPY and EMPTY. -/
  | storeVerifyDone
  /-- R53. A write of TIM_SET_CTRL.GO stages a time-of-day set and sets PENDING. -/
  | timSetCtrlGo
  /-- R54. A write of TIM_SET_CTRL.CANCEL discards the staged set. -/
  | timSetCtrlCancel
  /-- R55. A write of TIM_ADJ adds to the slew remainder. -/
  | timAdjWrite (v : BitVec 32)
  /-- R46. A write of SYS_GUARD stages an epoch guard over the following PCIe writes of the tide. -/
  | sysGuardWrite (v : BitVec 32)
  /-- R149. A write of CLK_LHA_CTRL.RESUME resumes a LOCKED Lighthouse-A at the next tide edge. -/
  | clkLhaResumeWrite
  /-- R149. A write of CLK_LHS_CTRL.RESUME resumes a LOCKED Lighthouse-S at the next tide edge. -/
  | clkLhsResumeWrite
  /-- R601. A read of a snapshot register latches its siblings for that requester. -/
  | snSnapshotRead (q : Requester) (off : Nat)
  /-- R14. A read of a read-clear field returns its value and clears it on the same edge. -/
  | rcReadClear (q : Requester) (off : Nat)
  /-- R39. A BAR0 write to a register without a row of its own is staged, applied, or dropped and counted. -/
  | registerWrite (off : Nat) (v : BitVec 32) (be : BitVec 4)
  /-- R640. A new TAP instruction takes effect, and the balls follow the boundary register or return to their functions. -/
  | tapInstructionUpdate (ir : BitVec 8)
  /-- R72. The UART transmitter finishes sending a character, removes it from the output buffer and starts the next unless UART_RTS_N holds it back. -/
  | uartCharacterSent
  /-- R204. A channel's quay word is handed to the capture write, stream staging, the Watermark and the Warehouse when its slot-3 sample is presented at ACLK cycle 48. -/
  | quayWordHandedOver (ch : Fin 8) (cyc : Nat) (xs : List Sample)
  /-- R339. A calendar slot passes and carries one BL8 burst of its owner or of the free-slot client in R339 order, serving BAR2 reads and client bursts. -/
  | calendarSlot (n : Fin 2)
  /-- R315. A map started with CLEAR finishes zeroing its region, CLEARING returns to 0 and segments are taken again. -/
  | mapClearComplete (m : Fin 2)
  /-- R430. A fast-trip comparator's input returns past its hysteresis point and the comparator leaves its tripping state. -/
  | fastTripStateLeft (n : Fin 8)
  /-- R461. The PCIe link enters the L1 low-power state under ASPM, FRY_LINK.L1 is set, and later MSI-X and Ferry requests must first wake it. -/
  | aspmL1Entry
  /-- R472. A BAR0 read longer than one DW completes with Completer Abort status and advances SYS_IGNORED with SYS_CONFLICT.IGNORED set. -/
  | bar0MultiDwRead (off : Nat)
  /-- R642. VDDQ falls below 1.10 V while DOCK is ON and the external memory contents are lost without RETAINED clearing. -/
  | vddqFall
  deriving DecidableEq, Repr

end Sys2Proof
end

