-- ==== Sys2Proof/Machine/Bits.lean ====
section
/-! DEFINITION. Bit fields, signed fields and saturation on the integers that registers hold. -/

namespace Sys2Proof.Machine

/-- The field of `w` bits from bit `lo` of x. -/
def bits (x lo w : Nat) : Nat := x / 2 ^ lo % 2 ^ w

/-- x with the field of `w` bits from bit `lo` replaced by v. -/
def putBits (x lo w v : Nat) : Nat := x - bits x lo w * 2 ^ lo + v % 2 ^ w * 2 ^ lo

/-- The two's complement value of a field of `w` bits (R5). -/
def toSigned (w x : Nat) : Int := if x % 2 ^ w < 2 ^ (w - 1) then (x % 2 ^ w : Int) else (x % 2 ^ w : Int) - 2 ^ w

/-- The field of `w` bits that holds a two's complement value (R5). -/
def ofSigned (w : Nat) (i : Int) : Nat := (i % 2 ^ w).toNat

/-- A bit as a number. -/
def b2n (b : Bool) : Nat := if b then 1 else 0

/-- Saturation of an integer to lo..hi. -/
def clampInt (lo hi x : Int) : Int := if x < lo then lo else if x > hi then hi else x

/-- A count advanced by n that saturates at `top`. -/
def satAdd (top x n : Nat) : Nat := if x + n ≤ top then x + n else top

/-- The bits of a mask, lowest first, below `n`. -/
def maskBits (n m : Nat) : List Nat := (List.range n).filter fun i => bits m i 1 == 1

/-- The mask whose bits are the numbers of a list. -/
def maskOf (l : List Nat) : Nat := l.foldl (fun m i => m ||| 2 ^ i) 0

/-- Division of integers, rounded half away from zero. -/
def roundDiv (n d : Int) : Int := if n ≥ 0 then (2 * n + d) / (2 * d) else -((2 * (-n) + d) / (2 * d))

/-- Arithmetic right shift with floor. -/
def asr (x : Int) (k : Nat) : Int := Int.fdiv x (2 ^ k)

/-- Integer square root, rounded down, by binary search on `fuel` bits. -/
def isqrtGo (n : Nat) : Nat → Nat → Nat
  | 0, r => r
  | f + 1, r => let c := r + 2 ^ f; isqrtGo n f (if c * c ≤ n then c else r)

/-- Integer square root of a number below 2^160, rounded down. -/
def isqrt (n : Nat) : Nat := isqrtGo n 80 0

end Sys2Proof.Machine
end

