-- ==== Sys2Proof/Machine/RegMap.lean ====
section
/-! DEFINITION. The BAR0 register map (R578 to R599): the offset of every register, the access masks of its
fields (R9, and the field tables of the block chapters) and its value after reset (R582). -/

namespace Sys2Proof.Machine

/-- One row of the register map: `count` registers, `stride` bytes apart from `base`. The masks give the
writable bits of each access code of R9: `ta` tide-applied, `rw` read and write, `w1c` write 1 to clear,
`wo` write-only action bits; `rc` gives the bits a read clears and `sn` a snapshot register (R600). -/
structure RegRow where
  base : Nat
  count : Nat
  stride : Nat
  ta : Nat
  rw : Nat
  w1c : Nat
  wo : Nat
  rc : Nat
  sn : Bool
  reset : Nat
  deriving DecidableEq, Repr

def SYS_ID : Nat := 0x0
def SYS_STEP : Nat := 0x4
def SYS_TIDE_LEN : Nat := 0x10
def TIM_TIDE_LO : Nat := 0x20
def TIM_TIDE_HI : Nat := 0x24
def TIM_NOW_Q0 : Nat := 0x30
def TIM_NOW_Q12 (n : Nat) : Nat := 0x34 + 4 * n
def TIM_EDGE_Q0 : Nat := 0x40
def TIM_EDGE_Q12 (n : Nat) : Nat := 0x44 + 4 * n
def TIM_EDGE_TIDE (n : Nat) : Nat := 0x4C + 4 * n
def TIM_STAT : Nat := 0x60
def TIM_SEC_LO : Nat := 0x70
def TIM_SEC_HI : Nat := 0x74
def TIM_NS : Nat := 0x78
def TIM_SET_SEC_LO : Nat := 0x80
def TIM_SET_SEC_HI : Nat := 0x84
def TIM_SET_NS : Nat := 0x88
def TIM_SET_CTRL : Nat := 0x8C
def TIM_ADJ : Nat := 0x90
def TIM_ADJ_LEFT : Nat := 0x94
def TIM_PPS_CTRL : Nat := 0xA0
def TIM_PPS_ERR : Nat := 0xA4
def TIM_PPS_COUNT : Nat := 0xA8
def TIM_PPS_TS_Q0 : Nat := 0xB0
def TIM_PPS_TS_Q12 (n : Nat) : Nat := 0xB4 + 4 * n
def SYS_EPOCH : Nat := 0x100
def SYS_GUARD : Nat := 0x104
def SYS_CONFLICT : Nat := 0x108
def SYS_CONFLICT_ADDR : Nat := 0x10C
def SYS_IGNORED : Nat := 0x110
def SYS_BADADDR : Nat := 0x114
def SYS_ABORT : Nat := 0x140
def SYS_RESET : Nat := 0x144
def CLK_STAT : Nat := 0x1000
def CLK_UNLOCK_CNT : Nat := 0x1004
def CLK_SYNC_CTRL : Nat := 0x1010
def CLK_SYNC_STAT : Nat := 0x1014
def CLK_SYNC_SKIP : Nat := 0x1018
def CLK_SYNC_TS_Q0 : Nat := 0x1020
def CLK_SYNC_TS_Q12 (n : Nat) : Nat := 0x1024 + 4 * n
def CLK_LHA_FCW_LO : Nat := 0x1100
def CLK_LHA_FCW_HI : Nat := 0x1104
def CLK_LHA_CFG : Nat := 0x1108
def CLK_LHA_STAT : Nat := 0x110C
def CLK_LHA_COUNT : Nat := 0x1110
def CLK_LHA_CTRL : Nat := 0x1114
def CLK_LHA_FCW_NOW_LO : Nat := 0x1118
def CLK_LHS_CFG : Nat := 0x1200
def CLK_LHS_STAT : Nat := 0x1204
def CLK_LHS_COUNT : Nat := 0x1208
def CLK_LHS_CTRL : Nat := 0x120C
def CLK_CAP_STAT : Nat := 0x1300
def PWR_TARGET : Nat := 0x2000
def PWR_STATE : Nat := 0x2004
def PWR_DONE : Nat := 0x2008
def PWR_FAIL : Nat := 0x200C
def PWR_RST_CAUSE : Nat := 0x2010
def PWR_STRAP : Nat := 0x2014
def PWR_RST_CFG : Nat := 0x2018
def PWR_DISCARD (n : Nat) : Nat := 0x2104 + 4 * n
def BRT_ROUTE : Nat := 0x4000
def BRT_CHAN_STAT : Nat := 0x4004
def BRT_CAL_CTRL : Nat := 0x4010
def BRT_CAL_STAT : Nat := 0x4014
def BRT_CAL_CMD : Nat := 0x4018
def BRT_SKEW_ROUNDS : Nat := 0x401C
def BRT_OVR_STAT : Nat := 0x4020
def BRT_MON_STAT : Nat := 0x4024
def BRT_MON_CFG : Nat := 0x4028
def BRT_TRIM (n : Nat) : Nat := 0x4100 + 4 * n
def BRT_OFS (n : Nat) : Nat := 0x4120 + 4 * n
def BRT_GAIN (n : Nat) : Nat := 0x4140 + 4 * n
def BRT_OVR_CNT (n : Nat) : Nat := 0x4160 + 4 * n
def BRT_SKEW_ERR (n : Nat) : Nat := 0x4180 + 4 * n
def BRT_MON (n : Nat) : Nat := 0x4200 + 4 * n
def BRT_SNAP (n : Nat) : Nat := 0x4220 + 4 * n
def BRT_MONCNT (n : Nat) : Nat := 0x4240 + 4 * n
def BRT_T0_Q0 (n : Nat) : Nat := 0x4300 + 16 * n
def BRT_T0_Q1 (n : Nat) : Nat := 0x4304 + 16 * n
def BRT_T0_Q2 (n : Nat) : Nat := 0x4308 + 16 * n
def PLT_CMP_LVL : Nat := 0x6000
def PLT_COLLIDE : Nat := 0x6004
def PLT_SUPPRESS : Nat := 0x6008
def PLT_SOFT : Nat := 0x600C
def PLT_EFIRE_CFG : Nat := 0x6010
def PLT_EFIRE_SKIP : Nat := 0x6014
def PLT_TRIGOUT (n : Nat) : Nat := 0x6018 + 4 * n
def PLT_TRIGIN (n : Nat) : Nat := 0x6020 + 4 * n
def PLT_TRIGIN_DLY (n : Nat) : Nat := 0x6028 + 4 * n
def PLT_CMP (n : Nat) : Nat := 0x6100 + 8 * n
def PLT_CMP_DLY (n : Nat) : Nat := 0x6104 + 8 * n
def PLT_DIG_CFG (n : Nat) : Nat := 0x6200 + 32 * n
def PLT_DIG_TH (n : Nat) : Nat := 0x6204 + 32 * n
def PLT_DIG_W1 (n : Nat) : Nat := 0x6208 + 32 * n
def PLT_DIG_W2 (n : Nat) : Nat := 0x620C + 32 * n
def PLT_DIG_SPAN (n : Nat) : Nat := 0x6210 + 32 * n
def PLT_ENG_CFG (n : Nat) : Nat := 0x6400 + 128 * n
def PLT_ENG_QUAL (n : Nat) : Nat := 0x6404 + 128 * n
def PLT_ENG_WIN (n : Nat) : Nat := 0x6408 + 128 * n
def PLT_ENG_HOLD_LO (n : Nat) : Nat := 0x640C + 128 * n
def PLT_ENG_HOLD_HI (n : Nat) : Nat := 0x6410 + 128 * n
def PLT_ENG_STAT (n : Nat) : Nat := 0x6414 + 128 * n
def PLT_TRIG_CNT_LO (n : Nat) : Nat := 0x6418 + 128 * n
def PLT_TRIG_CNT_HI (n : Nat) : Nat := 0x641C + 128 * n
def PLT_REJ_HOLD (n : Nat) : Nat := 0x6420 + 128 * n
def PLT_REJ_RATE (n : Nat) : Nat := 0x6424 + 128 * n
def PLT_REJ_QUAL (n : Nat) : Nat := 0x6428 + 128 * n
def PLT_NOGRID (n : Nat) : Nat := 0x642C + 128 * n
def PLT_LAST_Q0 (n : Nat) : Nat := 0x6430 + 128 * n
def PLT_LAST_Q1 (n : Nat) : Nat := 0x6434 + 128 * n
def PLT_LAST_Q2 (n : Nat) : Nat := 0x6438 + 128 * n
def PLT_LAST_INFO (n : Nat) : Nat := 0x643C + 128 * n
def PLT_LAST_IDX_LO (n : Nat) : Nat := 0x6440 + 128 * n
def PLT_LAST_IDX_HI (n : Nat) : Nat := 0x6444 + 128 * n
def ACQ_STAT : Nat := 0x8000
def ACQ_EVT : Nat := 0x8004
def ACQ_QBUF_USED : Nat := 0x8008
def MAN_DIR_CFG : Nat := 0x8040
def MAN_DIR_BASE : Nat := 0x8044
def MAN_DIR_LEN : Nat := 0x8048
def MAN_DIR_NEXT : Nat := 0x804C
def MAN_DIR_WRAPS : Nat := 0x8050
def MAN_SEQ : Nat := 0x8054
def ACQ_G_CFG (n : Nat) : Nat := 0x8100 + 128 * n
def ACQ_G_PRE (n : Nat) : Nat := 0x8104 + 128 * n
def ACQ_G_POST (n : Nat) : Nat := 0x8108 + 128 * n
def ACQ_G_BASE (n : Nat) : Nat := 0x810C + 128 * n
def ACQ_G_SIZE (n : Nat) : Nat := 0x8110 + 128 * n
def ACQ_G_COUNT (n : Nat) : Nat := 0x8114 + 128 * n
def ACQ_G_CMD (n : Nat) : Nat := 0x8118 + 128 * n
def ACQ_G_STAT (n : Nat) : Nat := 0x811C + 128 * n
def ACQ_G_SEGS (n : Nat) : Nat := 0x8120 + 128 * n
def ACQ_G_REJ (n : Nat) : Nat := 0x8124 + 128 * n
def ACQ_G_DEADSUM_Q0 (n : Nat) : Nat := 0x8128 + 128 * n
def ACQ_G_DEADSUM_Q1 (n : Nat) : Nat := 0x812C + 128 * n
def ACQ_G_DEADSUM_Q2 (n : Nat) : Nat := 0x8130 + 128 * n
def ACQ_G_DROP (n : Nat) : Nat := 0x8134 + 128 * n
def ACQ_G_MARKLOST (n : Nat) : Nat := 0x8138 + 128 * n
def ACQ_G_RECS (n : Nat) : Nat := 0x813C + 128 * n
def ACQ_G_NEXTREC (n : Nat) : Nat := 0x8140 + 128 * n
def WMK_G_CFG (n : Nat) : Nat := 0xA000 + 16 * n
def WMK_G_D (n : Nat) : Nat := 0xA004 + 16 * n
def WHS_STAT : Nat := 0xA100
def WHS_EVT : Nat := 0xA104
def WHS_H_CFG (n : Nat) : Nat := 0xA200 + 64 * n
def WHS_H_BASE (n : Nat) : Nat := 0xA204 + 64 * n
def WHS_H_OFS_LO (n : Nat) : Nat := 0xA208 + 64 * n
def WHS_H_OFS_HI (n : Nat) : Nat := 0xA20C + 64 * n
def WHS_H_CTRL (n : Nat) : Nat := 0xA210 + 64 * n
def WHS_H_CMD (n : Nat) : Nat := 0xA214 + 64 * n
def WHS_H_STAT (n : Nat) : Nat := 0xA218 + 64 * n
def WHS_H_SWEEPS (n : Nat) : Nat := 0xA21C + 64 * n
def WHS_M_CFG (n : Nat) : Nat := 0xA400 + 64 * n
def WHS_M_SIZE (n : Nat) : Nat := 0xA404 + 64 * n
def WHS_M_BASE (n : Nat) : Nat := 0xA408 + 64 * n
def WHS_M_RATE (n : Nat) : Nat := 0xA40C + 64 * n
def WHS_M_DECAY (n : Nat) : Nat := 0xA410 + 64 * n
def WHS_M_CTRL (n : Nat) : Nat := 0xA414 + 64 * n
def WHS_M_STAT (n : Nat) : Nat := 0xA418 + 64 * n
def WHS_M_TAKEN (n : Nat) : Nat := 0xA41C + 64 * n
def WHS_M_SKIP (n : Nat) : Nat := 0xA420 + 64 * n
def WHS_M_DLATE (n : Nat) : Nat := 0xA424 + 64 * n
def DCK_STAT : Nat := 0xC000
def DCK_FAULT : Nat := 0xC004
def DCK_REFUSE : Nat := 0xC008
def DCK_CH_CFG (n : Nat) : Nat := 0xC100 + 256 * n
def DCK_CH_TIM0 (n : Nat) : Nat := 0xC104 + 256 * n
def DCK_CH_TIM1 (n : Nat) : Nat := 0xC108 + 256 * n
def DCK_CH_TIM2 (n : Nat) : Nat := 0xC10C + 256 * n
def DCK_CH_CMD (n : Nat) : Nat := 0xC110 + 256 * n
def DCK_CH_TSTAT (n : Nat) : Nat := 0xC114 + 256 * n
def DCK_CH_FERRY (n : Nat) : Nat := 0xC118 + 256 * n
def DCK_CH_USED (n : Nat) : Nat := 0xC11C + 256 * n
def DCK_CH_SIZE (n : Nat) : Nat := 0xC120 + 256 * n
def DCK_CH_ROUNDS (n : Nat) : Nat := 0xC124 + 256 * n
def DCK_CH_PARERR (n : Nat) : Nat := 0xC128 + 256 * n
def DCK_CH_BADBURST (n : Nat) : Nat := 0xC12C + 256 * n
def DCK_CH_LASTADDR (n : Nat) : Nat := 0xC130 + 256 * n
def DCK_CH0_RSV (n : Nat) : Nat := 0xC180 + 4 * n
def DCK_CH1_RSV (n : Nat) : Nat := 0xC280 + 4 * n
def TLY_STAT : Nat := 0x10000
def TLY_CAL_CMD : Nat := 0x10004
def TLY_CAL_STAT : Nat := 0x10008
def TLY_TBL_SEL : Nat := 0x1000C
def TLY_TBL_DATA : Nat := 0x10010
def TLY_EDGEIN (n : Nat) : Nat := 0x10020 + 4 * n
def TLY_L_CFG (n : Nat) : Nat := 0x10100 + 256 * n
def TLY_L_HOLD (n : Nat) : Nat := 0x10104 + 256 * n
def TLY_L_GATE (n : Nat) : Nat := 0x10108 + 256 * n
def TLY_L_STILL (n : Nat) : Nat := 0x1010C + 256 * n
def TLY_L_N (n : Nat) : Nat := 0x10110 + 256 * n
def TLY_L_DLY (n : Nat) : Nat := 0x10114 + 256 * n
def TLY_L_CMD (n : Nat) : Nat := 0x10118 + 256 * n
def TLY_L_STAT (n : Nat) : Nat := 0x1011C + 256 * n
def TLY_L_EVT (n : Nat) : Nat := 0x10120 + 256 * n
def TLY_L_EVTEN (n : Nat) : Nat := 0x10124 + 256 * n
def TLY_L_RES_Q0 (n : Nat) : Nat := 0x10128 + 256 * n
def TLY_L_RES_Q1 (n : Nat) : Nat := 0x1012C + 256 * n
def TLY_L_RES_Q2 (n : Nat) : Nat := 0x10130 + 256 * n
def TLY_L_FIFO_Q0 (n : Nat) : Nat := 0x10134 + 256 * n
def TLY_L_FIFO_Q1 (n : Nat) : Nat := 0x10138 + 256 * n
def TLY_L_FIFO_Q2 (n : Nat) : Nat := 0x1013C + 256 * n
def TLY_L_FIFO_FILL (n : Nat) : Nat := 0x10140 + 256 * n
def TLY_L_LOST (n : Nat) : Nat := 0x10144 + 256 * n
def TLY_L_HOLDREJ (n : Nat) : Nat := 0x10148 + 256 * n
def TLY_L_INVALID (n : Nat) : Nat := 0x1014C + 256 * n
def TLY_L_MEAN_Q0 (n : Nat) : Nat := 0x10150 + 256 * n
def TLY_L_MEAN_Q1 (n : Nat) : Nat := 0x10154 + 256 * n
def TLY_L_MEAN_Q2 (n : Nat) : Nat := 0x10158 + 256 * n
def TLY_L_SD_Q0 (n : Nat) : Nat := 0x1015C + 256 * n
def TLY_L_SD_Q1 (n : Nat) : Nat := 0x10160 + 256 * n
def TLY_L_SD_Q2 (n : Nat) : Nat := 0x10164 + 256 * n
def TLY_L_MIN_Q0 (n : Nat) : Nat := 0x10168 + 256 * n
def TLY_L_MIN_Q1 (n : Nat) : Nat := 0x1016C + 256 * n
def TLY_L_MIN_Q2 (n : Nat) : Nat := 0x10170 + 256 * n
def TLY_L_MAX_Q0 (n : Nat) : Nat := 0x10174 + 256 * n
def TLY_L_MAX_Q1 (n : Nat) : Nat := 0x10178 + 256 * n
def TLY_L_MAX_Q2 (n : Nat) : Nat := 0x1017C + 256 * n
def TLY_L_STATN (n : Nat) : Nat := 0x10180 + 256 * n
def TLY_L_PAIRLOST (n : Nat) : Nat := 0x10184 + 256 * n
def TLY_L_COLLIDE (n : Nat) : Nat := 0x10188 + 256 * n
def KNB_CFG : Nat := 0x10600
def KNB_POS : Nat := 0x10604
def KNB_SPEED : Nat := 0x10608
def KNB_STAT : Nat := 0x1060C
def KNB_EVT : Nat := 0x10610
def KNB_EVTEN : Nat := 0x10614
def KNB_ERR : Nat := 0x10618
def KNB_SVC : Nat := 0x1061C
def KNB_LIM : Nat := 0x10620
def KNB_DISC : Nat := 0x10624
def KNB_SETPOS : Nat := 0x10628
def KNB_ACC (n : Nat) : Nat := 0x10640 + 4 * n
def SLC_STAT : Nat := 0x14000
def SLC_EVT : Nat := 0x14004
def SLC_SWAP : Nat := 0x14008
def SLC_SWAP_PEND : Nat := 0x1400C
def SLC_MOOR_AFTER : Nat := 0x14010
def SLC_STEP : Nat := 0x14014
def SLC_L_CFG (n : Nat) : Nat := 0x14100 + 128 * n
def SLC_L_MODE (n : Nat) : Nat := 0x14104 + 128 * n
def SLC_L_TIME (n : Nat) : Nat := 0x14108 + 128 * n
def SLC_L_PORTS (n : Nat) : Nat := 0x1410C + 128 * n
def SLC_L_SETP (n : Nat) : Nat := 0x14110 + 128 * n
def SLC_L_MANOUT (n : Nat) : Nat := 0x14114 + 128 * n
def SLC_L_SAFE (n : Nat) : Nat := 0x14118 + 128 * n
def SLC_L_OUTMIN (n : Nat) : Nat := 0x1411C + 128 * n
def SLC_L_OUTMAX (n : Nat) : Nat := 0x14120 + 128 * n
def SLC_L_ILO (n : Nat) : Nat := 0x14124 + 128 * n
def SLC_L_IHI (n : Nat) : Nat := 0x14128 + 128 * n
def SLC_L_BAND (n : Nat) : Nat := 0x1412C + 128 * n
def SLC_L_STAT (n : Nat) : Nat := 0x14130 + 128 * n
def SLC_L_OUT (n : Nat) : Nat := 0x14134 + 128 * n
def SLC_L_INT (n : Nat) : Nat := 0x14138 + 128 * n
def SLC_L_ERR (n : Nat) : Nat := 0x1413C + 128 * n
def SLC_L_SPNOW (n : Nat) : Nat := 0x14140 + 128 * n
def SLC_L_MISSED (n : Nat) : Nat := 0x14144 + 128 * n
def SLC_L_STALE (n : Nat) : Nat := 0x14148 + 128 * n
def SLC_L_SAT (n : Nat) : Nat := 0x1414C + 128 * n
def SLC_L_LIST (n : Nat) : Nat := 0x14150 + 128 * n
def SLC_L_REPEAT (n : Nat) : Nat := 0x14154 + 128 * n
def SLC_L_LISTCMD (n : Nat) : Nat := 0x14158 + 128 * n
def SLC_L_LISTSTAT (n : Nat) : Nat := 0x1415C + 128 * n
def SLC_BANK (n : Nat) : Nat := 0x14800 + 4 * n
def SLC_LIST (n : Nat) : Nat := 0x18000 + 4 * n
def SLP_CFG : Nat := 0x1C000
def SLP_STAT : Nat := 0x1C004
def SLP_LDAC_LATE : Nat := 0x1C008
def SLP_P_CFG (n : Nat) : Nat := 0x1C100 + 32 * n
def SLP_P_FMT (n : Nat) : Nat := 0x1C104 + 32 * n
def SLP_P_PWM (n : Nat) : Nat := 0x1C108 + 32 * n
def SLP_P_PWM2 (n : Nat) : Nat := 0x1C10C + 32 * n
def SLP_P_SAFE (n : Nat) : Nat := 0x1C110 + 32 * n
def SLP_P_VALUE (n : Nat) : Nat := 0x1C114 + 32 * n
def SLP_P_STAT (n : Nat) : Nat := 0x1C118 + 32 * n
def SLP_P_LATE (n : Nat) : Nat := 0x1C11C + 32 * n
def PRT_TRIPPED : Nat := 0x1C800
def PRT_EVT : Nat := 0x1C804
def PRT_CMD : Nat := 0x1C808
def PRT_TRIPOUT (n : Nat) : Nat := 0x1C80C + 4 * n
def PRT_TRIP_CNT : Nat := 0x1C814
def PRT_L_CFG (n : Nat) : Nat := 0x1C900 + 64 * n
def PRT_L_V (n : Nat) : Nat := 0x1C904 + 64 * n
def PRT_L_I (n : Nat) : Nat := 0x1C908 + 64 * n
def PRT_L_OP (n : Nat) : Nat := 0x1C90C + 64 * n
def PRT_L_UVDLY (n : Nat) : Nat := 0x1C910 + 64 * n
def PRT_L_CAUSE (n : Nat) : Nat := 0x1C914 + 64 * n
def PRT_L_TS_Q0 (n : Nat) : Nat := 0x1C918 + 64 * n
def PRT_L_TS_Q1 (n : Nat) : Nat := 0x1C91C + 64 * n
def PRT_L_TS_Q2 (n : Nat) : Nat := 0x1C920 + 64 * n
def PRT_L_TIDE_LO (n : Nat) : Nat := 0x1C924 + 64 * n
def PRT_L_TIDE_HI (n : Nat) : Nat := 0x1C928 + 64 * n
def PRT_FAST (n : Nat) : Nat := 0x1CC00 + 4 * n
def BEL_LEVEL (n : Nat) : Nat := 0x20000 + 4 * n
def BEL_EN (n : Nat) : Nat := 0x20008 + 4 * n
def BEL_PEND (n : Nat) : Nat := 0x20010 + 4 * n
def BEL_SYS_EVT : Nat := 0x20018
def BEL_BAD_COMPLETE : Nat := 0x2001C
def BEL_LOST : Nat := 0x20020
def BEL_VEC (n : Nat) : Nat := 0x20040 + 4 * n
def BEL_TGT (n : Nat) : Nat := 0x20100 + 16 * n
def BEL_CLAIM (n : Nat) : Nat := 0x20104 + 16 * n
def BEL_COMPLETE (n : Nat) : Nat := 0x20108 + 16 * n
def BEL_TSTAT (n : Nat) : Nat := 0x2010C + 16 * n
def CMD_MB_IN : Nat := 0x22000
def CMD_MB_OUT : Nat := 0x22004
def CMD_MB_STAT : Nat := 0x22008
def CMD_UART_DIV : Nat := 0x22010
def CMD_ABORT_CNT : Nat := 0x22020
def CMD_PCFG (n : Nat) : Nat := 0x22100 + 64 * n
def CMD_STAT (n : Nat) : Nat := 0x22104 + 64 * n
def CMD_DROP (n : Nat) : Nat := 0x22108 + 64 * n
def CMD_ERR (n : Nat) : Nat := 0x2210C + 64 * n
def CMD_LOST (n : Nat) : Nat := 0x22110 + 64 * n
def CMD_LINKERR (n : Nat) : Nat := 0x22114 + 64 * n
def FRY_FAULT : Nat := 0x24000
def FRY_TAGS : Nat := 0x24004
def FRY_LINK : Nat := 0x24008
def FRY_ABREC_LO : Nat := 0x24010
def FRY_ABREC_HI : Nat := 0x24014
def FRY_BAR2_CFG : Nat := 0x24018
def FRY_BAR2_BASE : Nat := 0x2401C
def FRY_BAR2_DROP : Nat := 0x24020
def FRY_MON_DROP : Nat := 0x24024
def FRY_R_CFG (n : Nat) : Nat := 0x24100 + 64 * n
def FRY_R_DBASE_LO (n : Nat) : Nat := 0x24104 + 64 * n
def FRY_R_DBASE_HI (n : Nat) : Nat := 0x24108 + 64 * n
def FRY_R_CBASE_LO (n : Nat) : Nat := 0x2410C + 64 * n
def FRY_R_CBASE_HI (n : Nat) : Nat := 0x24110 + 64 * n
def FRY_R_CMD (n : Nat) : Nat := 0x24114 + 64 * n
def FRY_R_POST (n : Nat) : Nat := 0x24118 + 64 * n
def FRY_R_STAT (n : Nat) : Nat := 0x2411C + 64 * n
def FRY_R_PTR (n : Nat) : Nat := 0x24120 + 64 * n
def FRY_R_TAIL (n : Nat) : Nat := 0x24124 + 64 * n
def FRY_R_LDG0 (n : Nat) : Nat := 0x24128 + 64 * n
def FRY_R_LDG1 (n : Nat) : Nat := 0x2412C + 64 * n
def FRY_R_EVT (n : Nat) : Nat := 0x24130 + 64 * n
def FRY_R_DROP (n : Nat) : Nat := 0x24134 + 64 * n
def FRY_R_RECS (n : Nat) : Nat := 0x24138 + 64 * n
def MSIX_TABLE (n : Nat) : Nat := 0x26000 + 4 * n
def MSIX_PBA (n : Nat) : Nat := 0x27000 + 4 * n
def EMC_CFG : Nat := 0x28000
def EMC_MEMBERS : Nat := 0x28004
def EMC_SHARE : Nat := 0x28008
def EMC_EARM : Nat := 0x2800C
def EMC_CAL : Nat := 0x28010
def EMC_CMD : Nat := 0x28014
def EMC_STAT : Nat := 0x28018
def EMC_EVT : Nat := 0x2801C
def EMC_SLOTS : Nat := 0x28020
def EMC_CORR : Nat := 0x28024
def EMC_CRAW : Nat := 0x28028
def EMC_PARERR : Nat := 0x2802C
def EMC_ARMREJ : Nat := 0x28030
def EMC_RIGOFS_Q0 : Nat := 0x28034
def EMC_RIGOFS_Q12 (n : Nat) : Nat := 0x28038 + 4 * n
def EMC_VAL (n : Nat) : Nat := 0x28040 + 4 * n
def EMC_ABS (n : Nat) : Nat := 0x28060 + 4 * n
def TRL_CMD : Nat := 0x2A000
def TRL_STAT : Nat := 0x2A004
def TRL_EVT : Nat := 0x2A008
def TRL_BAD : Nat := 0x2A00C
def TRL_GEN : Nat := 0x2A010
def TRL_APPLY : Nat := 0x2A014
def TRL_SKIP : Nat := 0x2A018
def TRL_RAW_ADDR : Nat := 0x2A020
def TRL_RAW_DATA : Nat := 0x2A024
def TRL_CMPTRIM (n : Nat) : Nat := 0x2A040 + 4 * n
def TRL_IDENT (n : Nat) : Nat := 0x2A080 + 4 * n
def PMX_PIN (n : Nat) : Nat := 0x2C000 + 4 * n
def PMX_GPO : Nat := 0x2C080
def PMX_IN : Nat := 0x2C084
def PMX_SWITCHED : Nat := 0x2C088
def YRD_ROUTE (n : Nat) : Nat := 0x2C100 + 4 * n
def YRD_BELL_SEL (n : Nat) : Nat := 0x2C180 + 4 * n
def YRD_BELL_STAT : Nat := 0x2C1A0
def YRD_PULSE : Nat := 0x2C1A4
def YRD_COINC (n : Nat) : Nat := 0x2C1C0 + 4 * n
def YRD_IGN (n : Nat) : Nat := 0x2C1E0 + 4 * n
def YRD_LOG_MASK (n : Nat) : Nat := 0x2C200 + 4 * n
def YRD_LOG_Q0 : Nat := 0x2C210
def YRD_LOG_Q12 (n : Nat) : Nat := 0x2C214 + 4 * n
def YRD_LOG_FILL : Nat := 0x2C21C
def YRD_LOG_LOST : Nat := 0x2C220
def YRD_ABORT_DISC : Nat := 0x2C224
def YRD_SNAP_Q0 : Nat := 0x2C230
def YRD_SNAP_Q12 (n : Nat) : Nat := 0x2C234 + 4 * n
def YRD_SNAP_TIDE (n : Nat) : Nat := 0x2C23C + 4 * n

/-- The registers of one block window (R583). -/
def sysRows : List RegRow := [
  ⟨SYS_ID, 1, 4, 0x0, 0x0, 0x0, 0x0, 0x0, false, 0x48440872⟩,
  ⟨SYS_STEP, 1, 4, 0x0, 0x0, 0x0, 0x0, 0x0, false, 0xC01⟩,
  ⟨SYS_TIDE_LEN, 1, 4, 0x3FF, 0x0, 0x0, 0x0, 0x0, false, 0x64⟩,
  ⟨TIM_TIDE_LO, 1, 4, 0x0, 0x0, 0x0, 0x0, 0x0, true, 0x0⟩,
  ⟨TIM_TIDE_HI, 1, 4, 0x0, 0x0, 0x0, 0x0, 0x0, false, 0x0⟩,
  ⟨TIM_NOW_Q0, 1, 4, 0x0, 0x0, 0x0, 0x0, 0x0, true, 0x0⟩,
  ⟨TIM_NOW_Q12 0, 2, 4, 0x0, 0x0, 0x0, 0x0, 0x0, false, 0x0⟩,
  ⟨TIM_EDGE_Q0, 1, 4, 0x0, 0x0, 0x0, 0x0, 0x0, true, 0x0⟩,
  ⟨TIM_EDGE_Q12 0, 2, 4, 0x0, 0x0, 0x0, 0x0, 0x0, false, 0x0⟩,
  ⟨TIM_EDGE_TIDE 0, 2, 4, 0x0, 0x0, 0x0, 0x0, 0x0, false, 0x0⟩,
  ⟨TIM_STAT, 1, 4, 0x0, 0x0, 0x364, 0x0, 0x0, false, 0x0⟩,
  ⟨TIM_SEC_LO, 1, 4, 0x0, 0x0, 0x0, 0x0, 0x0, true, 0x0⟩,
  ⟨TIM_SEC_HI, 1, 4, 0x0, 0x0, 0x0, 0x0, 0x0, false, 0x0⟩,
  ⟨TIM_NS, 1, 4, 0x0, 0x0, 0x0, 0x0, 0x0, false, 0x0⟩,
  ⟨TIM_SET_SEC_LO, 1, 4, 0x0, 0xFFFFFFFF, 0x0, 0x0, 0x0, false, 0x0⟩,
  ⟨TIM_SET_SEC_HI, 1, 4, 0x0, 0xFFFF, 0x0, 0x0, 0x0, false, 0x0⟩,
  ⟨TIM_SET_NS, 1, 4, 0x0, 0x3FFFFFFF, 0x0, 0x0, 0x0, false, 0x0⟩,
  ⟨TIM_SET_CTRL, 1, 4, 0x0, 0x0, 0x0, 0x3, 0x0, false, 0x0⟩,
  ⟨TIM_ADJ, 1, 4, 0x0, 0x0, 0x0, 0xFFFFFFFF, 0x0, false, 0x0⟩,
  ⟨TIM_ADJ_LEFT, 1, 4, 0x0, 0x0, 0x0, 0x0, 0x0, false, 0x0⟩,
  ⟨TIM_PPS_CTRL, 1, 4, 0x0, 0xFFFF07, 0x0, 0x0, 0x0, false, 0x3E804⟩,
  ⟨TIM_PPS_ERR, 1, 4, 0x0, 0x0, 0x0, 0x0, 0x0, false, 0x0⟩,
  ⟨TIM_PPS_COUNT, 1, 4, 0x0, 0x0, 0x0, 0x0, 0x0, false, 0x0⟩,
  ⟨TIM_PPS_TS_Q0, 1, 4, 0x0, 0x0, 0x0, 0x0, 0x0, true, 0x0⟩,
  ⟨TIM_PPS_TS_Q12 0, 2, 4, 0x0, 0x0, 0x0, 0x0, 0x0, false, 0x0⟩,
  ⟨SYS_EPOCH, 1, 4, 0x0, 0x0, 0x0, 0x0, 0x0, false, 0x0⟩,
  ⟨SYS_GUARD, 1, 4, 0x0, 0x0, 0x0, 0xFFFFFFFF, 0x0, false, 0x0⟩,
  ⟨SYS_CONFLICT, 1, 4, 0x0, 0x0, 0x7, 0x0, 0x0, false, 0x0⟩,
  ⟨SYS_CONFLICT_ADDR, 1, 4, 0x0, 0x0, 0x0, 0x0, 0x0, false, 0x0⟩,
  ⟨SYS_IGNORED, 1, 4, 0x0, 0x0, 0x0, 0x0, 0xFFFFFFFF, false, 0x0⟩,
  ⟨SYS_BADADDR, 1, 4, 0x0, 0x0, 0x0, 0x0, 0xFFFFFFFF, false, 0x0⟩,
  ⟨SYS_ABORT, 1, 4, 0x0, 0x0, 0x0, 0x1, 0x0, false, 0x0⟩,
  ⟨SYS_RESET, 1, 4, 0x0, 0x0, 0x0, 0xFFFF0001, 0x0, false, 0x0⟩]

/-- The registers of one block window (R584). -/
def clkRows : List RegRow := [
  ⟨CLK_STAT, 1, 4, 0x0, 0x0, 0x700, 0x0, 0x0, false, 0x0⟩,
  ⟨CLK_UNLOCK_CNT, 1, 4, 0x0, 0x0, 0x0, 0x0, 0xFFFFFFFF, false, 0x0⟩,
  ⟨CLK_SYNC_CTRL, 1, 4, 0xFF, 0x0, 0x0, 0x0, 0x0, false, 0x0⟩,
  ⟨CLK_SYNC_STAT, 1, 4, 0x0, 0x0, 0x2, 0x0, 0x0, false, 0x0⟩,
  ⟨CLK_SYNC_SKIP, 1, 4, 0x0, 0x0, 0x0, 0x0, 0xFFFFFFFF, false, 0x0⟩,
  ⟨CLK_SYNC_TS_Q0, 1, 4, 0x0, 0x0, 0x0, 0x0, 0x0, true, 0x0⟩,
  ⟨CLK_SYNC_TS_Q12 0, 2, 4, 0x0, 0x0, 0x0, 0x0, 0x0, false, 0x0⟩,
  ⟨CLK_LHA_FCW_LO, 1, 4, 0x0, 0xFFFFFFFF, 0x0, 0x0, 0x0, false, 0x0⟩,
  ⟨CLK_LHA_FCW_HI, 1, 4, 0xFFFF, 0x0, 0x0, 0x0, 0x0, false, 0x5000⟩,
  ⟨CLK_LHA_CFG, 1, 4, 0x13FFF03, 0x0, 0x0, 0x0, 0x0, false, 0x1100201⟩,
  ⟨CLK_LHA_STAT, 1, 4, 0x0, 0x0, 0x0, 0x0, 0x0, false, 0x0⟩,
  ⟨CLK_LHA_COUNT, 1, 4, 0x0, 0x0, 0x0, 0x0, 0x0, false, 0x0⟩,
  ⟨CLK_LHA_CTRL, 1, 4, 0x0, 0x0, 0x0, 0x1, 0x0, false, 0x0⟩,
  ⟨CLK_LHA_FCW_NOW_LO, 1, 4, 0x0, 0x0, 0x0, 0x0, 0x0, false, 0x0⟩,
  ⟨CLK_LHS_CFG, 1, 4, 0x313FFF03, 0x0, 0x0, 0x0, 0x0, false, 0x1100201⟩,
  ⟨CLK_LHS_STAT, 1, 4, 0x0, 0x0, 0x0, 0x0, 0x0, false, 0x0⟩,
  ⟨CLK_LHS_COUNT, 1, 4, 0x0, 0x0, 0x0, 0x0, 0x0, false, 0x0⟩,
  ⟨CLK_LHS_CTRL, 1, 4, 0x0, 0x0, 0x0, 0x1, 0x0, false, 0x0⟩,
  ⟨CLK_CAP_STAT, 1, 4, 0x0, 0x0, 0x300, 0x0, 0x0, false, 0x0⟩]

/-- The registers of one block window (R585). -/
def pwrRows : List RegRow := [
  ⟨PWR_TARGET, 1, 4, 0x1FFE, 0x0, 0x0, 0x0, 0x0, false, 0x1⟩,
  ⟨PWR_STATE, 1, 4, 0x0, 0x0, 0x0, 0x0, 0x0, false, 0x2⟩,
  ⟨PWR_DONE, 1, 4, 0x0, 0x0, 0x1FFF, 0x0, 0x0, false, 0x0⟩,
  ⟨PWR_FAIL, 1, 4, 0x0, 0x0, 0x1FFF, 0x0, 0x0, false, 0x0⟩,
  ⟨PWR_RST_CAUSE, 1, 4, 0x0, 0x0, 0x100, 0x0, 0x0, false, 0x1⟩,
  ⟨PWR_STRAP, 1, 4, 0x0, 0x0, 0x0, 0x0, 0x0, false, 0x0⟩,
  ⟨PWR_RST_CFG, 1, 4, 0x1, 0x0, 0x0, 0x0, 0x0, false, 0x0⟩,
  ⟨PWR_DISCARD 0, 12, 4, 0x0, 0x0, 0x0, 0x0, 0xFFFFFFFF, false, 0x0⟩]

/-- The registers of one block window (R586). -/
def brtRows : List RegRow := [
  ⟨BRT_ROUTE, 1, 4, 0xFFFFFFFF, 0x0, 0x0, 0x0, 0x0, false, 0xFEDCBA98⟩,
  ⟨BRT_CHAN_STAT, 1, 4, 0x0, 0x0, 0x0, 0x0, 0x0, false, 0xFF⟩,
  ⟨BRT_CAL_CTRL, 1, 4, 0x7, 0x0, 0x0, 0x0, 0x0, false, 0x7⟩,
  ⟨BRT_CAL_STAT, 1, 4, 0x0, 0x0, 0x300, 0x0, 0x0, false, 0x8⟩,
  ⟨BRT_CAL_CMD, 1, 4, 0x0, 0x0, 0x0, 0x1, 0x0, false, 0x0⟩,
  ⟨BRT_SKEW_ROUNDS, 1, 4, 0x0, 0x0, 0x0, 0x0, 0x0, false, 0x0⟩,
  ⟨BRT_OVR_STAT, 1, 4, 0x0, 0x0, 0xFF, 0x0, 0x0, false, 0x0⟩,
  ⟨BRT_MON_STAT, 1, 4, 0x0, 0x0, 0xFF, 0x0, 0x0, false, 0x0⟩,
  ⟨BRT_MON_CFG, 1, 4, 0xFFFF, 0x0, 0x0, 0x0, 0x0, false, 0x0⟩,
  ⟨BRT_TRIM 0, 8, 4, 0xFFFF, 0x0, 0x0, 0x0, 0x0, false, 0x8000⟩,
  ⟨BRT_OFS 0, 8, 4, 0xFFFF, 0x0, 0x0, 0x0, 0x0, false, 0x0⟩,
  ⟨BRT_GAIN 0, 8, 4, 0xFFFF, 0x0, 0x0, 0x0, 0x0, false, 0x0⟩,
  ⟨BRT_OVR_CNT 0, 8, 4, 0x0, 0x0, 0x0, 0x0, 0xFFFFFFFF, false, 0x0⟩,
  ⟨BRT_SKEW_ERR 0, 8, 4, 0x0, 0x0, 0x0, 0x0, 0x0, false, 0x0⟩,
  ⟨BRT_MON 0, 8, 4, 0x0, 0x0, 0x0, 0x0, 0x80000000, false, 0x200000⟩,
  ⟨BRT_SNAP 0, 8, 4, 0x0, 0x0, 0x0, 0x0, 0x0, false, 0x0⟩,
  ⟨BRT_MONCNT 0, 8, 4, 0x0, 0x0, 0x0, 0x0, 0x0, false, 0x0⟩,
  ⟨BRT_T0_Q0 0, 8, 16, 0x0, 0x0, 0x0, 0x0, 0x0, true, 0x0⟩,
  ⟨BRT_T0_Q1 0, 8, 16, 0x0, 0x0, 0x0, 0x0, 0x0, false, 0x0⟩,
  ⟨BRT_T0_Q2 0, 8, 16, 0x0, 0x0, 0x0, 0x0, 0x0, false, 0x0⟩]

/-- The registers of one block window (R587). -/
def pltRows : List RegRow := [
  ⟨PLT_CMP_LVL, 1, 4, 0x0, 0x0, 0x0, 0x0, 0x0, false, 0x0⟩,
  ⟨PLT_COLLIDE, 1, 4, 0x0, 0x0, 0x0, 0x0, 0xFFFFFFFF, false, 0x0⟩,
  ⟨PLT_SUPPRESS, 1, 4, 0x0, 0x0, 0x0, 0x0, 0xFFFFFFFF, false, 0x0⟩,
  ⟨PLT_SOFT, 1, 4, 0x0, 0x0, 0x0, 0xFF, 0x0, false, 0x0⟩,
  ⟨PLT_EFIRE_CFG, 1, 4, 0xFF07FF, 0x0, 0x0, 0x0, 0x0, false, 0xA0000⟩,
  ⟨PLT_EFIRE_SKIP, 1, 4, 0x0, 0x0, 0x0, 0x0, 0xFFFFFFFF, false, 0x0⟩,
  ⟨PLT_TRIGOUT 0, 2, 4, 0xFFFF01FF, 0x0, 0x0, 0x0, 0x0, false, 0xA0000⟩,
  ⟨PLT_TRIGIN 0, 2, 4, 0x3FFF, 0x0, 0x0, 0x0, 0x0, false, 0x800⟩,
  ⟨PLT_TRIGIN_DLY 0, 2, 4, 0xFFFFF, 0x0, 0x0, 0x0, 0x0, false, 0x0⟩,
  ⟨PLT_CMP 0, 8, 8, 0x3FFFFF, 0x0, 0x0, 0x0, 0x0, false, 0x800⟩,
  ⟨PLT_CMP_DLY 0, 8, 8, 0xFFFFF, 0x0, 0x0, 0x0, 0x0, false, 0x0⟩,
  ⟨PLT_DIG_CFG 0, 8, 32, 0xFFFB377, 0x0, 0x0, 0x0, 0x0, false, 0x0⟩,
  ⟨PLT_DIG_TH 0, 8, 32, 0xFFFFFFFF, 0x0, 0x0, 0x0, 0x0, false, 0x0⟩,
  ⟨PLT_DIG_W1 0, 8, 32, 0xFFFFFFFF, 0x0, 0x0, 0x0, 0x0, false, 0x0⟩,
  ⟨PLT_DIG_W2 0, 8, 32, 0xFFFFFFFF, 0x0, 0x0, 0x0, 0x0, false, 0x0⟩,
  ⟨PLT_DIG_SPAN 0, 8, 32, 0xFF, 0x0, 0x0, 0x0, 0x0, false, 0x1⟩,
  ⟨PLT_ENG_CFG 0, 8, 128, 0x77F7F03, 0x0, 0x0, 0x0, 0x0, false, 0x0⟩,
  ⟨PLT_ENG_QUAL 0, 8, 128, 0x1FF, 0x0, 0x0, 0x0, 0x0, false, 0x0⟩,
  ⟨PLT_ENG_WIN 0, 8, 128, 0xFFFFFFFF, 0x0, 0x0, 0x0, 0x0, false, 0x1⟩,
  ⟨PLT_ENG_HOLD_LO 0, 8, 128, 0x0, 0xFFFFFFFF, 0x0, 0x0, 0x0, false, 0x0⟩,
  ⟨PLT_ENG_HOLD_HI 0, 8, 128, 0x800000FF, 0x0, 0x0, 0x0, 0x0, false, 0x0⟩,
  ⟨PLT_ENG_STAT 0, 8, 128, 0x0, 0x0, 0x0, 0x0, 0x0, false, 0x0⟩,
  ⟨PLT_TRIG_CNT_LO 0, 8, 128, 0x0, 0x0, 0x0, 0x0, 0x0, true, 0x0⟩,
  ⟨PLT_TRIG_CNT_HI 0, 8, 128, 0x0, 0x0, 0x0, 0x0, 0x0, false, 0x0⟩,
  ⟨PLT_REJ_HOLD 0, 8, 128, 0x0, 0x0, 0x0, 0x0, 0xFFFFFFFF, false, 0x0⟩,
  ⟨PLT_REJ_RATE 0, 8, 128, 0x0, 0x0, 0x0, 0x0, 0xFFFFFFFF, false, 0x0⟩,
  ⟨PLT_REJ_QUAL 0, 8, 128, 0x0, 0x0, 0x0, 0x0, 0xFFFFFFFF, false, 0x0⟩,
  ⟨PLT_NOGRID 0, 8, 128, 0x0, 0x0, 0x0, 0x0, 0xFFFFFFFF, false, 0x0⟩,
  ⟨PLT_LAST_Q0 0, 8, 128, 0x0, 0x0, 0x0, 0x0, 0x0, true, 0x0⟩,
  ⟨PLT_LAST_Q1 0, 8, 128, 0x0, 0x0, 0x0, 0x0, 0x0, false, 0x0⟩,
  ⟨PLT_LAST_Q2 0, 8, 128, 0x0, 0x0, 0x0, 0x0, 0x0, false, 0x0⟩,
  ⟨PLT_LAST_INFO 0, 8, 128, 0x0, 0x0, 0x0, 0x0, 0x0, false, 0x0⟩,
  ⟨PLT_LAST_IDX_LO 0, 8, 128, 0x0, 0x0, 0x0, 0x0, 0x0, false, 0x0⟩,
  ⟨PLT_LAST_IDX_HI 0, 8, 128, 0x0, 0x0, 0x0, 0x0, 0x0, false, 0x0⟩]

/-- The registers of one block window (R588). -/
def acqRows : List RegRow := [
  ⟨ACQ_STAT, 1, 4, 0x0, 0x0, 0x0, 0x0, 0x0, false, 0x0⟩,
  ⟨ACQ_EVT, 1, 4, 0x0, 0x0, 0xFFFFFF, 0x0, 0x0, false, 0x0⟩,
  ⟨ACQ_QBUF_USED, 1, 4, 0x0, 0x0, 0x0, 0x0, 0x0, false, 0x0⟩,
  ⟨MAN_DIR_CFG, 1, 4, 0x3, 0x0, 0x0, 0x0, 0x0, false, 0x2⟩,
  ⟨MAN_DIR_BASE, 1, 4, 0xFFFFFFFF, 0x0, 0x0, 0x0, 0x0, false, 0x0⟩,
  ⟨MAN_DIR_LEN, 1, 4, 0x1FFFFFF, 0x0, 0x0, 0x0, 0x0, false, 0x400⟩,
  ⟨MAN_DIR_NEXT, 1, 4, 0x0, 0x0, 0x0, 0x0, 0x0, false, 0x0⟩,
  ⟨MAN_DIR_WRAPS, 1, 4, 0x0, 0x0, 0x0, 0x0, 0x0, false, 0x0⟩,
  ⟨MAN_SEQ, 1, 4, 0x0, 0x0, 0x0, 0x0, 0x0, false, 0x0⟩,
  ⟨ACQ_G_CFG 0, 8, 128, 0xFFFF3F, 0x0, 0x0, 0x0, 0x0, false, 0x480000⟩,
  ⟨ACQ_G_PRE 0, 8, 128, 0x1FFFFF, 0x0, 0x0, 0x0, 0x0, false, 0x0⟩,
  ⟨ACQ_G_POST 0, 8, 128, 0xFFFFFFFF, 0x0, 0x0, 0x0, 0x0, false, 0x40⟩,
  ⟨ACQ_G_BASE 0, 8, 128, 0xFFFFFFFF, 0x0, 0x0, 0x0, 0x0, false, 0x0⟩,
  ⟨ACQ_G_SIZE 0, 8, 128, 0xFFFFFFFF, 0x0, 0x0, 0x0, 0x0, false, 0x0⟩,
  ⟨ACQ_G_COUNT 0, 8, 128, 0xFFFFFFFF, 0x0, 0x0, 0x0, 0x0, false, 0x0⟩,
  ⟨ACQ_G_CMD 0, 8, 128, 0x0, 0x0, 0x0, 0xF, 0x0, false, 0x0⟩,
  ⟨ACQ_G_STAT 0, 8, 128, 0x0, 0x0, 0x0, 0x0, 0x0, false, 0x0⟩,
  ⟨ACQ_G_SEGS 0, 8, 128, 0x0, 0x0, 0x0, 0x0, 0x0, false, 0x0⟩,
  ⟨ACQ_G_REJ 0, 8, 128, 0x0, 0x0, 0x0, 0x0, 0xFFFFFFFF, false, 0x0⟩,
  ⟨ACQ_G_DEADSUM_Q0 0, 8, 128, 0x0, 0x0, 0x0, 0x0, 0x0, true, 0x0⟩,
  ⟨ACQ_G_DEADSUM_Q1 0, 8, 128, 0x0, 0x0, 0x0, 0x0, 0x0, false, 0x0⟩,
  ⟨ACQ_G_DEADSUM_Q2 0, 8, 128, 0x0, 0x0, 0x0, 0x0, 0x0, false, 0x0⟩,
  ⟨ACQ_G_DROP 0, 8, 128, 0x0, 0x0, 0x0, 0x0, 0xFFFFFFFF, false, 0x0⟩,
  ⟨ACQ_G_MARKLOST 0, 8, 128, 0x0, 0x0, 0x0, 0x0, 0xFFFFFFFF, false, 0x0⟩,
  ⟨ACQ_G_RECS 0, 8, 128, 0x0, 0x0, 0x0, 0x0, 0x0, false, 0x0⟩,
  ⟨ACQ_G_NEXTREC 0, 8, 128, 0x0, 0x0, 0x0, 0x0, 0x0, false, 0x0⟩]

/-- The registers of one block window (R589). -/
def whsRows : List RegRow := [
  ⟨WMK_G_CFG 0, 8, 16, 0x3, 0x0, 0x0, 0x0, 0x0, false, 0x0⟩,
  ⟨WMK_G_D 0, 8, 16, 0x1FFFFFF, 0x0, 0x0, 0x0, 0x0, false, 0x2⟩,
  ⟨WHS_STAT, 1, 4, 0x0, 0x0, 0x0, 0x0, 0x0, false, 0x0⟩,
  ⟨WHS_EVT, 1, 4, 0x0, 0x0, 0x3FF, 0x0, 0x0, false, 0x0⟩,
  ⟨WHS_H_CFG 0, 8, 64, 0x3FFFFFF, 0x0, 0x0, 0x0, 0x0, false, 0x640100⟩,
  ⟨WHS_H_BASE 0, 8, 64, 0xFFFFFFFF, 0x0, 0x0, 0x0, 0x0, false, 0x0⟩,
  ⟨WHS_H_OFS_LO 0, 8, 64, 0x0, 0xFFFFFFFF, 0x0, 0x0, 0x0, false, 0x0⟩,
  ⟨WHS_H_OFS_HI 0, 8, 64, 0x3FFFFF, 0x0, 0x0, 0x0, 0x0, false, 0x0⟩,
  ⟨WHS_H_CTRL 0, 8, 64, 0x3, 0x0, 0x0, 0x0, 0x0, false, 0x0⟩,
  ⟨WHS_H_CMD 0, 8, 64, 0x0, 0x0, 0x0, 0x1, 0x0, false, 0x0⟩,
  ⟨WHS_H_STAT 0, 8, 64, 0x0, 0x0, 0x8, 0x0, 0x0, false, 0x0⟩,
  ⟨WHS_H_SWEEPS 0, 8, 64, 0x0, 0x0, 0x0, 0x0, 0x0, false, 0x0⟩,
  ⟨WHS_M_CFG 0, 2, 64, 0x3F7, 0x0, 0x0, 0x0, 0x0, false, 0x0⟩,
  ⟨WHS_M_SIZE 0, 2, 64, 0xF1FFF, 0x0, 0x0, 0x0, 0x0, false, 0x80400⟩,
  ⟨WHS_M_BASE 0, 2, 64, 0xFFFFFFFF, 0x0, 0x0, 0x0, 0x0, false, 0x0⟩,
  ⟨WHS_M_RATE 0, 2, 64, 0xFFFFF, 0x0, 0x0, 0x0, 0x0, false, 0x3E8⟩,
  ⟨WHS_M_DECAY 0, 2, 64, 0xFFFF, 0x0, 0x0, 0x0, 0x0, false, 0x0⟩,
  ⟨WHS_M_CTRL 0, 2, 64, 0x3, 0x0, 0x0, 0x0, 0x0, false, 0x0⟩,
  ⟨WHS_M_STAT 0, 2, 64, 0x0, 0x0, 0x8, 0x0, 0x0, false, 0x0⟩,
  ⟨WHS_M_TAKEN 0, 2, 64, 0x0, 0x0, 0x0, 0x0, 0x0, false, 0x0⟩,
  ⟨WHS_M_SKIP 0, 2, 64, 0x0, 0x0, 0x0, 0x0, 0xFFFFFFFF, false, 0x0⟩,
  ⟨WHS_M_DLATE 0, 2, 64, 0x0, 0x0, 0x0, 0x0, 0xFFFFFFFF, false, 0x0⟩]

/-- The registers of one block window (R590). -/
def dckRows : List RegRow := [
  ⟨DCK_STAT, 1, 4, 0x0, 0x0, 0x0, 0x0, 0x0, false, 0x0⟩,
  ⟨DCK_FAULT, 1, 4, 0x0, 0x0, 0x33, 0x0, 0x0, false, 0x0⟩,
  ⟨DCK_REFUSE, 1, 4, 0x0, 0x0, 0x0, 0x0, 0x0, false, 0x0⟩,
  ⟨DCK_CH_CFG 0, 2, 256, 0xF, 0x0, 0x0, 0x0, 0x0, false, 0x4⟩,
  ⟨DCK_CH_TIM0 0, 2, 256, 0x3F3F3F3F, 0x0, 0x0, 0x0, 0x0, false, 0x16161016⟩,
  ⟨DCK_CH_TIM1 0, 2, 256, 0xFFFF3F, 0x0, 0x0, 0x0, 0x0, false, 0x204A18⟩,
  ⟨DCK_CH_TIM2 0, 2, 256, 0xF0F03FF, 0x0, 0x0, 0x0, 0x0, false, 0x8080230⟩,
  ⟨DCK_CH_CMD 0, 2, 256, 0x0, 0x0, 0x0, 0x1, 0x0, false, 0x0⟩,
  ⟨DCK_CH_TSTAT 0, 2, 256, 0x0, 0x0, 0x0, 0x0, 0x0, false, 0x0⟩,
  ⟨DCK_CH_FERRY 0, 2, 256, 0x7F, 0x0, 0x0, 0x0, 0x0, false, 0x0⟩,
  ⟨DCK_CH_USED 0, 2, 256, 0x0, 0x0, 0x0, 0x0, 0x0, false, 0x5A00⟩,
  ⟨DCK_CH_SIZE 0, 2, 256, 0x0, 0x0, 0x0, 0x0, 0x0, false, 0x0⟩,
  ⟨DCK_CH_ROUNDS 0, 2, 256, 0x0, 0x0, 0x0, 0x0, 0x0, false, 0x0⟩,
  ⟨DCK_CH_PARERR 0, 2, 256, 0x0, 0x0, 0x0, 0x0, 0xFFFFFFFF, false, 0x0⟩,
  ⟨DCK_CH_BADBURST 0, 2, 256, 0x0, 0x0, 0x0, 0x0, 0xFFFFFFFF, false, 0x0⟩,
  ⟨DCK_CH_LASTADDR 0, 2, 256, 0x0, 0x0, 0x0, 0x0, 0x0, false, 0x0⟩,
  ⟨DCK_CH0_RSV 0, 21, 4, 0x0, 0x0, 0x0, 0x0, 0x0, false, 0x0⟩,
  ⟨DCK_CH1_RSV 0, 21, 4, 0x0, 0x0, 0x0, 0x0, 0x0, false, 0x0⟩]

/-- The registers of one block window (R591). -/
def tlyRows : List RegRow := [
  ⟨TLY_STAT, 1, 4, 0x0, 0x0, 0x0, 0x0, 0x0, false, 0x0⟩,
  ⟨TLY_CAL_CMD, 1, 4, 0x0, 0x0, 0x0, 0x3F3F, 0x0, false, 0x0⟩,
  ⟨TLY_CAL_STAT, 1, 4, 0x0, 0x0, 0x3F3F, 0x0, 0x0, false, 0x0⟩,
  ⟨TLY_TBL_SEL, 1, 4, 0x0, 0x107FF, 0x0, 0x0, 0x0, false, 0x0⟩,
  ⟨TLY_TBL_DATA, 1, 4, 0x0, 0xFFFF, 0x0, 0x0, 0x0, false, 0x0⟩,
  ⟨TLY_EDGEIN 0, 2, 4, 0xFFFFF, 0x0, 0x0, 0x0, 0x0, false, 0x800⟩,
  ⟨TLY_L_CFG 0, 4, 256, 0x333F7, 0x0, 0x0, 0x0, 0x0, false, 0x0⟩,
  ⟨TLY_L_HOLD 0, 4, 256, 0xFFFFFF, 0x0, 0x0, 0x0, 0x0, false, 0x0⟩,
  ⟨TLY_L_GATE 0, 4, 256, 0xFFFFFF, 0x0, 0x0, 0x0, 0x0, false, 0x3E8⟩,
  ⟨TLY_L_STILL 0, 4, 256, 0xFFFF, 0x0, 0x0, 0x0, 0x0, false, 0xC8⟩,
  ⟨TLY_L_N 0, 4, 256, 0xFFFFFFFF, 0x0, 0x0, 0x0, 0x0, false, 0x3E8⟩,
  ⟨TLY_L_DLY 0, 4, 256, 0xFFFFF, 0x0, 0x0, 0x0, 0x0, false, 0x0⟩,
  ⟨TLY_L_CMD 0, 4, 256, 0x0, 0x0, 0x0, 0x3, 0x0, false, 0x0⟩,
  ⟨TLY_L_STAT 0, 4, 256, 0x0, 0x0, 0x0, 0x0, 0x0, false, 0x0⟩,
  ⟨TLY_L_EVT 0, 4, 256, 0x0, 0x0, 0x3F, 0x0, 0x0, false, 0x0⟩,
  ⟨TLY_L_EVTEN 0, 4, 256, 0x3F, 0x0, 0x0, 0x0, 0x0, false, 0x0⟩,
  ⟨TLY_L_RES_Q0 0, 4, 256, 0x0, 0x0, 0x0, 0x0, 0x0, true, 0x0⟩,
  ⟨TLY_L_RES_Q1 0, 4, 256, 0x0, 0x0, 0x0, 0x0, 0x0, false, 0x0⟩,
  ⟨TLY_L_RES_Q2 0, 4, 256, 0x0, 0x0, 0x0, 0x0, 0x0, false, 0x0⟩,
  ⟨TLY_L_FIFO_Q0 0, 4, 256, 0x0, 0x0, 0x0, 0x0, 0x0, true, 0x0⟩,
  ⟨TLY_L_FIFO_Q1 0, 4, 256, 0x0, 0x0, 0x0, 0x0, 0x0, false, 0x0⟩,
  ⟨TLY_L_FIFO_Q2 0, 4, 256, 0x0, 0x0, 0x0, 0x0, 0x0, false, 0x0⟩,
  ⟨TLY_L_FIFO_FILL 0, 4, 256, 0x0, 0x0, 0x0, 0x0, 0x0, false, 0x0⟩,
  ⟨TLY_L_LOST 0, 4, 256, 0x0, 0x0, 0x0, 0x0, 0xFFFFFFFF, false, 0x0⟩,
  ⟨TLY_L_HOLDREJ 0, 4, 256, 0x0, 0x0, 0x0, 0x0, 0xFFFFFFFF, false, 0x0⟩,
  ⟨TLY_L_INVALID 0, 4, 256, 0x0, 0x0, 0x0, 0x0, 0xFFFFFFFF, false, 0x0⟩,
  ⟨TLY_L_MEAN_Q0 0, 4, 256, 0x0, 0x0, 0x0, 0x0, 0x0, true, 0x0⟩,
  ⟨TLY_L_MEAN_Q1 0, 4, 256, 0x0, 0x0, 0x0, 0x0, 0x0, false, 0x0⟩,
  ⟨TLY_L_MEAN_Q2 0, 4, 256, 0x0, 0x0, 0x0, 0x0, 0x0, false, 0x0⟩,
  ⟨TLY_L_SD_Q0 0, 4, 256, 0x0, 0x0, 0x0, 0x0, 0x0, false, 0x0⟩,
  ⟨TLY_L_SD_Q1 0, 4, 256, 0x0, 0x0, 0x0, 0x0, 0x0, false, 0x0⟩,
  ⟨TLY_L_SD_Q2 0, 4, 256, 0x0, 0x0, 0x0, 0x0, 0x0, false, 0x0⟩,
  ⟨TLY_L_MIN_Q0 0, 4, 256, 0x0, 0x0, 0x0, 0x0, 0x0, false, 0x0⟩,
  ⟨TLY_L_MIN_Q1 0, 4, 256, 0x0, 0x0, 0x0, 0x0, 0x0, false, 0x0⟩,
  ⟨TLY_L_MIN_Q2 0, 4, 256, 0x0, 0x0, 0x0, 0x0, 0x0, false, 0x0⟩,
  ⟨TLY_L_MAX_Q0 0, 4, 256, 0x0, 0x0, 0x0, 0x0, 0x0, false, 0x0⟩,
  ⟨TLY_L_MAX_Q1 0, 4, 256, 0x0, 0x0, 0x0, 0x0, 0x0, false, 0x0⟩,
  ⟨TLY_L_MAX_Q2 0, 4, 256, 0x0, 0x0, 0x0, 0x0, 0x0, false, 0x0⟩,
  ⟨TLY_L_STATN 0, 4, 256, 0x0, 0x0, 0x0, 0x0, 0x0, false, 0x0⟩,
  ⟨TLY_L_PAIRLOST 0, 4, 256, 0x0, 0x0, 0x0, 0x0, 0xFFFFFFFF, false, 0x0⟩,
  ⟨TLY_L_COLLIDE 0, 4, 256, 0x0, 0x0, 0x0, 0x0, 0xFFFFFFFF, false, 0x0⟩,
  ⟨KNB_CFG, 1, 4, 0x83FFFFFF, 0x0, 0x0, 0x0, 0x0, false, 0x32032⟩,
  ⟨KNB_POS, 1, 4, 0x0, 0x0, 0x0, 0x0, 0x0, true, 0x0⟩,
  ⟨KNB_SPEED, 1, 4, 0x0, 0x0, 0x0, 0x0, 0x0, false, 0x0⟩,
  ⟨KNB_STAT, 1, 4, 0x0, 0x0, 0x0, 0x0, 0x0, false, 0x2⟩,
  ⟨KNB_EVT, 1, 4, 0x0, 0x0, 0x7, 0x0, 0x0, false, 0x0⟩,
  ⟨KNB_EVTEN, 1, 4, 0x7, 0x0, 0x0, 0x0, 0x0, false, 0x0⟩,
  ⟨KNB_ERR, 1, 4, 0x0, 0x0, 0x0, 0x0, 0xFFFFFFFF, false, 0x0⟩,
  ⟨KNB_SVC, 1, 4, 0x371, 0x0, 0x0, 0x0, 0x0, false, 0x200⟩,
  ⟨KNB_LIM, 1, 4, 0xFFFFFFFF, 0x0, 0x0, 0x0, 0x0, false, 0x7FFF8000⟩,
  ⟨KNB_DISC, 1, 4, 0x0, 0x0, 0x0, 0x0, 0xFFFFFFFF, false, 0x0⟩,
  ⟨KNB_SETPOS, 1, 4, 0xFFFFFFFF, 0x0, 0x0, 0x0, 0x0, false, 0x0⟩,
  ⟨KNB_ACC 0, 8, 4, 0xFFFFFFFF, 0x0, 0x0, 0x0, 0x0, false, 0x0⟩]

/-- The registers of one block window (R592). -/
def slcRows : List RegRow := [
  ⟨SLC_STAT, 1, 4, 0x0, 0x0, 0x0, 0x0, 0x0, false, 0x0⟩,
  ⟨SLC_EVT, 1, 4, 0x0, 0x0, 0xFFFFFFFF, 0x0, 0x0, false, 0x0⟩,
  ⟨SLC_SWAP, 1, 4, 0x0, 0x0, 0x0, 0xFF, 0x0, false, 0x0⟩,
  ⟨SLC_SWAP_PEND, 1, 4, 0x0, 0x0, 0x0, 0x0, 0x0, false, 0x0⟩,
  ⟨SLC_MOOR_AFTER, 1, 4, 0xFF, 0x0, 0x0, 0x0, 0x0, false, 0x2⟩,
  ⟨SLC_STEP, 1, 4, 0x0, 0x0, 0x0, 0xFF, 0x0, false, 0x0⟩,
  ⟨SLC_L_CFG 0, 8, 128, 0x7777, 0x0, 0x0, 0x0, 0x0, false, 0x0⟩,
  ⟨SLC_L_MODE 0, 8, 128, 0x3, 0x0, 0x0, 0x0, 0x0, false, 0x0⟩,
  ⟨SLC_L_TIME 0, 8, 128, 0x3FF03FF, 0x0, 0x0, 0x0, 0x0, false, 0x5A003C⟩,
  ⟨SLC_L_PORTS 0, 8, 128, 0xFF, 0x0, 0x0, 0x0, 0x0, false, 0x0⟩,
  ⟨SLC_L_SETP 0, 8, 128, 0xFFFF, 0x0, 0x0, 0x0, 0x0, false, 0x0⟩,
  ⟨SLC_L_MANOUT 0, 8, 128, 0xFFFFF, 0x0, 0x0, 0x0, 0x0, false, 0x0⟩,
  ⟨SLC_L_SAFE 0, 8, 128, 0xFFFFF, 0x0, 0x0, 0x0, 0x0, false, 0x0⟩,
  ⟨SLC_L_OUTMIN 0, 8, 128, 0xFFFFF, 0x0, 0x0, 0x0, 0x0, false, 0x80000⟩,
  ⟨SLC_L_OUTMAX 0, 8, 128, 0xFFFFF, 0x0, 0x0, 0x0, 0x0, false, 0x7FFFF⟩,
  ⟨SLC_L_ILO 0, 8, 128, 0xFFFFFF, 0x0, 0x0, 0x0, 0x0, false, 0x800000⟩,
  ⟨SLC_L_IHI 0, 8, 128, 0xFFFFFF, 0x0, 0x0, 0x0, 0x0, false, 0x7FFFFF⟩,
  ⟨SLC_L_BAND 0, 8, 128, 0x7FFF, 0x0, 0x0, 0x0, 0x0, false, 0x0⟩,
  ⟨SLC_L_STAT 0, 8, 128, 0x0, 0x0, 0x0, 0x0, 0x0, false, 0x0⟩,
  ⟨SLC_L_OUT 0, 8, 128, 0x0, 0x0, 0x0, 0x0, 0x0, false, 0x0⟩,
  ⟨SLC_L_INT 0, 8, 128, 0x0, 0x0, 0x0, 0x0, 0x0, false, 0x0⟩,
  ⟨SLC_L_ERR 0, 8, 128, 0x0, 0x0, 0x0, 0x0, 0x0, false, 0x0⟩,
  ⟨SLC_L_SPNOW 0, 8, 128, 0x0, 0x0, 0x0, 0x0, 0x0, false, 0x0⟩,
  ⟨SLC_L_MISSED 0, 8, 128, 0x0, 0x0, 0x0, 0x0, 0xFFFFFFFF, false, 0x0⟩,
  ⟨SLC_L_STALE 0, 8, 128, 0x0, 0x0, 0x0, 0x0, 0xFFFFFFFF, false, 0x0⟩,
  ⟨SLC_L_SAT 0, 8, 128, 0x0, 0x0, 0x0, 0x0, 0xFFFFFFFF, false, 0x0⟩,
  ⟨SLC_L_LIST 0, 8, 128, 0xFFF0FFF, 0x0, 0x0, 0x0, 0x0, false, 0x0⟩,
  ⟨SLC_L_REPEAT 0, 8, 128, 0xFFFF, 0x0, 0x0, 0x0, 0x0, false, 0x1⟩,
  ⟨SLC_L_LISTCMD 0, 8, 128, 0x0, 0x0, 0x0, 0x3, 0x0, false, 0x0⟩,
  ⟨SLC_L_LISTSTAT 0, 8, 128, 0x0, 0x0, 0x0, 0x0, 0x0, false, 0x0⟩,
  ⟨SLC_BANK 0, 3072, 4, 0x0, 0xFFFFFFFF, 0x0, 0x0, 0x0, false, 0x0⟩,
  ⟨SLC_LIST 0, 4096, 4, 0xFFFFFFFF, 0x0, 0x0, 0x0, 0x0, false, 0x0⟩]

/-- The registers of one block window (R593). -/
def slpRows : List RegRow := [
  ⟨SLP_CFG, 1, 4, 0x3FF07FF, 0x0, 0x0, 0x0, 0x0, false, 0x5A0001⟩,
  ⟨SLP_STAT, 1, 4, 0x0, 0x0, 0x0, 0x0, 0x0, false, 0x0⟩,
  ⟨SLP_LDAC_LATE, 1, 4, 0x0, 0x0, 0x0, 0x0, 0xFFFFFFFF, false, 0x0⟩,
  ⟨SLP_P_CFG 0, 8, 32, 0xFFF1F03, 0x0, 0x0, 0x0, 0x0, false, 0x101800⟩,
  ⟨SLP_P_FMT 0, 8, 32, 0xFFFFFF, 0x0, 0x0, 0x0, 0x0, false, 0x0⟩,
  ⟨SLP_P_PWM 0, 8, 32, 0xFFF0FFF, 0x0, 0x0, 0x0, 0x0, false, 0x64⟩,
  ⟨SLP_P_PWM2 0, 8, 32, 0x3FF3FF73, 0x0, 0x0, 0x0, 0x0, false, 0x0⟩,
  ⟨SLP_P_SAFE 0, 8, 32, 0xFFFFF, 0x0, 0x0, 0x0, 0x0, false, 0x0⟩,
  ⟨SLP_P_VALUE 0, 8, 32, 0xFFFFF, 0x0, 0x0, 0x0, 0x0, false, 0x0⟩,
  ⟨SLP_P_STAT 0, 8, 32, 0x0, 0x0, 0x0, 0x0, 0x0, false, 0x0⟩,
  ⟨SLP_P_LATE 0, 8, 32, 0x0, 0x0, 0x0, 0x0, 0xFFFFFFFF, false, 0x0⟩,
  ⟨PRT_TRIPPED, 1, 4, 0x0, 0x0, 0x0, 0x0, 0x0, false, 0x0⟩,
  ⟨PRT_EVT, 1, 4, 0x0, 0x0, 0xFF, 0x0, 0x0, false, 0x0⟩,
  ⟨PRT_CMD, 1, 4, 0x0, 0x0, 0x0, 0xFFFF, 0x0, false, 0x0⟩,
  ⟨PRT_TRIPOUT 0, 2, 4, 0xFF, 0x0, 0x0, 0x0, 0x0, false, 0x0⟩,
  ⟨PRT_TRIP_CNT, 1, 4, 0x0, 0x0, 0x0, 0x0, 0xFFFFFFFF, false, 0x0⟩,
  ⟨PRT_L_CFG 0, 8, 64, 0xFF3F77, 0x0, 0x0, 0x0, 0x0, false, 0x10010⟩,
  ⟨PRT_L_V 0, 8, 64, 0xFFFFFFFF, 0x0, 0x0, 0x0, 0x0, false, 0x80007FFF⟩,
  ⟨PRT_L_I 0, 8, 64, 0xFFFFFFFF, 0x0, 0x0, 0x0, 0x0, false, 0x80007FFF⟩,
  ⟨PRT_L_OP 0, 8, 64, 0x7FFFFFFF, 0x0, 0x0, 0x0, 0x0, false, 0x7FFFFFFF⟩,
  ⟨PRT_L_UVDLY 0, 8, 64, 0xFFFF, 0x0, 0x0, 0x0, 0x0, false, 0x0⟩,
  ⟨PRT_L_CAUSE 0, 8, 64, 0x0, 0x0, 0x0, 0x0, 0x0, false, 0x0⟩,
  ⟨PRT_L_TS_Q0 0, 8, 64, 0x0, 0x0, 0x0, 0x0, 0x0, true, 0x0⟩,
  ⟨PRT_L_TS_Q1 0, 8, 64, 0x0, 0x0, 0x0, 0x0, 0x0, false, 0x0⟩,
  ⟨PRT_L_TS_Q2 0, 8, 64, 0x0, 0x0, 0x0, 0x0, 0x0, false, 0x0⟩,
  ⟨PRT_L_TIDE_LO 0, 8, 64, 0x0, 0x0, 0x0, 0x0, 0x0, false, 0x0⟩,
  ⟨PRT_L_TIDE_HI 0, 8, 64, 0x0, 0x0, 0x0, 0x0, 0x0, false, 0x0⟩,
  ⟨PRT_FAST 0, 8, 4, 0xFF1FFF, 0x0, 0x0, 0x0, 0x0, false, 0x800⟩]

/-- The registers of one block window (R594). -/
def belRows : List RegRow := [
  ⟨BEL_LEVEL 0, 2, 4, 0x0, 0x0, 0x0, 0x0, 0x0, false, 0x0⟩,
  ⟨BEL_EN 0, 2, 4, 0x0, 0xFFFFFFFF, 0x0, 0x0, 0x0, false, 0x0⟩,
  ⟨BEL_PEND 0, 2, 4, 0x0, 0x0, 0x0, 0x0, 0x0, false, 0x0⟩,
  ⟨BEL_SYS_EVT, 1, 4, 0x0, 0x0, 0x1, 0x0, 0x0, false, 0x0⟩,
  ⟨BEL_BAD_COMPLETE, 1, 4, 0x0, 0x0, 0x0, 0x0, 0xFFFF, false, 0x0⟩,
  ⟨BEL_LOST, 1, 4, 0x0, 0x0, 0x0, 0x0, 0xFFFFFFFF, false, 0x0⟩,
  ⟨BEL_VEC 0, 8, 4, 0x0, 0x77777777, 0x0, 0x0, 0x0, false, 0x0⟩,
  ⟨BEL_TGT 0, 4, 16, 0xFFFF7F01, 0x0, 0x0, 0x0, 0x0, false, 0x100⟩,
  ⟨BEL_CLAIM 0, 4, 16, 0x0, 0x0, 0x0, 0x0, 0x8000003F, false, 0x0⟩,
  ⟨BEL_COMPLETE 0, 4, 16, 0x0, 0x0, 0x0, 0x3F, 0x0, false, 0x0⟩,
  ⟨BEL_TSTAT 0, 4, 16, 0x0, 0x0, 0x0, 0x0, 0x0, false, 0x0⟩]

/-- The registers of one block window (R595). -/
def cmdRows : List RegRow := [
  ⟨CMD_MB_IN, 1, 4, 0x0, 0x0, 0x0, 0xFFFFFFFF, 0x0, false, 0x0⟩,
  ⟨CMD_MB_OUT, 1, 4, 0x0, 0x0, 0x0, 0x0, 0xFFFFFFFF, false, 0x0⟩,
  ⟨CMD_MB_STAT, 1, 4, 0x0, 0x0, 0x0, 0x0, 0x0, false, 0x0⟩,
  ⟨CMD_UART_DIV, 1, 4, 0xFFFFFF, 0x0, 0x0, 0x0, 0x0, false, 0x3640E⟩,
  ⟨CMD_ABORT_CNT, 1, 4, 0x0, 0x0, 0x0, 0x0, 0x0, false, 0x0⟩,
  ⟨CMD_PCFG 0, 1, 64, 0x7F03, 0x0, 0x0, 0x0, 0x0, false, 0x0⟩,
  ⟨CMD_PCFG 1, 2, 64, 0x7F01, 0x0, 0x0, 0x0, 0x0, false, 0x0⟩,
  ⟨CMD_STAT 0, 3, 64, 0x0, 0x0, 0x0, 0x0, 0x0, false, 0x0⟩,
  ⟨CMD_DROP 0, 3, 64, 0x0, 0x0, 0x0, 0x0, 0xFFFFFFFF, false, 0x0⟩,
  ⟨CMD_ERR 0, 3, 64, 0x0, 0x0, 0x0, 0x0, 0x0, false, 0x0⟩,
  ⟨CMD_LOST 0, 3, 64, 0x0, 0x0, 0x0, 0x0, 0xFFFFFFFF, false, 0x0⟩,
  ⟨CMD_LINKERR 0, 3, 64, 0x0, 0x0, 0x0, 0x0, 0xFFFFFFFF, false, 0x0⟩]

/-- The registers of one block window (R596). -/
def fryRows : List RegRow := [
  ⟨FRY_FAULT, 1, 4, 0x0, 0x0, 0xFFFF, 0x0, 0x0, false, 0x0⟩,
  ⟨FRY_TAGS, 1, 4, 0x0, 0x0, 0x0, 0x0, 0x0, false, 0x0⟩,
  ⟨FRY_LINK, 1, 4, 0x0, 0x0, 0x0, 0x0, 0x0, false, 0x0⟩,
  ⟨FRY_ABREC_LO, 1, 4, 0xFFFFFFE0, 0x0, 0x0, 0x0, 0x0, false, 0x0⟩,
  ⟨FRY_ABREC_HI, 1, 4, 0xFFFFFFFF, 0x0, 0x0, 0x0, 0x0, false, 0x0⟩,
  ⟨FRY_BAR2_CFG, 1, 4, 0x3, 0x0, 0x0, 0x0, 0x0, false, 0x2⟩,
  ⟨FRY_BAR2_BASE, 1, 4, 0xFFFFFFFF, 0x0, 0x0, 0x0, 0x0, false, 0x0⟩,
  ⟨FRY_BAR2_DROP, 1, 4, 0x0, 0x0, 0x0, 0x0, 0xFFFFFFFF, false, 0x0⟩,
  ⟨FRY_MON_DROP, 1, 4, 0x0, 0x0, 0x0, 0x0, 0xFFFFFFFF, false, 0x0⟩,
  ⟨FRY_R_CFG 0, 8, 64, 0xFFFFFFF7, 0x0, 0x0, 0x0, 0x0, false, 0x1000080⟩,
  ⟨FRY_R_DBASE_LO 0, 8, 64, 0xFFFFFFE0, 0x0, 0x0, 0x0, 0x0, false, 0x0⟩,
  ⟨FRY_R_DBASE_HI 0, 8, 64, 0xFFFFFFFF, 0x0, 0x0, 0x0, 0x0, false, 0x0⟩,
  ⟨FRY_R_CBASE_LO 0, 8, 64, 0xFFFFFFE0, 0x0, 0x0, 0x0, 0x0, false, 0x0⟩,
  ⟨FRY_R_CBASE_HI 0, 8, 64, 0xFFFFFFFF, 0x0, 0x0, 0x0, 0x0, false, 0x0⟩,
  ⟨FRY_R_CMD 0, 8, 64, 0x0, 0x0, 0x0, 0x7, 0x0, false, 0x0⟩,
  ⟨FRY_R_POST 0, 8, 64, 0x0, 0x0, 0x0, 0xFFFF, 0x0, false, 0x0⟩,
  ⟨FRY_R_STAT 0, 8, 64, 0x0, 0x0, 0x0, 0x0, 0x0, false, 0x100⟩,
  ⟨FRY_R_PTR 0, 8, 64, 0x0, 0x0, 0x0, 0x0, 0x0, false, 0x0⟩,
  ⟨FRY_R_TAIL 0, 8, 64, 0x0, 0x0, 0x0, 0x0, 0x0, false, 0x0⟩,
  ⟨FRY_R_LDG0 0, 8, 64, 0x0, 0x0, 0x0, 0x0, 0x0, false, 0x0⟩,
  ⟨FRY_R_LDG1 0, 8, 64, 0x0, 0x0, 0x0, 0x0, 0x0, false, 0x0⟩,
  ⟨FRY_R_EVT 0, 8, 64, 0x0, 0x0, 0x1, 0x0, 0x0, false, 0x0⟩,
  ⟨FRY_R_DROP 0, 8, 64, 0x0, 0x0, 0x0, 0x0, 0xFFFFFFFF, false, 0x0⟩,
  ⟨FRY_R_RECS 0, 8, 64, 0x0, 0x0, 0x0, 0x0, 0x0, false, 0x0⟩,
  ⟨MSIX_TABLE 0, 64, 4, 0x0, 0xFFFFFFFF, 0x0, 0x0, 0x0, false, 0x0⟩,
  ⟨MSIX_PBA 0, 2, 4, 0x0, 0x0, 0x0, 0x0, 0x0, false, 0x0⟩]

/-- The registers of one block window (R597). -/
def emcRows : List RegRow := [
  ⟨EMC_CFG, 1, 4, 0x3F73, 0x0, 0x0, 0x0, 0x0, false, 0x0⟩,
  ⟨EMC_MEMBERS, 1, 4, 0xFF, 0x0, 0x0, 0x0, 0x0, false, 0x1⟩,
  ⟨EMC_SHARE, 1, 4, 0x7FFF01FF, 0x0, 0x0, 0x0, 0x0, false, 0x0⟩,
  ⟨EMC_EARM, 1, 4, 0xFF, 0x0, 0x0, 0x0, 0x0, false, 0x0⟩,
  ⟨EMC_CAL, 1, 4, 0xFFFFFFFF, 0x0, 0x0, 0x0, 0x0, false, 0x0⟩,
  ⟨EMC_CMD, 1, 4, 0x0, 0x0, 0x0, 0xF, 0x0, false, 0x0⟩,
  ⟨EMC_STAT, 1, 4, 0x0, 0x0, 0x0, 0x0, 0x0, false, 0x0⟩,
  ⟨EMC_EVT, 1, 4, 0x0, 0x0, 0x3FF, 0x0, 0x0, false, 0x0⟩,
  ⟨EMC_SLOTS, 1, 4, 0x0, 0x0, 0x0, 0x0, 0x0, false, 0x0⟩,
  ⟨EMC_CORR, 1, 4, 0x0, 0x0, 0x0, 0x0, 0x0, false, 0x0⟩,
  ⟨EMC_CRAW, 1, 4, 0x0, 0x0, 0x0, 0x0, 0x0, false, 0x0⟩,
  ⟨EMC_PARERR, 1, 4, 0x0, 0x0, 0x0, 0x0, 0xFFFFFFFF, false, 0x0⟩,
  ⟨EMC_ARMREJ, 1, 4, 0x0, 0x0, 0x0, 0x0, 0xFFFFFFFF, false, 0x0⟩,
  ⟨EMC_RIGOFS_Q0, 1, 4, 0x0, 0x0, 0x0, 0x0, 0x0, true, 0x0⟩,
  ⟨EMC_RIGOFS_Q12 0, 2, 4, 0x0, 0x0, 0x0, 0x0, 0x0, false, 0x0⟩,
  ⟨EMC_VAL 0, 8, 4, 0x0, 0x0, 0x0, 0x0, 0x0, false, 0x0⟩,
  ⟨EMC_ABS 0, 8, 4, 0x0, 0x0, 0x0, 0x0, 0xFFFFFFFF, false, 0x0⟩]

/-- The registers of one block window (R598). -/
def trlRows : List RegRow := [
  ⟨TRL_CMD, 1, 4, 0x0, 0x0, 0x0, 0xF1F, 0x0, false, 0x0⟩,
  ⟨TRL_STAT, 1, 4, 0x0, 0x0, 0x0, 0x0, 0x0, false, 0x0⟩,
  ⟨TRL_EVT, 1, 4, 0x0, 0x0, 0x3, 0x0, 0x0, false, 0x0⟩,
  ⟨TRL_BAD, 1, 4, 0x0, 0x0, 0x0, 0x0, 0x0, false, 0x0⟩,
  ⟨TRL_GEN, 1, 4, 0x0, 0x0, 0x0, 0x0, 0x0, false, 0x0⟩,
  ⟨TRL_APPLY, 1, 4, 0x1, 0x0, 0x0, 0x0, 0x0, false, 0x0⟩,
  ⟨TRL_SKIP, 1, 4, 0x0, 0x0, 0x0, 0x0, 0xFFFFFFFF, false, 0x0⟩,
  ⟨TRL_RAW_ADDR, 1, 4, 0x0, 0xFFFF, 0x0, 0x0, 0x0, false, 0x0⟩,
  ⟨TRL_RAW_DATA, 1, 4, 0x0, 0x0, 0x0, 0x0, 0x0, false, 0x0⟩,
  ⟨TRL_CMPTRIM 0, 8, 4, 0xFFFF, 0x0, 0x0, 0x0, 0x0, false, 0x0⟩,
  ⟨TRL_IDENT 0, 8, 4, 0x0, 0x0, 0x0, 0x0, 0x0, false, 0x0⟩]

/-- The registers of one block window (R599). -/
def yrdRows : List RegRow := [
  ⟨PMX_PIN 0, 32, 4, 0x131FF, 0x0, 0x0, 0x0, 0x0, false, 0x0⟩,
  ⟨PMX_GPO, 1, 4, 0xFFFFFFFF, 0x0, 0x0, 0x0, 0x0, false, 0x0⟩,
  ⟨PMX_IN, 1, 4, 0x0, 0x0, 0x0, 0x0, 0x0, false, 0x0⟩,
  ⟨PMX_SWITCHED, 1, 4, 0x0, 0x0, 0xFFFFFFFF, 0x0, 0x0, false, 0x0⟩,
  ⟨YRD_ROUTE 0, 32, 4, 0xFFFF77FD, 0x0, 0x0, 0x0, 0x0, false, 0x0⟩,
  ⟨YRD_BELL_SEL 0, 8, 4, 0x7F, 0x0, 0x0, 0x0, 0x0, false, 0x0⟩,
  ⟨YRD_BELL_STAT, 1, 4, 0x0, 0x0, 0xFF, 0x0, 0x0, false, 0x0⟩,
  ⟨YRD_PULSE, 1, 4, 0x0, 0x0, 0x0, 0xFF, 0x0, false, 0x0⟩,
  ⟨YRD_COINC 0, 8, 4, 0x0, 0x0, 0x0, 0x0, 0xFFFFFFFF, false, 0x0⟩,
  ⟨YRD_IGN 0, 8, 4, 0x0, 0x0, 0x0, 0x0, 0xFFFFFFFF, false, 0x0⟩,
  ⟨YRD_LOG_MASK 0, 4, 4, 0xFFFFFFFF, 0x0, 0x0, 0x0, 0x0, false, 0x0⟩,
  ⟨YRD_LOG_Q0, 1, 4, 0x0, 0x0, 0x0, 0x0, 0x0, true, 0x0⟩,
  ⟨YRD_LOG_Q12 0, 2, 4, 0x0, 0x0, 0x0, 0x0, 0x0, false, 0x0⟩,
  ⟨YRD_LOG_FILL, 1, 4, 0x0, 0x0, 0x0, 0x0, 0x0, false, 0x0⟩,
  ⟨YRD_LOG_LOST, 1, 4, 0x0, 0x0, 0x0, 0x0, 0xFFFFFFFF, false, 0x0⟩,
  ⟨YRD_ABORT_DISC, 1, 4, 0x0, 0x0, 0x0, 0x0, 0xFFFFFFFF, false, 0x0⟩,
  ⟨YRD_SNAP_Q0, 1, 4, 0x0, 0x0, 0x0, 0x0, 0x0, true, 0x0⟩,
  ⟨YRD_SNAP_Q12 0, 2, 4, 0x0, 0x0, 0x0, 0x0, 0x0, false, 0x0⟩,
  ⟨YRD_SNAP_TIDE 0, 2, 4, 0x0, 0x0, 0x0, 0x0, 0x0, false, 0x0⟩]

/-- The rows of the block window that holds an offset (R578). -/
def blockRows (off : Nat) : List RegRow :=
  if off < 0x1000 then sysRows else
  if off < 0x2000 then clkRows else
  if off < 0x4000 then pwrRows else
  if off < 0x6000 then brtRows else
  if off < 0x8000 then pltRows else
  if off < 0xA000 then acqRows else
  if off < 0xC000 then whsRows else
  if off < 0x10000 then dckRows else
  if off < 0x14000 then tlyRows else
  if off < 0x1C000 then slcRows else
  if off < 0x20000 then slpRows else
  if off < 0x22000 then belRows else
  if off < 0x24000 then cmdRows else
  if off < 0x28000 then fryRows else
  if off < 0x2A000 then emcRows else
  if off < 0x2C000 then trlRows else
  if off < 0x2E000 then yrdRows else
  []

/-- Whether a row assigns the offset. -/
def RegRow.has (r : RegRow) (off : Nat) : Bool :=
  r.base ≤ off && (off - r.base) % r.stride == 0 && (off - r.base) / r.stride < r.count

/-- The row that assigns an offset; none where the offset is unassigned (R580). -/
def regRow (off : Nat) : Option RegRow := (blockRows off).find? (·.has off)

/-- The whole register after every unit reset source, with BOOTHOST 0 (R582 and the tables R583 to R599).
The four rows whose instances differ are given by instance. -/
def resetNat (off : Nat) : Nat :=
  if 0x10640 ≤ off ∧ off < 0x10660 then (if off = 0x10640 then 0x10000 else 0x1FFFF)
  else if 0x14100 ≤ off ∧ off < 0x14500 ∧ off % 0x80 = 0 then (off - 0x14100) / 0x80 * 16
  else if off = 0x22100 then 1
  else if 0x26000 ≤ off ∧ off < 0x26100 then (if off % 16 = 12 then 1 else 0)
  else match regRow off with
    | some r => r.reset
    | none => 0

/-- The value of a register that nothing has written since reset. -/
def resetValue (off : Nat) : Word := BitVec.ofNat 32 (resetNat off)

end Sys2Proof.Machine
end

