-- ==== Sys2Proof/Config.lean ====
section
/-! DEFINITION. The free values: what the spec leaves open and the unit nevertheless produces. Each is an
opaque constant, applied to the counter `State.free` (a fresh index for each use) or to the operands it
depends on; no proof can see what it is. The assumption log names each. -/

namespace Sys2Proof.Config

/-- A 32-bit value the spec leaves unspecified. Log 6. -/
opaque freeWord : Nat → BitVec 32

/-- An integer the spec leaves unspecified (a result outside a format). Log 6. -/
opaque freeInt : Nat → Int

/-- The word an external memory location holds after its contents were lost (R642, R349): the loss that
happened when the free counter stood at the first argument, at the word address of the second. Log 7. -/
opaque lostWord : Nat → Nat → BitVec 72

/-- The device delay t_A of a realigned ACLK (R156), as a part of 2^32 of its span of 1.20 ns to 1.40 ns. Log 20. -/
opaque syncDelay : BitVec 32

end Sys2Proof.Config
end

