-- ==== Sys2Proof/Machine/State.lean ====
section
/-! DEFINITION. The state of the unit: its registers (one sparse list keyed by BAR0 offset, an unlisted
register reading as its reset value), the state the register map does not show (queues, buffers, partial
results, states of the engines), its memories, and the queue of waiting commands. -/

namespace Sys2Proof.Machine

/-- Why the unit stops with a fault. -/
inductive Fault where
  /-- Raised by no meaning: every command of the opcode table answers with a next state. The name is kept for an object
  the unit does not have (safe). -/
  | noSuchObject
  deriving DecidableEq, Repr

/-- Why a command is refused by the model. -/
inductive Refusal where
  /-- Raised by the dispatch for a row that has no meaning yet; no row is without one (safe). -/
  | notModelled (mnemonic : String)
  deriving DecidableEq, Repr

/-- Sparse data by key, in one canonical form: keys strictly rising, and no entry equal to what an unlisted
key reads as. -/
abbrev SMap (α : Type) := List (Nat × α)

/-! ### Tide, time and the unit state table -/

/-- The tide and the time base (R33, R41, R48, R50). -/
structure TideSt where
  /-- The current tide cycle (R7). -/
  cycle : Nat
  /-- TIDE_LEN as it holds for the tide in progress (R34). -/
  len : Nat
  /-- The tide number (R41). -/
  number : TideNo
  /-- The time-base count of TCLK periods (R48). -/
  tb : BitVec 56
  /-- The staging cut-off of this tide has passed (R39). -/
  cutoff : Bool
  /-- The changes the checks of this tide reach, where bounded (R59). -/
  reach : Option Nat
  /-- An averaging window has closed in this tide (R65). -/
  windowClosed : Bool
  /-- RCLK runs: REFIN is present (R67, R141). -/
  rclk : Bool
  deriving DecidableEq, Repr

/-- Time of day and its 1PPS discipline (R51 to R56). -/
structure TodSt where
  sec : BitVec 48
  ns : Nat
  setSec : BitVec 48
  setNs : Nat
  /-- Roll-overs to pass before the staged set commits: 1 when GO came in the last microsecond (R53). -/
  setSkip : Nat
  /-- The slew remainder, and the place of the current RCLK cycle in the hundred of which one takes a step (R55). -/
  slew : Int
  phase : Nat
  /-- The time-base instant of the last accepted 1PPS edge; none before the first (R56). -/
  ppsLast : Option (BitVec 56)
  /-- The time-base instant at which the discipline was last enabled (R56). -/
  ppsFrom : BitVec 56
  /-- Of the last two accepted edges, how many in a row were slews, at most 2 (R56). -/
  ppsSlews : Nat
  /-- The time-base instant of the last roll-over at which a staged set committed (R62, R63). -/
  setAt : Option (BitVec 56)
  /-- The time-base instant of the last TIM_ADJ write, and what that edge's writes have added (R63). -/
  adjAt : Option (BitVec 56)
  adjSum : Int
  deriving DecidableEq, Repr

/-- A staged PCIe write of a TA register (R39, R43). -/
structure StagedWrite where
  off : Nat
  val : Word
  /-- What its holding register held when it was staged (R602). -/
  lo : Word
  /-- It was staged after the cut-off and commits one boundary later. -/
  late : Bool
  /-- The guards that cover it, by serial number (R46). -/
  cover : List Nat
  /-- The tide in which it was staged (R15). -/
  tide : TideNo
  deriving DecidableEq, Repr

/-- A staged SYS_GUARD (R46). -/
structure Guard where
  serial : Nat
  epoch : Word
  late : Bool
  /-- Still in the tide in which it was written: it covers writes staged now. -/
  open_ : Bool
  deriving DecidableEq, Repr

/-- The staging side of the unit state table. -/
structure UstSt where
  writes : List StagedWrite
  guards : List Guard
  /-- The next serial number of a guard or a staged line. -/
  serial : Nat
  /-- The registers set by the changes of the boundary in progress, for the reports of R45 and R375. -/
  touched : List Nat
  deriving DecidableEq, Repr

/-! ### Damisk ports -/

/-- One printed field of a response (R92, R558). -/
inductive RVal where
  /-- A signed decimal. -/
  | dec (i : Int)
  /-- Hexadecimal with a full digit count. -/
  | hex (digits : Nat) (v : Nat)
  /-- An upper-case word. -/
  | word (w : String)
  /-- Seconds with 15 fraction digits, as a count of femtoseconds. -/
  | secs (fs : Int)
  /-- Seconds and nine decimal digits of nanoseconds (R52). -/
  | tod (sec : Nat) (ns : Nat)
  deriving DecidableEq, Repr

/-- A response (R92). -/
inductive Resp where
  /-- OK, with the fields of each query in unit order. -/
  | ok (qs : List (List RVal))
  /-- ER with its code (R103); `tagged` false prints no tag (R107). -/
  | er (code : Nat) (tagged : Bool)
  deriving DecidableEq, Repr

/-- Eight queries of R572 as units of a line. -/
inductive YardQ where
  | func (n : Nat)
  | level (n : Nat)
  | bell | log
  | coinc (t : Nat)
  | ign (t : Nat)
  | aborted | snap
  deriving DecidableEq, Repr

/-- A unit of a parsed line (R82): the row of the opcode table it is, on the port of the line. The last eight Damisk rows
have a form of their own here, because compiled Lean builds no more than 244 constructors of one type. -/
inductive LineUnit where
  | row (i : Instr)
  | yard (q : YardQ)
  deriving DecidableEq, Repr

/-- Where a queued line stands (R88, R91). -/
inductive LineSt where
  /-- Terminated and not parsed. -/
  | text (cs : List Byte) (linkErr : Bool)
  /-- Parsed, queries only, waiting for the earlier responses of its port (R91). -/
  | queries (us : List LineUnit)
  /-- Parsed and staged for a boundary: the time-base instant, and the place among the lines staged. -/
  | staged (us : List LineUnit) (late : Bool) (at_ : BitVec 56) (serial : Nat)
  /-- Answered, its response waiting for the output buffer. -/
  | answered (r : Resp)
  deriving DecidableEq, Repr

/-- A line in a port's queue (R96). -/
structure Line where
  tag : Option Nat
  st : LineSt
  /-- It holds a queue slot; a line refused as too long holds none (R80). -/
  slot : Bool
  deriving DecidableEq, Repr

/-- The asynchronous line names of R94. -/
inductive AsyncName where
  | aborted | trip | clock | rig | power | store | list | acq
  deriving DecidableEq, Repr

/-- A pending asynchronous line (R93, R95). -/
structure AsyncLine where
  name : AsyncName
  tide : TideNo
  detail : List RVal
  /-- The time-base instant of its edge, and its place among the lines of its name raised on one edge: the lowest is kept
  (R164, R191). -/
  at_ : BitVec 56
  rank : Nat
  deriving DecidableEq, Repr

/-- One Damisk port (R70). -/
structure PortSt where
  /-- The stored characters of the partial line, oldest first. -/
  chars : List Byte
  /-- The partial line is marked too long (R80). -/
  tooLong : Bool
  /-- The last terminator was a CR, so a following LF belongs to it (R79). -/
  lastCR : Bool
  /-- A link error hit the partial line (R112). -/
  linkErr : Bool
  queue : List Line
  /-- The output buffer, oldest byte first. -/
  out : List Byte
  /-- One untagged ER 102 is owed at the next freed slot (R97). -/
  owed : Bool
  /-- Lines whose terminator has come on this very edge to a full queue: they are taken where a slot frees on it (R108). -/
  turned : List Line
  pendingAsync : List AsyncLine
  /-- The last byte the port put into its output buffer was LF, or it has put none (R93). -/
  atLineStart : Bool
  deriving DecidableEq, Repr

/-- A bit period that waits for the response to the line that set it (R72): the port of the line, how many responses the port
places up to and with that one, and once it stands in the output buffer how many bytes go out up to its end. -/
structure NewRate where
  div : Nat
  port : Fin 3
  place : Nat
  left : Nat
  deriving DecidableEq, Repr

/-- The links of the ports, and an abort in progress. -/
structure CmdSt where
  uart : PortSt
  spi : PortSt
  mbox : PortSt
  /-- The host drives UART_RTS_N high (R73). -/
  rtsHigh : Bool
  /-- The UART transmitter is sending the first byte of the UART output buffer (R73, R101). -/
  sending : Bool
  /-- The bit period in use (R72), one that the line being committed has set, and those that wait for their responses, in
  the order of the lines. -/
  uartDiv : Nat
  newDiv : Option Nat
  rates : List NewRate
  /-- Mode 3 rather than mode 0 in the current SPI frame (R74). -/
  spiMode3 : Bool
  spiInFrame : Bool
  /-- The status byte to send first in the frame (R75). -/
  spiStatus : Option Byte
  /-- The last byte the unit drove on DSPI_MISO (R75). -/
  miso : Byte
  /-- The tide number at t0 of an abort in progress (R101). -/
  abort : Option TideNo
  deriving DecidableEq, Repr

/-! ### Signal Yard and pins -/

/-- The deliveries of one edge's events on their way to their blocks (R121): for each task that has some, the OR of their
masks and how many have merged (R122), and the user Bell bits they set (R125). -/
structure Routed where
  tasks : List (Nat × Nat × Nat)
  bells : Nat
  deriving DecidableEq, Repr

/-- Nothing on its way. -/
def Routed.none : Routed := { tasks := [], bells := 0 }

/-- The Yard and the pin multiplexer (R116 to R131). -/
structure YardSt where
  /-- Event codes raised on this RCLK edge, in the order raised; they register together as the edge ends (R121). -/
  raised : List Nat
  /-- What the events of the edge before this one have routed, on ledger cycle 1 (R121), and what is delivered on this edge
  and has not been: at a tide edge it follows the changes of the edge. -/
  first : Routed
  second : Routed
  /-- The event log, oldest first (R126). -/
  log : List Quay
  /-- Pins in their park window (R131). -/
  park : BitVec 32
  /-- The commit edge on which the pins in their park window switched, in time base (R131). -/
  parkAt : BitVec 56
  /-- Pad levels after INV as synchronised (R117): what PMX_IN shows. -/
  level : BitVec 32
  /-- The levels in the synchroniser, one edge behind (R117). -/
  sync : BitVec 32
  /-- The levels that other drivers give the pads (R117); an output's pad has the level the unit drives. -/
  pads : BitVec 32
  deriving DecidableEq, Repr

/-- What this RCLK edge has done to latched flags and to counts, for accesses that fall on it (R13, R14). -/
structure EdgeSt where
  /-- The bits that events of this edge have set, by register. -/
  sets : SMap Word
  /-- What events of this edge have added, by register; and what such a register held before the first of them. -/
  adds : SMap Word
  olds : SMap Word
  /-- The Tally lanes a STOP of this edge has ended (R379). -/
  stops : BitVec 4
  /-- The status registers whose END a cause found on this edge has written (R647). -/
  ends : List Nat
  deriving DecidableEq, Repr

/-! ### Memories (R26, R326, R332) -/

/-- What one 72-bit word of a memory holds: a known word, or what was left when contents were lost at the loss
numbered g (R332, R349, R642; log 7). -/
inductive MWord where
  | known (q : Quay)
  | lost (g : Nat)
  deriving DecidableEq, Repr

/-- Words lo to hi - 1 lost their contents at the loss numbered g. -/
structure LostRegion where
  lo : Nat
  hi : Nat
  g : Nat
  deriving DecidableEq, Repr

/-- One memory: the words that differ from what an unlisted word reads as, and the losses, the latest first. -/
structure MemSt where
  words : SMap MWord
  lost : List LostRegion
  deriving DecidableEq, Repr

/-! ### Dock (R326 to R350) -/

/-- What a Dock burst does (R329). Capture writes and BAR2 accesses wait in the channel's queue; the bursts of the other clients
follow from the work these have. -/
inductive BurstOp where
  /-- A capture write of group c: words of the segment with this sequence number, from the first word address. -/
  | write (seq : Word) (addr : Nat) (words : List Quay)
  /-- Part of a BAR2 read: the word addresses it needs (R474). -/
  | bar2 (id : Nat) (addrs : List Nat)
  /-- A BAR2 write of one word (R475). -/
  | put (addr : Nat) (word : Quay)
  /-- A burst of the Manifest for the segment of group g with this sequence number (R334). -/
  | man (g : Nat) (seq : Word)
  /-- The read or the write of the next burst of histogram h's sweep (R310). -/
  | hist (h : Nat)
  /-- The read or the write of a word that hits of map m change; a burst of its decay sweep; one of its clear (R314 to R316). -/
  | hits (m word : Nat)
  | decay (m : Nat)
  | clear (m : Nat)
  /-- The next n words of the descriptor at index idx of ring r (R484, R485). -/
  | ferry (r idx n : Nat)
  deriving DecidableEq, Repr

/-- A burst for a calendar slot. -/
structure Burst where
  /-- The client index of R334; 21 stands for BAR2 access. -/
  client : Nat
  /-- The burst address, W[31:3] (R328). -/
  burst : Nat
  op : BurstOp
  /-- No more words will join it. -/
  closed : Bool
  deriving DecidableEq, Repr

/-- One Dock channel beside its registers. -/
structure DockCh where
  /-- The owner of each unit in the calendar in force (R338). -/
  owners : List (Option Nat)
  /-- The next client position of the round (R333). -/
  pos : Nat
  /-- Bursts waiting, oldest first. -/
  queue : List Burst
  /-- The bursts of the last 16 slots, newest first, with the slot's position (R346). -/
  issued : List (Option Burst)
  /-- An ALERT_N whose recovery the next refresh block brings (R346). -/
  alert : Bool
  /-- In self-refresh because Lighthouse-S lost lock, and not through DOCK OFF (R348, R349). -/
  hold : Bool
  deriving DecidableEq, Repr

/-! ### Berths (R197 to R226) -/

/-- One 18-bit slot: a corrected value with its OVR and MARK tags (R24). -/
structure Slot where
  v : Int
  ovr : Bool
  mark : Bool
  deriving DecidableEq, Repr

/-- One channel beside its registers. -/
structure ChanSt where
  /-- The index of the next sample to be handed over (R200). -/
  idx : Nat
  /-- Sample 0 of the run has entered the accumulator (R216). -/
  entered : Bool
  /-- The run held throughout the window so far: sample 0 entered in an earlier window and no stop came (R216). -/
  through : Bool
  /-- The accumulator: samples, sum and OVR (R216). -/
  accN : Nat
  accS : Int
  accOvr : Bool
  /-- Samples at the front of the next quay words that an earlier close has already counted. -/
  ahead : Nat
  /-- The tide sample formed at the close: mean, OVR and N; none where it is missing (R216). -/
  win : Option (Int × Bool × Nat)
  /-- The samples of the last window closed, whether its tide sample is missing or not (R219). -/
  winN : Nat
  /-- After a stop by a Berth pair's draining: the samples taken by then, whose whole words are still handed over (R181). -/
  tail : Option Nat
  /-- The matching block in progress: samples, whether one carried OVR, and per Berth the sum and the sum of
  absolute values (R207). -/
  blkN : Nat
  blkOvr : Bool
  blkS : Vector Int 8
  blkA : Vector Int 8
  /-- A block has completed in this run since the background terms were cleared, and met R208. -/
  blockDone : Bool
  blockOk : Bool
  /-- The last block had a mean absolute value below 256 (R207). -/
  lowsig : Bool
  deriving DecidableEq, Repr

/-- The converter array beside its registers. -/
structure BrtSt where
  chans : Vector ChanSt 8
  /-- For each Berth the recent over-range samples: their ACLK cycle and whether the input was positive (R212). -/
  overs : Vector (List (Nat × Bool)) 8
  /-- For each Berth the ACLK cycles of its recent saturations (R214). -/
  sats : Vector (List Nat) 8
  /-- The last completed skew round found every Berth measured within 100 fs (R206). -/
  skewOk : Bool
  /-- The stamp of an ACLK edge of the present run of Lighthouse-A, which the model leaves free (R200, log 20). -/
  aclk : Nat
  /-- Pending skew steps s_b (R205) and background updates (R207), applied at the next tide edge (R209). -/
  skewPend : Vector (Option Int) 8
  ofsPend : Vector (Option Int) 8
  gainPend : Vector (Option Int) 8
  /-- A clear of the background terms waits for the boundary (R209). -/
  bgClear : Bool
  /-- BRT_OFS and BRT_GAIN as they stood before the last tide edge (R209). -/
  prevOfs : Vector Word 8
  prevGain : Vector Word 8
  deriving DecidableEq, Repr

/-! ### Capture and the Manifest (R261 to R299) -/

/-- A trigger record (R245). -/
structure TrigRec where
  ts : Quay
  f : Nat
  i : Nat
  src : Nat
  coarse : Bool
  collide : Bool
  deriving DecidableEq, Repr

/-- A segment taken and not yet recorded by its header (R268 to R277). -/
structure Seg where
  trig : TrigRec
  s : Nat
  e : Nat
  seq : Word
  recNo : Nat
  dt : Nat
  rejDead : Nat
  rejBusy : Nat
  first : Bool
  degraded : Bool
  memerr : Bool
  /-- The body words that have left the capture engine, oldest first. -/
  body : List Quay
  /-- END of STATUS (R277). -/
  fin : Nat
  /-- The maps that ran when its trigger record arrived (R317). -/
  maps : List Nat
  /-- The Manifest's Dock bursts that have gone for it (R334). -/
  man : Nat
  deriving DecidableEq, Repr

/-- A stream block (R284). -/
structure Block where
  group : Nat
  no : Nat
  words : List Quay
  /-- Shortened by a STOP (R288). -/
  short : Bool
  /-- The time base of the edge it was offered on (R481). -/
  at_ : BitVec 56
  deriving DecidableEq, Repr

/-- A GAP or STOP record before it is formed (R286): its TYPE, first sample, stamp and COUNT, and whether it is the GAP of blocks
that found no buffer, whose CAUSE is HOST. -/
structure OwedMark where
  ty : Nat
  first : Nat
  stamp : Quay
  count : Nat
  host : Bool
  deriving DecidableEq, Repr

/-- One capture group beside its registers. -/
structure GrpSt where
  /-- The first sample taken (R267), the ready sample and the last sample of the previous segment (R269). -/
  a0 : Nat
  r : Nat
  ePrev : Int
  first : Bool
  /-- Segments taken since the arm. -/
  taken : Nat
  rejDead : Nat
  rejBusy : Nat
  seg : Option Seg
  /-- Segments whose headers are to be written, oldest first. -/
  await : List Seg
  /-- A DISARM waits for the segment to complete (R275). -/
  disarm : Bool
  /-- The END the group goes to IDLE with (R291). -/
  close : Nat
  /-- Words held, per channel: the index of the first word held, and the words. -/
  base : Nat
  held : Vector (List Quay) 8
  /-- Stream rings assigned (R478). -/
  sring : Nat
  mring : Nat
  /-- The number of the next block to begin, and whether the block in progress is staged. -/
  blockNo : Nat
  cur : Option Bool
  /-- The pending GAP record: its first sample and the blocks dropped (R285). -/
  gap : Option (Nat × Nat)
  /-- The trigger marks whose slots have not left the capture engine (R283). -/
  marksAt : List Nat
  /-- After a STOP: the index of the first raw word not delivered (R288). -/
  stopAt : Option Nat
  /-- The number of the group's next MARK record (R286), which counts on across starts (log 41). -/
  markNo : Word
  /-- START, GAP and STOP records waiting outside the queue (R287). -/
  waitMarks : List (List Quay)
  /-- The GAP and STOP records of an end that are to be formed: as the edge of the end closes, or as SCLK resumes (R297). -/
  owed : List OwedMark
  /-- The time-base instant at which the group ended: of the causes found on that edge the first in rank is recorded (R647). -/
  endAt : Option (BitVec 56)
  /-- Raw slots the decimator has not consumed and output slots not yet packed, per channel (R301, R302). -/
  raw : Vector (List Slot) 8
  outs : Vector (List Slot) 8
  /-- The index of the first raw slot not consumed. -/
  rawBase : Vector Nat 8
  deriving DecidableEq, Repr

/-- The capture engine beside its registers. -/
structure AcqSt where
  grps : Vector GrpSt 8
  /-- The on-chip mark queue: group and record, oldest first (R287). -/
  marks : List (Nat × List Quay)
  /-- Blocks staged and offered to the Ferry, oldest first (R284, R481). -/
  offered : List Block
  deriving DecidableEq, Repr

/-! ### Warehouse (R306 to R325) -/

/-- A sweep in progress of a histogram (R310). -/
structure Sweep where
  stamp : Quay
  clearing : Bool
  flush : Bool
  fin : Bool
  /-- The bursts of 8 words swept so far, and whether the next one has been read (R310). -/
  done : Nat
  half : Bool
  deriving DecidableEq, Repr

/-- One histogram beside its registers. -/
structure HistSt where
  /-- It counts from this instant on, and up to this instant (R308). -/
  start : Option Quay
  stop : Option Quay
  /-- Partial bins, and the four partial counters at 2^RES and on; an unlisted one is 0 (R310). -/
  part : SMap Nat
  sweep : Option Sweep
  /-- The next sweep clears (R311). -/
  clearNext : Bool
  /-- A flush request waits for a sweep to start (R312). -/
  flushReq : Bool
  /-- Partial bins and calendar charge are held from the admitted start to the end of the final sweep (R318). -/
  held : Bool
  deriving DecidableEq, Repr

/-- One persistence map beside its registers. -/
structure MapSt where
  /-- Between RUN 1 and RUN 0 (R315, R317). -/
  taking : Bool
  /-- The stamp of the last segment taken (R315). -/
  last : Option Quay
  /-- The hits of segments taken and not yet written: cells, oldest segment first (R336). -/
  hits : List (List Nat)
  /-- Segments taken since the last decay fell due (R316). -/
  since : Nat
  /-- Decay sweeps due and not started, at most one held (R316). -/
  due : Bool
  /-- For each segment in `hits`, whether a decay falls due once it is written. -/
  marks : List Bool
  /-- Words the decay sweep in progress has halved, and whether its next burst has been read. -/
  swept : Nat
  half : Bool
  /-- Words of the region that have been read for their hits and not yet written (R314). -/
  fetched : List Nat
  /-- Words the clear in progress has zeroed (R315). -/
  cleared : Nat
  /-- P + Q of the group as configured at the start (R319). -/
  pq : Nat
  held : Bool
  deriving DecidableEq, Repr

/-! ### Ferry (R471 to R505) -/

/-- A descriptor in flight (R480 to R486). -/
structure Flight where
  desc : Desc
  idx : Nat
  /-- The words for the host buffer read so far, or those read from it. -/
  data : List Quay
  /-- The directory entry of a SEG, and the words of a LOAD written so far (R484, R485). -/
  dir : Option Quay
  put : Nat
  bytes : Nat
  info : Nat
  aux : Nat
  code : Nat
  /-- Complete and waiting for its record. -/
  ready : Bool
  /-- The tide edges passed since its first record or word was written (R482). -/
  age : Option Nat
  /-- The stream block it carries. -/
  block : Option Block
  deriving DecidableEq, Repr

/-- A completion record as written to host memory (R480). -/
structure CplRec where
  addr : Nat
  tag : Nat
  bytes : Nat
  info : Nat
  tide : Nat
  code : Nat
  ring : Nat
  irq : Bool
  index : Nat
  phase : Bool
  aux : Nat
  deriving DecidableEq, Repr

/-- One ring beside its registers. -/
structure RingSt where
  /-- Records written since DONE was last set (R490). -/
  since : Nat
  /-- Descriptors fetched and not issued. -/
  fetched : List Desc
  /-- A descriptor fetch is outstanding. -/
  fetching : Bool
  /-- A LOAD data read is outstanding. -/
  loading : Bool
  flights : List Flight
  /-- A post drove HOST negative: nothing is issued before the check (R487). -/
  overdrawn : Bool
  /-- The time base of the edge of its last STOP (R500). -/
  stopAt : Option (BitVec 56)
  deriving DecidableEq, Repr

/-- A BAR2 read in progress (R474). -/
structure Bar2Rd where
  id : Nat
  off : Nat
  dws : Nat
  /-- The words gathered so far. -/
  got : List (Nat × Quay)
  need : Nat
  /-- The time base at its arrival. -/
  at_ : BitVec 56
  deriving DecidableEq, Repr

/-- What the endpoint returned for the last BAR2 read (R474). -/
inductive Bar2Cpl where
  | none
  | data (dws : List Word)
  | ca
  deriving DecidableEq, Repr

/-- The Ferry beside its registers. -/
structure FrySt where
  rings : Vector RingSt 8
  /-- The monitor queue: the tide and the words of it (R483). -/
  mon : List (TideNo × List Quay)
  /-- Monitor tides dropped since the last MONITOR record (R483). -/
  monDrops : Nat
  /-- The BAR2 write latch: the memory and the word it holds slots of, and the slots (R475). -/
  latch : Option ((Nat × Nat) × List (Nat × Nat))
  reads : List Bar2Rd
  nextId : Nat
  bar2 : Bar2Cpl
  /-- The last completion record written to host memory, and the data written ahead of it. -/
  lastRec : Option CplRec
  lastData : List Byte
  /-- Descriptors completed ABORTED in the abort in progress (R495). -/
  aborted : Nat
  /-- The ABORT record of the abort with this tide number waits for SCLK (R166). -/
  abrec : Option TideNo
  /-- The errors AER has recorded, a bit each in the order of R471's list: six correctable, then eight uncorrectable
  (R471, R502). -/
  aer : BitVec 14
  deriving DecidableEq, Repr

/-! ### Tally and knob (R351 to R383) -/

/-- A stamp a lane keeps, with its COARSE and COLLIDE flags and its direction (R353). -/
structure Mark where
  t : Quay
  coarse : Bool
  collide : Bool
  rising : Bool
  deriving DecidableEq, Repr

/-- One lane: 0 to 3 user lanes, 4 the Pilot lane, 5 the calibration lane. -/
structure LaneSt where
  /-- Bin widths in fs, in force and inactive; an unlisted entry is 0 (R352, R356). -/
  table : SMap Nat
  spare : SMap Nat
  /-- The inactive table swaps at the next boundary; whether a calibration made it (R356, R358). -/
  swap : Option Bool
  /-- The TCLK count of the last edge captured (R353). -/
  captured : Option Nat
  /-- The run began at this stamp (R368). -/
  start : Quay
  /-- The last accepted edge (R361). -/
  accepted : Option Quay
  /-- The start edge of an open INTERVAL or WIDTH, or the opening edge of a FREQ gate (R363, R365). -/
  opened : Option Mark
  /-- The last edge in each direction (R363). -/
  lastRise : Option Mark
  lastFall : Option Mark
  /-- Edges after the opening edge, and the stamp from which the wait for an opening edge is timed, where it is: the start
  (R365, R366). -/
  edges : Nat
  waitFrom : Option Quay
  /-- A FREQ edge since the opening one carried COARSE or COLLIDE (R369). -/
  gateCoarse : Bool
  gateCollide : Bool
  /-- Unpaired stamps of the lane and of its partner (R364). -/
  own : List Mark
  partner : List Mark
  /-- The lane this lane is claimed by (R363). -/
  claimer : Option Nat
  seq : Nat
  fifo : List Quay
  /-- VALUE of the run's last valid PERIOD result (R390); 0 where there is none. -/
  period : Nat
  /-- The statistics block: count, sum, sum of squares, least and greatest (R371). -/
  n : Nat
  sum : Int
  sqr : Int
  least : Int
  most : Int
  deriving DecidableEq, Repr

/-- The knob channel (R372 to R375). -/
structure KnobSt where
  /-- The filtered levels of A and B; none before decoding starts. -/
  levels : Option (Bool × Bool)
  /-- The TCLK counts of the last change of the level of A and of B since then (R372, R373). -/
  changedA : Option Nat
  changedB : Option Nat
  /-- The TCLK count of the last edge, where the next interval may be used (R373). -/
  last : Option Nat
  /-- The next edge is the first after standstill or an error. -/
  fresh : Bool
  acc : Int
  /-- Steps for the coming boundary and for the one after: their sum and number (R375). -/
  steps : Int
  stepsN : Nat
  later : Int
  laterN : Nat
  moved : Bool
  deriving DecidableEq, Repr

/-! ### Pilot (R227 to R260) -/

/-- An event on its way to an engine (R228, R239). -/
structure PEvent where
  src : Nat
  t : Quay
  /-- The channel, sample and fraction of a detector event. -/
  dig : Option (Nat × Nat × Nat)
  coarse : Bool
  collide : Bool
  deriving DecidableEq, Repr

/-- One trigger engine beside its registers. -/
structure EngSt where
  /-- The stamp of the event that opened the AB window (R241). -/
  window : Option Quay
  /-- The last accepted stamp since the engine began to run (R243). -/
  last : Option Quay
  held : Nat
  queue : List PEvent
  /-- In AB mode, a B event that came ahead of an A event of its own stamp, whose window it satisfies (R253). -/
  early : Option TrigRec
  deriving DecidableEq, Repr

/-- One digital detector (R236, R237). -/
structure DetSt where
  /-- The last sample: index, value and OVR. -/
  prev : Option (Nat × Int × Bool)
  /-- S HIGH, or x inside the band for WINDOW. -/
  high : Bool
  /-- SLOPE is armed; the last samples, newest first. -/
  armed : Bool
  hist : List (Int × Bool)
  /-- The trigger sample of the starting crossing of a pulse. -/
  start : Option Nat
  /-- RUNT: the first threshold has been passed and the other not reached. -/
  runt : Bool
  /-- Firings waiting for their cycle: trigger sample and fraction. -/
  fires : List (Nat × Nat)
  deriving DecidableEq, Repr

/-- The Pilot beside its registers. -/
structure PltSt where
  engs : Vector EngSt 8
  dets : Vector DetSt 8
  /-- Comparators whose reference is to be taken as their suppression window ends, and the time-base instant at which each one's
  last window began (R230). -/
  settling : BitVec 8
  settleFrom : Vector (Option (BitVec 56)) 8
  /-- TRIGIN levels above threshold. -/
  trigin : BitVec 2
  /-- The qualifier levels, a bit per source code, each with the TCLK count from which they stand, newest first (R242). -/
  levels : List (Nat × Nat)
  /-- The EFIRE pair is driven; the TCLK count at which the pulse ends (R248). -/
  efire : Bool
  efireTo : Nat
  /-- TRIGOUT outputs and the TCLK counts at which their pulses end (R249). -/
  out : BitVec 2
  outEnd : Vector Nat 2
  deriving DecidableEq, Repr

/-! ### Sluice (R384 to R416) -/

/-- The states of one biquad stage (R387). -/
structure StageSt where
  u1 : Int
  u2 : Int
  y1 : Int
  y2 : Int
  deriving DecidableEq, Repr

/-- A list sequencer (R406). -/
structure ListSt where
  /-- 0 IDLE, 1 RUNNING, 2 HOLD. -/
  st : Nat
  idx : Nat
  /-- The setpoint of the entry in force, as applied. -/
  sp : Int
  /-- The dwell tides left; 0 for an entry that stays until a STEP. -/
  left : Nat
  /-- Passes completed. -/
  passes : Nat
  /-- The entry was applied at the boundary in progress. -/
  now : Bool
  /-- The dwell has ended and the next entry is due at this boundary. -/
  due : Bool
  /-- A STEP is staged for the coming boundary (R406, R122). -/
  step : Bool
  deriving DecidableEq, Repr

/-- One Sluice loop beside its registers. -/
structure LoopSt where
  stages : Vector StageSt 6
  /-- I_raw (R388). -/
  iraw : Int
  /-- The hysteretic state is HIGH (R393). -/
  high : Bool
  /-- Bank B is active (R403). -/
  bank : Bool
  /-- A swap is pending for the coming boundary (R404), and one was made at the boundary in progress. -/
  swap : Bool
  swapNow : Bool
  /-- No AUTO tide has run since the last swap (R404 SWPRESET). -/
  swapped : Bool
  /-- The loop was in MANUAL or AUTO when it was moored, and its trip is latched (R402). -/
  moored : Bool
  /-- Its trip was cleared in this tide: it writes from the next one (R402). -/
  after : Bool
  /-- MODE and MANOUT as this tide's computation takes them (R397, R402). -/
  mode : Nat
  man : Int
  /-- This tide's sample was delivered (R400). -/
  got : Bool
  /-- The output of this tide has been written or is not to be (R397, R65). -/
  done : Bool
  /-- The last tide computed was an AUTO tide (R393). -/
  auto : Bool
  /-- The tide in which the loop entered AUTO (R428 UV). -/
  since : TideNo
  /-- MANOUT was written at the boundary in progress (R395). -/
  manNow : Bool
  /-- φ as sampled in this tide; none of it where its source is bad (R390). -/
  phi : Option (Option Nat)
  lst : ListSt
  deriving DecidableEq, Repr

/-- The Sluice beside its registers. -/
structure SlcSt where
  loops : Vector LoopSt 8
  /-- The Emica share correction delivered at tide cycle 0 (R385, R516). -/
  share : Int
  /-- MISSRUN as it stood before this tide's samples were judged (R65, R401). -/
  runs : Vector Nat 8
  /-- The windows of this tide's samples had no time to close (R65, R401). -/
  short : Bool
  /-- What the registers show from the next RCLK edge on (R397): the offset, first bit, width and value. -/
  shown : List (Nat × Nat × Nat × Nat)
  deriving DecidableEq, Repr

/-! ### Slipway and protection (R417 to R447) -/

/-- One Slipway port beside its registers. -/
structure SlipPort where
  /-- The value waiting for the bus, and a SAFE frame waiting (R422, R436). -/
  pend : Option Int
  safe : Bool
  /-- The frame in progress: its word, and whether an LDAC pulse follows as in AFTER (R421, R423). -/
  frame : Option (Nat × Bool)
  /-- The time base of the edge on which its CS_N rises (R421). -/
  ends : BitVec 56
  /-- A change of SLP_P_VALUE committed at this tide's boundary (R417). -/
  value : Bool
  held : Bool
  /-- Released, and the HRPWM pins stay parked until a period whose value was written since (R437). -/
  wait : Bool
  /-- The HRPWM pins are parked until a period starts with Capstan in lock (R438). -/
  cap : Bool
  /-- The OUT last written to the port, and whether it was written since the release. -/
  out : Int
  fresh : Bool
  /-- The period counter (R424), H of the period in progress and of the next one, and whether that one's value came
  after the release (R426, R437). -/
  cnt : Nat
  high : Nat
  next : Nat
  nextFresh : Bool
  /-- A period is in progress, and the time base of the edge on which a value was last taken (R426). -/
  run : Bool
  sampleAt : Option (BitVec 56)
  deriving DecidableEq, Repr

/-- The Slipway beside its registers. -/
structure SlipSt where
  ports : Vector SlipPort 8
  /-- A frame of a port with its LDAC bit ended since the last pulse (R423 CYCLE). -/
  ended : Bool
  /-- The pulse of LDAC_CYC waits for the frames in progress. -/
  late : Bool
  /-- A pulse as in AFTER follows the group in progress. -/
  group : Bool
  /-- The time base of the edge on which the last group of frames started, and the RCLK cycles from it to the free bus (R421,
  R422). -/
  bus : Option (BitVec 56 × Nat)
  /-- The edge of the LDAC pulse that follows a group, in time base (R423). -/
  pulse : Option (BitVec 56)
  /-- LDAC pulses given. -/
  pulses : Nat
  deriving DecidableEq, Repr

/-- The protection beside its registers. -/
structure PrtSt where
  /-- Violation counts (R429), and the counts before this tide's evaluation (R65). -/
  viol : Vector Nat 8
  saved : Option (Vector Nat 8)
  /-- Causes that latch at tide cycle 9 (R401, R429, R518). -/
  due : Vector Nat 8
  /-- Fast-trip comparators in their tripping state (R430). -/
  fast : BitVec 8
  /-- Fast trips that have not latched: the RCLK edges left, the comparator, and the loops of its LOOPS (R430). -/
  wait : List (Nat × Nat × Nat)
  /-- Loops for which a MOOR was taken on one edge, by a command and by the Yard, and the time-base instant of that edge
  (R136, R442). -/
  soft : Nat
  yard : Nat
  softAt : BitVec 56
  /-- A RIG trip latches at the next cycle 9 (R518). -/
  rig : Bool
  deriving DecidableEq, Repr

/-! ### Emica (R506 to R534) -/

/-- One slot of the rig as this unit observes it (R517). -/
structure RigSlot where
  /-- 0 WAITING, 1 PRESENT, 2 RIG_FAULT. -/
  st : Nat
  /-- Consecutive tides towards the next state: present ones in WAITING and RIG_FAULT, absent ones in PRESENT. -/
  run : Nat
  /-- The valid frame of this tide: SHARE in bits 13:0, FLAG in bit 14. -/
  got : Option Nat
  deriving DecidableEq, Repr

/-- The Emica link beside its registers. -/
structure EmcSt where
  slots : Vector RigSlot 8
  /-- A valid poll has come in this tide (R512). -/
  poll : Bool
  /-- The frame sent in the own slot in this tide: SHARE, FLAG, PAR and STOP as 17 bits (R513, R533). -/
  sent : Option Nat
  /-- ESYNC, EARM and calibration pulses requested for the next tide, and due in this tide (R510, R520, R523). -/
  want : BitVec 3
  due : BitVec 3
  /-- Pulses driven in this tide on ESYNC, EARM and EFIRE. -/
  drove : BitVec 3
  /-- A SHCLR waits for the boundary (R516). -/
  clear : Bool
  /-- The response deadline of this tide has passed (R514). -/
  judged : Bool
  deriving DecidableEq, Repr

/-! ### Bell (R448 to R470) -/

/-- One Bell target. -/
structure BellTgt where
  /-- An unclaimed delivery (R453). -/
  delivered : Bool
  /-- The source an MSI-X delivery names (R455). -/
  named : Option Nat
  /-- The source in service (R456). -/
  serving : Option Nat
  /-- TIMER_t (R454). -/
  timer : Nat
  deriving DecidableEq, Repr

/-- An MSI-X message that waits to be sent (R455, R461). -/
structure Msi where
  tgt : Nat
  vec : Nat
  deriving DecidableEq, Repr

/-- The Bell beside its registers. -/
structure BellSt where
  tgts : Vector BellTgt 4
  /-- The last target delivered to (R453). -/
  last : Nat
  /-- Levels as last sampled: bit s for source s (R448, R458). -/
  seen : Nat
  /-- The sources that this edge found PENDING, a bit each (R450). -/
  pend : Nat
  /-- Those that were PENDING on the edge before, which the claims of this edge may take (R466). -/
  olds : Nat
  /-- The target that the delivery of this edge goes to (R453). -/
  due : Option Nat
  /-- The targets freed on this edge, a bit each (R453). -/
  freed : Nat
  /-- The INT targets whose delivery has been claimed on this edge, a bit each (R456). -/
  ints : Nat
  /-- Messages waiting, in the order of the deliveries. -/
  msgs : List Msi
  /-- The vector of the last message sent, and how many were sent. -/
  sentVec : Option Nat
  sentN : Nat
  /-- MSI-X Enable and Bus Master Enable of the configuration space (R452). -/
  msixEnable : Bool
  busMaster : Bool
  deriving DecidableEq, Repr

/-! ### Tralor store (R535 to R553) -/

/-- How far an operation of the store has come. -/
inductive StoreOp where
  | idle
  /-- A save waits for its snapshot boundary. -/
  | saveWait (rec : Nat)
  /-- A save writes a copy (A is false): whether it is the second one, whether it is the second try. -/
  | saving (rec : Nat) (copyB second retry : Bool)
  /-- A recall reads; TRIM as given. -/
  | reading (rec : Nat) (trim : Bool)
  /-- A recall has read and waits for its application boundary. -/
  | applyWait (rec : Nat) (trim : Bool)
  /-- A verify of one record, or of all. -/
  | verifying (rec : Option Nat)
  deriving DecidableEq, Repr

/-- The Tralor store beside its registers. -/
structure StoreSt where
  /-- The 65 536 words of the array; an unlisted one is as shipped: the IDENT copies, and 0 elsewhere. -/
  words : SMap Word
  /-- The staging buffer: the header and payload of the operation. -/
  buf : List Word
  op : StoreOp
  /-- The time base of the edge the last operation ended on (R551). -/
  endAt : Option (BitVec 56)
  deriving DecidableEq, Repr

/-! ### Clock synthesis (R140 to R171) -/

/-- One Lighthouse beside its registers. -/
structure SynthSt where
  /-- Phase pull-in has completed and counter windows run (R148). -/
  pulled : Bool
  /-- Consecutive windows in range. -/
  wins : Nat
  /-- A RESUME was taken while LOCKED (R149). -/
  resume : Bool
  /-- The time-base instants at which lock was declared and at which the RESUME was taken: the outputs resume at a later tide
  edge (R149). -/
  lockAt : BitVec 56
  resumeAt : BitVec 56
  deriving DecidableEq, Repr

/-- The synthesisers and SYNCIN beside their registers. -/
structure ClkSt where
  lha : SynthSt
  lhs : SynthSt
  /-- The time-base count of the realignment edge E of a registered edge (R155). -/
  edge : Option (BitVec 56)
  /-- A new FCW committed at the boundary in progress (R167). -/
  fcwNow : Bool
  deriving DecidableEq, Repr

/-! ### Power and reset (R172 to R196) -/

/-- Domain transitions and reset beside their registers. -/
structure PwrSt where
  /-- The time-base count of the edge at which the transition of domain n was committed. -/
  since : Vector (BitVec 56) 13
  /-- Tide edges passed since domain n entered DRAINING. -/
  edges : Vector Nat 13
  /-- A unit reset is asserted (R182), and the causes of it (R186). -/
  held : Bool
  causes : Nat
  /-- PERST# is low in a HOST-only reset (R185). -/
  perst : Bool
  /-- The TAP instruction (R632, R640), and the boundary register's cells of MF0 to MF31: the levels, and which of them
  drive. -/
  tap : Nat
  cells : BitVec 32
  cellOut : BitVec 32
  deriving DecidableEq, Repr

/-- The whole state of the unit. -/
structure State where
  /-- Every BAR0 register that does not hold its reset value. -/
  regs : SMap Word
  /-- The low parts that committed with PLT_ENG_g_HOLD_HI and WHS_H_OFS_HI, keyed by those offsets (R602); an
  unlisted one is 0. -/
  lows : SMap Word
  /-- The snapshot latches, keyed by requester and offset (R601); an unlisted latch holds 0. -/
  latches : SMap Word
  edge : EdgeSt
  tide : TideSt
  tod : TodSt
  ust : UstSt
  cmd : CmdSt
  yard : YardSt
  /-- The memories: Dock channel 0, Dock channel 1 and the quay buffer (R26, R332). -/
  mem : Vector MemSt 3
  dock : Vector DockCh 2
  brt : BrtSt
  acq : AcqSt
  hists : Vector HistSt 8
  maps : Vector MapSt 2
  fry : FrySt
  lanes : Vector LaneSt 6
  knob : KnobSt
  plt : PltSt
  slc : SlcSt
  slip : SlipSt
  prt : PrtSt
  emc : EmcSt
  bell : BellSt
  store : StoreSt
  clk : ClkSt
  pwr : PwrSt
  /-- The data of the last PCIe read completion the unit returned. -/
  rdata : Word
  /-- The index of the next free value (the model's own). -/
  free : Nat
  /-- The commands that are waiting, first in first out. -/
  pending : List Instr
  deriving DecidableEq, Repr

/-- An edge on which nothing has happened. -/
def EdgeSt.reset : EdgeSt := { sets := [], adds := [], olds := [], stops := 0, ends := [] }

/-- A Damisk port after reset (R115). -/
def PortSt.reset : PortSt :=
  { chars := [], tooLong := false, lastCR := false, linkErr := false, queue := [], out := [], owed := false,
    turned := [], pendingAsync := [], atLineStart := true }

/-- A memory whose contents were lost at the loss numbered g (R332, R350). -/
def MemSt.reset (g : Nat) : MemSt := { words := [], lost := [⟨0, 2 ^ 32, g⟩] }

/-- A Dock channel after reset (R350). -/
def DockCh.reset : DockCh := { owners := [], pos := 0, queue := [], issued := [], alert := false, hold := false }

/-- A channel after reset (R226). -/
def ChanSt.reset : ChanSt :=
  { idx := 0, entered := false, through := false, accN := 0, accS := 0, accOvr := false, ahead := 0, win := none, winN := 0, tail := none,
    blkN := 0, blkOvr := false, blkS := .replicate 8 0, blkA := .replicate 8 0, blockDone := false, blockOk := false, lowsig := false }

/-- The converter array after reset (R226). -/
def BrtSt.reset : BrtSt :=
  { chans := .replicate 8 ChanSt.reset, overs := .replicate 8 [], sats := .replicate 8 [], skewOk := false, aclk := 0,
    skewPend := .replicate 8 none, ofsPend := .replicate 8 none, gainPend := .replicate 8 none, bgClear := false,
    prevOfs := .replicate 8 0, prevGain := .replicate 8 0 }

/-- A capture group after reset (R299). -/
def GrpSt.reset : GrpSt :=
  { a0 := 0, r := 0, ePrev := 0, first := false, taken := 0, rejDead := 0, rejBusy := 0, seg := none, await := [],
    disarm := false, close := 0, base := 0, held := .replicate 8 [], sring := 0, mring := 0, blockNo := 0, cur := none,
    gap := none, marksAt := [], stopAt := none, markNo := 0, waitMarks := [], owed := [], endAt := none, raw := .replicate 8 [], outs := .replicate 8 [],
    rawBase := .replicate 8 0 }

/-- The capture engine after reset (R299). -/
def AcqSt.reset : AcqSt := { grps := .replicate 8 GrpSt.reset, marks := [], offered := [] }

/-- A histogram after reset (R325). -/
def HistSt.reset : HistSt :=
  { start := none, stop := none, part := [], sweep := none, clearNext := false, flushReq := false, held := false }

/-- A map after reset (R325). -/
def MapSt.reset : MapSt :=
  { taking := false, last := none, hits := [], since := 0, due := false, marks := [], swept := 0, half := false, fetched := [],
    cleared := 0, pq := 0, held := false }

/-- A ring after reset (R505). -/
def RingSt.reset : RingSt :=
  { since := 0, fetched := [], fetching := false, loading := false, flights := [], overdrawn := false,
    stopAt := none }

/-- The Ferry after reset (R505). -/
def FrySt.reset : FrySt :=
  { rings := .replicate 8 RingSt.reset, mon := [], monDrops := 0, latch := none, reads := [], nextId := 0, bar2 := .none,
    lastRec := none, lastData := [], aborted := 0, abrec := none, aer := 0 }

/-- A Tally lane after reset (R383). -/
def LaneSt.reset : LaneSt :=
  { table := [], spare := [], swap := none, captured := none, start := 0, accepted := none, opened := none,
    lastRise := none, lastFall := none, edges := 0, waitFrom := none, gateCoarse := false, gateCollide := false, own := [],
    partner := [], claimer := none, seq := 0, fifo := [], period := 0, n := 0, sum := 0, sqr := 0, least := 0, most := 0 }

/-- The knob after reset (R383). -/
def KnobSt.reset : KnobSt :=
  { levels := none, changedA := none, changedB := none, last := none, fresh := true, acc := 0, steps := 0, stepsN := 0, later := 0, laterN := 0, moved := false }

/-- An engine, a detector and the Pilot after reset (R260). -/
def EngSt.reset : EngSt := { window := none, last := none, held := 0, queue := [], early := none }
def DetSt.reset : DetSt :=
  { prev := none, high := false, armed := true, hist := [], start := none, runt := false, fires := [] }
def PltSt.reset : PltSt :=
  { engs := .replicate 8 EngSt.reset, dets := .replicate 8 DetSt.reset, settling := 0,
    settleFrom := .replicate 8 none, trigin := 0, levels := [], efire := false, efireTo := 0, out := 0, outEnd := .replicate 2 0 }

/-- A loop and the Sluice after reset (R416). -/
def ListSt.reset : ListSt :=
  { st := 0, idx := 0, sp := 0, left := 0, passes := 0, now := false, due := false, step := false }
def LoopSt.reset : LoopSt :=
  { stages := .replicate 6 ⟨0, 0, 0, 0⟩, iraw := 0, high := false, bank := false, swap := false, swapNow := false,
    swapped := false, moored := false, after := false, mode := 0, man := 0, got := false, done := false, auto := false,
    since := 0, manNow := false, phi := none, lst := ListSt.reset }
def SlcSt.reset : SlcSt := { loops := .replicate 8 LoopSt.reset, share := 0, runs := .replicate 8 0, short := false, shown := [] }

/-- A port, the Slipway and the protection after reset (R447). -/
def SlipPort.reset : SlipPort :=
  { pend := none, safe := false, frame := none, ends := 0, value := false, held := false, wait := false, cap := true, out := 0,
    fresh := false, cnt := 0, high := 0, next := 0, nextFresh := false, run := false, sampleAt := none }
def SlipSt.reset : SlipSt :=
  { ports := .replicate 8 SlipPort.reset, ended := false, late := false, group := false, bus := none, pulse := none, pulses := 0 }
def PrtSt.reset : PrtSt :=
  { viol := .replicate 8 0, saved := none, due := .replicate 8 0, fast := 0, wait := [], soft := 0, yard := 0, softAt := 0,
    rig := false }

/-- A slot and the Emica link after reset (R534). -/
def RigSlot.reset : RigSlot := { st := 0, run := 0, got := none }
def EmcSt.reset : EmcSt :=
  { slots := .replicate 8 RigSlot.reset, poll := false, sent := none, want := 0, due := 0, drove := 0, clear := false, judged := false }

/-- A target and the Bell after reset (R470). -/
def BellTgt.reset : BellTgt := { delivered := false, named := none, serving := none, timer := 0 }
def BellSt.reset : BellSt :=
  { tgts := .replicate 4 BellTgt.reset, last := 3, seen := 0, pend := 0, olds := 0, due := none, freed := 0, ints := 0, msgs := [],
    sentVec := none, sentN := 0, msixEnable := false, busMaster := false }

/-- The store as shipped (R538, R553). -/
def StoreSt.reset : StoreSt := { words := [], buf := [], op := .idle, endAt := none }

/-- The clocks after reset (R171). -/
def SynthSt.reset : SynthSt := { pulled := false, wins := 0, resume := false, lockAt := 0, resumeAt := 0 }
def ClkSt.reset : ClkSt := { lha := SynthSt.reset, lhs := SynthSt.reset, edge := none, fcwNow := false }

/-- Power after reset (R196). -/
def PwrSt.reset : PwrSt :=
  { since := .replicate 13 0, edges := .replicate 13 0, held := false, causes := 0, perst := false, tap := 1, cells := 0,
    cellOut := 0 }

/-- The unit right after release of a unit reset with BOOTHOST 0 (R32, R69, R115, R139; log 1, log 11). -/
def State.reset : State :=
  { regs := [], lows := [], latches := [], edge := EdgeSt.reset,
    tide := { cycle := 0, len := 100, number := 0, tb := 0, cutoff := false, reach := none,
              windowClosed := false, rclk := true },
    tod := { sec := 0, ns := 0, setSec := 0, setNs := 0, setSkip := 0, slew := 0, phase := 0, ppsLast := none, ppsFrom := 0, ppsSlews := 0,
             setAt := none, adjAt := none, adjSum := 0 },
    ust := { writes := [], guards := [], serial := 0, touched := [] },
    cmd := { uart := PortSt.reset, spi := PortSt.reset, mbox := PortSt.reset, rtsHigh := false, sending := false,
             uartDiv := 0x3640E, newDiv := none, rates := [], spiMode3 := false, spiInFrame := false, spiStatus := none, miso := 0,
             abort := none },
    yard := { raised := [], first := Routed.none, second := Routed.none, log := [], park := 0, parkAt := 0, level := 0,
              sync := 0, pads := 0 },
    mem := #v[MemSt.reset 0, MemSt.reset 1, MemSt.reset 2], dock := .replicate 2 DockCh.reset, brt := BrtSt.reset, acq := AcqSt.reset,
    hists := .replicate 8 HistSt.reset, maps := .replicate 2 MapSt.reset, fry := FrySt.reset,
    lanes := .replicate 6 LaneSt.reset, knob := KnobSt.reset, plt := PltSt.reset,
    slc := SlcSt.reset, slip := SlipSt.reset, prt := PrtSt.reset, emc := EmcSt.reset, bell := BellSt.reset, store := StoreSt.reset,
    clk := ClkSt.reset, pwr := PwrSt.reset, rdata := 0, free := 5, pending := [] }

end Sys2Proof.Machine
end

