-- ==== Sys2Proof/Machine/Store.lean ====
section
/-! DEFINITION. Sparse maps in canonical form: keys strictly rising, and no entry that holds what an unlisted
key reads as (`d`). The register store, the snapshot latches and the memories are such maps. -/

namespace Sys2Proof.Machine

/-- The value at a key; an unlisted key reads `d` of it. -/
def smGet {α : Type} (d : Nat → α) : SMap α → Nat → α
  | [], k => d k
  | (a, v) :: t, k => if a = k then v else smGet d t k

/-- Put an entry in its place. -/
def smPut {α : Type} (k : Nat) (v : α) : SMap α → SMap α
  | [] => [(k, v)]
  | (a, x) :: t => if k < a then (k, v) :: (a, x) :: t else if k = a then (k, v) :: t else (a, x) :: smPut k v t

/-- Writing a value at a key; writing what an unlisted key reads as removes the entry. -/
def smSet {α : Type} [DecidableEq α] (d : Nat → α) (m : SMap α) (k : Nat) (v : α) : SMap α :=
  if v = d k then m.filter fun e => e.1 != k else smPut k v m

/-- Every key of the map lies above `lo`. -/
def smAbove {α : Type} (lo : Nat) : SMap α → Bool
  | [] => true
  | (a, _) :: _ => lo < a

/-- The canonical form. -/
def smWf {α : Type} [DecidableEq α] (d : Nat → α) : SMap α → Bool
  | [] => true
  | (a, v) :: t => decide (v ≠ d a) && smAbove a t && smWf d t

/-- The object numbered i modulo the count. -/
def vget {α : Type} {n : Nat} (v : Vector α (n + 1)) (i : Nat) : α := v[i % (n + 1)]'(Nat.mod_lt _ (Nat.succ_pos n))

/-- Replace the object numbered i modulo the count. -/
def vset {α : Type} {n : Nat} (v : Vector α (n + 1)) (i : Nat) (x : α) : Vector α (n + 1) :=
  v.set (i % (n + 1)) x (Nat.mod_lt _ (Nat.succ_pos n))

/-- Update the object numbered i modulo the count. -/
def vmod {α : Type} {n : Nat} (v : Vector α (n + 1)) (i : Nat) (f : α → α) : Vector α (n + 1) := vset v i (f (vget v i))

end Sys2Proof.Machine
end

