-- ==== Sys2Proof/Machine/Ops.lean ====
section
/-! DEFINITION. The named operations over the state that every block uses: register and field access, saturating
counters, time stamps, the count of ignored writes, domain states and their checks, asynchronous lines and
Yard events. -/

namespace Sys2Proof.Machine

/-! ### Registers -/

/-- The value a register holds. -/
def State.reg (s : State) (off : Nat) : Word := smGet resetValue s.regs off

/-- Give a register a value. -/
def State.setReg (s : State) (off : Nat) (w : Word) : State := { s with regs := smSet resetValue s.regs off w }

/-- A register as a number. -/
def State.regN (s : State) (off : Nat) : Nat := (s.reg off).toNat

/-- Give a register the value of a number, modulo 2^32. -/
def State.setRegN (s : State) (off v : Nat) : State := s.setReg off (BitVec.ofNat 32 v)

/-- A field of a register. -/
def State.fld (s : State) (off lo w : Nat) : Nat := bits (s.regN off) lo w

/-- Replace a field of a register. -/
def State.setFld (s : State) (off lo w v : Nat) : State := s.setRegN off (putBits (s.regN off) lo w v)

/-- A field that holds a two's complement value (R5). -/
def State.sfld (s : State) (off lo w : Nat) : Int := toSigned w (s.fld off lo w)

/-- One bit of a register. -/
def State.bit (s : State) (off i : Nat) : Bool := s.fld off i 1 == 1

/-- Set or clear one bit of a register. -/
def State.setBit (s : State) (off i : Nat) (b : Bool) : State := s.setFld off i 1 (b2n b)

/-- Sparse words an unlisted key of which is 0. -/
def wordAt0 (m : SMap Word) (off : Nat) : Nat := (smGet (fun _ => 0) m off).toNat
def setWord0 (m : SMap Word) (off v : Nat) : SMap Word := smSet (fun _ => 0) m off (BitVec.ofNat 32 v)

/-- Note that an event of this edge has set a bit (R13). -/
def EdgeSt.noteSet (e : EdgeSt) (off i : Nat) : EdgeSt := { e with sets := setWord0 e.sets off (putBits (wordAt0 e.sets off) i 1 1) }

/-- Note that events of this edge have counted in a field of a register, which holds `old` (R14). -/
def EdgeSt.noteAdd (e : EdgeSt) (off lo w n old : Nat) : EdgeSt :=
  let was := wordAt0 e.adds off
  if n = 0 then e
  else { e with
    olds := if was = 0 then setWord0 e.olds off old else e.olds
    adds := setWord0 e.adds off (putBits was lo w (satAdd (2 ^ w - 1) (bits was lo w) n)) }

/-- Note that this edge has recorded a word in a register that a read clears, which held `old` (R14, R607). -/
def EdgeSt.noteWord (e : EdgeSt) (off v old : Nat) : EdgeSt :=
  { e with olds := if wordAt0 e.adds off = 0 then setWord0 e.olds off old else e.olds, adds := setWord0 e.adds off v }

/-- An update of what this edge has done. -/
def State.modEdge (s : State) (f : EdgeSt → EdgeSt) : State := { s with edge := f s.edge }

/-- END [6:4] of a status register takes a cause (R647). -/
def State.setEnd (s : State) (off fin : Nat) : State :=
  (s.setFld off 4 3 fin).modEdge fun e => { e with ends := off :: e.ends }

/-- A cause replaces the one that END of a status register took on this edge, where it comes before it in `order`: CLOCK_FAULT,
POWER_DOWN and ABORTED, ahead of the activity's own endings (R647). -/
def State.reEnd (s : State) (order : List Nat) (off fin : Nat) : State :=
  if s.edge.ends.contains off && order.idxOf fin < order.idxOf (s.fld off 4 3) then s.setFld off 4 3 fin else s

/-- Set a latched flag. -/
def State.flag (s : State) (off i : Nat) : State := (s.setBit off i true).modEdge (·.noteSet off i)

/-- Advance a 32-bit saturating count. -/
def State.count (s : State) (off n : Nat) : State :=
  (s.setRegN off (satAdd 0xFFFFFFFF (s.regN off) n)).modEdge (·.noteAdd off 0 32 n (s.regN off))

/-- Advance a saturating count held in a field of `w` bits. -/
def State.countFld (s : State) (off lo w n : Nat) : State :=
  (s.setFld off lo w (satAdd (2 ^ w - 1) (s.fld off lo w) n)).modEdge (·.noteAdd off lo w n (s.regN off))

/-- Advance a 32-bit wrapping count. -/
def State.bump (s : State) (off n : Nat) : State := s.setRegN off (s.regN off + n)

/-- A 72-bit value in a quay window Q0, Q1, Q2 at `off`, `off + st`, `off + 2 st` (R10). -/
def State.reg72 (s : State) (off : Nat) : Quay :=
  BitVec.ofNat 72 (s.regN off + s.regN (off + 4) * 2 ^ 32 + s.fld (off + 8) 0 8 * 2 ^ 64)

/-- Give a quay window a 72-bit value (R10). -/
def State.setReg72 (s : State) (off : Nat) (q : Quay) : State :=
  ((s.setRegN off q.toNat).setRegN (off + 4) (q.toNat / 2 ^ 32)).setRegN (off + 8) (q.toNat / 2 ^ 64)

/-- A 64-bit value in a LO and HI pair. -/
def State.setReg64 (s : State) (lo hi v : Nat) : State := (s.setRegN lo v).setRegN hi (v / 2 ^ 32)

/-- Apply an update for each number of a list, in order. -/
def foldS (f : State → Nat → State) : List Nat → State → State
  | [], s => s
  | k :: t, s => foldS f t (f s k)

/-- Apply an update where a condition holds. -/
def State.cond (s : State) (b : Bool) (f : State → State) : State := if b then f s else s

/-- A fresh free value's index, and the state that has used it. -/
def State.fresh (s : State) : Nat × State := (s.free, { s with free := s.free + 1 })

/-- The low part that committed with a staging register (R602), and an update of it. -/
def State.low (s : State) (off : Nat) : Nat := (smGet (fun _ => 0) s.lows off).toNat
def State.setLow (s : State) (off : Nat) (w : Word) : State := { s with lows := smSet (fun _ => 0) s.lows off w }

/-! ### Time -/

/-- A time stamp with fraction zero (R48, R49). -/
def stampOf (tb : BitVec 56) : Quay := BitVec.ofNat 72 (tb.toNat * 65536)

/-- The time stamp of the current RCLK edge. -/
def State.now (s : State) : Quay := stampOf s.tide.tb

/-- The time-base instant of the tide edge that began this tide, at which a row that stands for a line commits (log 3). -/
def State.tideTb (s : State) : BitVec 56 := s.tide.tb - BitVec.ofNat 56 (5 * s.tide.cycle)

/-- A change staged now commits at the boundary after the coming one (R39, R61): its cycle lies past L - 10. -/
def State.lateNow (s : State) : Bool := s.tide.len < s.tide.cycle + 10

/-- TIDE_LEN in force. -/
def State.tideLen (s : State) : Nat := s.tide.len

/-! ### Ignored writes -/

/-- Count one ignored PCIe write (R47). -/
def State.ignore (s : State) : State := (s.count SYS_IGNORED 1).flag SYS_CONFLICT 2

/-- Drop a write to an unassigned or read-only offset (R580, R581, R583). -/
def State.badAddr (s : State) (off : Nat) : State :=
  (s.ignore.setRegN SYS_BADADDR (off % 2 ^ 18 + 2 ^ 31)).modEdge
    (·.noteWord SYS_BADADDR (off % 2 ^ 18 + 2 ^ 31) (s.regN SYS_BADADDR))

/-! ### Domains -/

/-- The number of a domain (R172). -/
def domNum : Dom → Nat
  | .aon => 0 | .ctrl => 1 | .lhs => 2 | .lha => 3 | .tally => 4 | .dock => 5 | .berth01 => 6 | .berth23 => 7
  | .berth45 => 8 | .berth67 => 9 | .acq => 10 | .host => 11 | .emica => 12

/-- The domain of a number (R172). -/
def domOfNum : Nat → Dom
  | 1 => .ctrl | 2 => .lhs | 3 => .lha | 4 => .tally | 5 => .dock | 6 => .berth01 | 7 => .berth23
  | 8 => .berth45 | 9 => .berth67 | 10 => .acq | 11 => .host | 12 => .emica | _ => .aon

/-- The Berth domain that holds Berth b (R563). -/
def berthDom (b : Nat) : Dom := domOfNum (6 + b / 2 % 4)

/-- The state of a domain (R173): 0 OFF, 1 STARTING, 2 ON, 3 DRAINING. -/
def State.dom (s : State) (d : Dom) : Nat := s.fld PWR_STATE (2 * domNum d) 2

/-- Whether a domain is ON. -/
def State.on (s : State) (d : Dom) : Bool := s.dom d == 2

/-- Put a domain into a state. -/
def State.setDom (s : State) (d : Dom) (v : Nat) : State := s.setFld PWR_STATE (2 * domNum d) 2 v

/-! ### Checked changes -/

/-- The effect of a unit: an error code of R103, or the state it leaves. -/
abbrev UnitR := Except Nat State

/-- Refuse with a code where a condition fails. -/
def need (ok : Bool) (code : Nat) : Except Nat Unit := if ok then .ok () else .error code

/-- The domain check of kind C (R555): ER 202 while the domain is DRAINING. -/
def needC (s : State) (d : Dom) : Except Nat Unit := need (s.dom d != 3) 202

/-- The domain check of kinds A and L (R555, R89): ER 201 while the domain is OFF or STARTING, ER 202 while it is
DRAINING. -/
def needA (s : State) (d : Dom) : Except Nat Unit :=
  if s.dom d == 0 || s.dom d == 1 then .error 201 else need (s.dom d != 3) 202

/-- The domain checks of several domains (R89): ER 201 where one is OFF or STARTING, then ER 202 where one is DRAINING. -/
def needDoms (s : State) (l : List Dom) : Except Nat Unit := do
  need (l.all fun d => s.dom d != 0 && s.dom d != 1) 201
  need (l.all fun d => s.dom d != 3) 202

/-- Lighthouse states (R160): 0 OFF, 1 ACQUIRING, 2 LOCKED, 3 RUNNING, 4 SYNCING. -/
def State.lha (s : State) : Nat := s.fld CLK_LHA_STAT 0 3
def State.lhs (s : State) : Nat := s.fld CLK_LHS_STAT 0 3

/-! ### Damisk ports -/

/-- A port. -/
def State.port (s : State) (p : Fin 3) : PortSt :=
  match p with
  | 0 => s.cmd.uart
  | 1 => s.cmd.spi
  | 2 => s.cmd.mbox

/-- Replace a port. -/
def State.setPort (s : State) (p : Fin 3) (x : PortSt) : State :=
  match p with
  | 0 => { s with cmd := { s.cmd with uart := x } }
  | 1 => { s with cmd := { s.cmd with spi := x } }
  | 2 => { s with cmd := { s.cmd with mbox := x } }

/-- Whether a port takes input: the mailbox exists only while HOST is ON (R76, R113). -/
def State.portUp (s : State) (p : Fin 3) : Bool := p != 2 || s.on .host

/-- A line takes the place of a pending one of its name that was raised on the same edge and ranks after it (R164, R191). -/
def AsyncLine.over (a b : AsyncLine) : AsyncLine := if b.name = a.name ∧ b.at_ = a.at_ ∧ a.rank < b.rank then a else b

/-- Add a pending asynchronous line to one port, or count it where one of its name is pending (R95). -/
def State.notifyPort (s : State) (p : Fin 3) (a : AsyncLine) : State :=
  if (s.port p).pendingAsync.any (·.name == a.name) then
    (s.setPort p { s.port p with pendingAsync := (s.port p).pendingAsync.map a.over }).count (CMD_LOST p) 1
  else s.setPort p { s.port p with pendingAsync := (s.port p).pendingAsync ++ [a] }

/-- Raise an asynchronous line on every port whose NOTIFY bit is set (R94); `rank` is its place among those of its name that
are raised on one edge. -/
def State.notify (s : State) (name : AsyncName) (nbit : Nat) (detail : List RVal) (rank : Nat := 0) : State :=
  let a : AsyncLine := ⟨name, s.tide.number, detail, s.tide.tb, rank⟩
  let f := fun (s : State) (p : Fin 3) =>
    if s.bit (CMD_PCFG p) (8 + nbit) && s.portUp p then s.notifyPort p a else s
  f (f (f s 0) 1) 2

/-! ### Pins -/

/-- The pin that carries an instance of a function (R128, R135). -/
def State.pinOf (s : State) (func index : Nat) : Option Nat :=
  (List.range 32).find? fun n => s.fld (PMX_PIN n) 0 4 == func && s.fld (PMX_PIN n) 4 5 == index

/-- A pin is in its park window (R131). -/
def State.parked (s : State) (n : Nat) : Bool := bits s.yard.park.toNat n 1 == 1

/-- No pin carries an input instance of a function, or its pin is in its park window: its input is ignored (R129, R131). -/
def State.inputMuted (s : State) (func index : Nat) : Bool :=
  match s.pinOf func index with
  | some n => s.parked n
  | none => true

/-- The level of a pin after INV, as registered (R117). -/
def State.pinLevel (s : State) (n : Nat) : Bool := bits s.yard.level.toNat n 1 == 1

/-! ### Yard events -/

/-- Raise a Yard event: it registers with the other events of this RCLK edge (R121). -/
def State.raise (s : State) (code : Nat) : State :=
  { s with yard := { s.yard with raised := s.yard.raised ++ [code] } }

/-- STATE_EPOCH advances by one (R44). -/
def State.bumpEpoch (s : State) : State := s.bump SYS_EPOCH 1

end Sys2Proof.Machine
end

