-- ==== Sys2Proof/Machine/Text.lean ====
section
/-! DEFINITION. The printed forms of Damisk responses and asynchronous lines (R92, R93, R97, R103, R558). -/

namespace Sys2Proof.Machine

/-- The bytes of an ASCII text. -/
def asc (t : String) : List Byte := t.toList.map fun c => BitVec.ofNat 8 c.toNat

/-- The decimal digits of a number below 10^fuel, without leading zeros, most significant first. -/
def decGo : Nat → Nat → List Byte → List Byte
  | 0, _, acc => acc
  | f + 1, n, acc =>
    let acc' := BitVec.ofNat 8 (48 + n % 10) :: acc
    if n < 10 then acc' else decGo f (n / 10) acc'

/-- A number in decimal. -/
def decText (n : Nat) : List Byte := decGo 40 n []

/-- A number in decimal with exactly k digits. -/
def decFixed : Nat → Nat → List Byte
  | 0, _ => []
  | k + 1, n => decFixed k (n / 10) ++ [BitVec.ofNat 8 (48 + n % 10)]

/-- A signed decimal, "-" first where negative. -/
def intText (i : Int) : List Byte := if i < 0 then asc "-" ++ decText i.natAbs else decText i.natAbs

/-- One hexadecimal digit. -/
def hexDigit (n : Nat) : Byte := BitVec.ofNat 8 (if n < 10 then 48 + n else 55 + n)

/-- The k lowest hexadecimal digits of a number, grouped in fours from the right with "_"; `i` digits already
stand to their right. -/
def hexGo : Nat → Nat → Nat → List Byte → List Byte
  | 0, _, _, acc => acc
  | k + 1, n, i, acc =>
    let acc' := if i % 4 == 0 && i != 0 then asc "_" ++ acc else acc
    hexGo k (n / 16) (i + 1) (hexDigit (n % 16) :: acc')

/-- "0x" and the full digit count (R92). -/
def hexText (digits v : Nat) : List Byte := asc "0x" ++ hexGo digits v 0 []

/-- One field (R558). -/
def RVal.text : RVal → List Byte
  | .dec i => intText i
  | .hex d v => hexText d v
  | .word w => asc w
  | .secs fs =>
    (if fs < 0 then asc "-" else []) ++ decText (fs.natAbs / 10 ^ 15) ++ asc "." ++ decFixed 15 (fs.natAbs % 10 ^ 15)
  | .tod sec ns => decText sec ++ asc "." ++ decFixed 9 ns

/-- Texts joined by a separator. -/
def joinWith (sep : List Byte) : List (List Byte) → List Byte
  | [] => []
  | [x] => x
  | x :: t => x ++ sep ++ joinWith sep t

/-- CR LF. -/
def crlf : List Byte := [0x0D, 0x0A]

/-- The fixed text of an error code (R103). -/
def errText : Nat → String
  | 101 => "UNKNOWN KEYWORD" | 102 => "QUEUE FULL" | 103 => "LINE TOO LONG" | 104 => "BAD NUMBER"
  | 105 => "OUT OF RANGE" | 201 => "DOMAIN OFF" | 202 => "DOMAIN STOPPING" | 203 => "STATE CONFLICT"
  | 204 => "LOCKED BY TRIP" | 301 => "CALENDAR FULL" | 302 => "WAREHOUSE CAPACITY" | 303 => "LANES BUSY"
  | 401 => "CLOCK UNLOCKED" | 402 => "MEMORY TRAINING FAILED" | 403 => "STORE CRC ERROR"
  | _ => ""

/-- "ER nnn text". -/
def erText (code : Nat) : List Byte := asc "ER " ++ decFixed 3 code ++ asc " " ++ asc (errText code)

/-- A response before its terminator (R92). -/
def respBody (tag : Option Nat) (r : Resp) : List Byte :=
  let pre := match tag with
    | some n => asc "#" ++ decText n ++ asc " "
    | none => []
  match r with
  | .ok [] => pre ++ asc "OK"
  | .ok qs => pre ++ asc "OK " ++ joinWith (asc ";") (qs.map fun q => joinWith (asc ",") (q.map RVal.text))
  | .er code tagged => (if tagged then pre else []) ++ erText code

/-- A whole response line (R92). It holds at most 512 characters: what the queries of a line give beyond them is cut off ahead
of the terminator (log 71). -/
def respText (tag : Option Nat) (r : Resp) : List Byte := (respBody tag r).take 510 ++ crlf

/-- The name of an asynchronous line (R94). -/
def AsyncName.text : AsyncName → String
  | .aborted => "ABORTED" | .trip => "TRIP" | .clock => "CLOCK" | .rig => "RIG" | .power => "POWER"
  | .store => "STORE" | .list => "LIST" | .acq => "ACQ"

/-- A whole asynchronous line (R93): "!NAME tide" and its details, separated by ",". -/
def AsyncLine.text (a : AsyncLine) : List Byte :=
  asc "!" ++ asc a.name.text ++ asc " " ++ joinWith (asc ",") (decText a.tide.toNat :: a.detail.map RVal.text) ++ crlf

end Sys2Proof.Machine
end

