-- ==== Sys2Proof/Machine/Ports.lean ====
section
/-! DEFINITION. The Damisk ports: output buffers, the line assembler and the line queue (R70 to R81, R91 to R98,
R112), without what a line does. -/

namespace Sys2Proof.Machine

/-- UART_RTS_N is high, at the pin that carries it or at the dedicated one, which is ignored where a pin does (R73, R129). -/
def State.uartRtsHigh (s : State) : Bool :=
  match s.pinOf 12 2 with
  | some n => s.pinLevel n
  | none => s.cmd.rtsHigh

/-- UART transmission is paused: RTS/CTS on and UART_RTS_N high (R73). -/
def State.uartPaused (s : State) : Bool := s.bit (CMD_PCFG 0) 1 && s.uartRtsHigh

/-- The pin that carries RXD is in its park window (R129, R131). -/
def State.rxdParked (s : State) : Bool :=
  match s.pinOf 12 0 with
  | some n => s.parked n
  | none => false

/-- Start the UART transmitter where it is idle, not paused and has a byte to send (R73). -/
def State.uartKick (s : State) : State :=
  if !s.cmd.sending && !s.uartPaused && !s.cmd.uart.out.isEmpty then { s with cmd := { s.cmd with sending := true } }
  else s

/-- Append bytes to a port's output buffer. -/
def State.outAppend (s : State) (p : Fin 3) (bs : List Byte) : State :=
  let x := s.port p
  (s.setPort p { x with out := x.out ++ bs, atLineStart := match bs.getLast? with
    | some b => b == 0x0A
    | none => x.atLineStart }).uartKick

/-- Room for n more bytes in the 1024-byte output buffer (R70, R98). -/
def State.outRoom (s : State) (p : Fin 3) (n : Nat) : Bool := (s.port p).out.length + n ≤ 1024

/-- Echo bytes where echo is on (R81); an echo that finds no room is lost (log 12). -/
def State.echo (s : State) (p : Fin 3) (bs : List Byte) : State :=
  if s.bit (CMD_PCFG p) 0 && s.outRoom p bs.length then s.outAppend p bs else s

/-- Lines that hold a queue slot (R96). -/
def PortSt.lines (x : PortSt) : Nat := (x.queue.filter (·.slot)).length

/-- Complete lines in the output buffer. -/
def PortSt.outLines (x : PortSt) : Nat := (x.out.filter (· == 0x0A)).length

/-- Record the last error of a port (R92, R114). -/
def State.setErr (s : State) (p : Fin 3) (code unit arg : Nat) : State :=
  s.setRegN (CMD_ERR p) (code % 1024 + unit % 32 * 2 ^ 10 + arg % 32 * 2 ^ 15)

/-- Put a line at the end of a port's queue. -/
def State.enqueue (s : State) (p : Fin 3) (l : Line) : State :=
  s.setPort p { s.port p with queue := (s.port p).queue ++ [l] }

/-- The assembler with no partial line. -/
def PortSt.cleared (x : PortSt) : PortSt := { x with chars := [], tooLong := false, linkErr := false }

/-- A character to store, with its echo (R78, R80). -/
def State.storeChar (s : State) (p : Fin 3) (c e : Byte) : State :=
  let x := s.port p
  if x.tooLong then s
  else if x.chars.length = 255 then s.setPort p { x with tooLong := true }
  else (s.setPort p { x with chars := x.chars ++ [c] }).echo p [e]

/-- A removal (R78). -/
def State.eraseChar (s : State) (p : Fin 3) : State :=
  let x := s.port p
  if x.chars.isEmpty then s
  else (s.setPort p { x with chars := x.chars.dropLast }).echo p [0x08, 0x20, 0x08]

/-- Whether a character is a decimal digit. -/
def isDigit (b : Byte) : Bool := 48 ≤ b.toNat && b.toNat ≤ 57

/-- The number a list of decimal digits spells. -/
def digitsVal (bs : List Byte) : Nat := bs.foldl (fun n b => n * 10 + (b.toNat - 48)) 0

/-- What stands at the start of a line (R82, R107). -/
inductive TagRead where
  /-- No tag; the rest of the line. -/
  | none (rest : List Byte)
  /-- A tag and what follows it. -/
  | tag (n : Nat) (rest : List Byte)
  /-- A malformed tag. -/
  | bad
  deriving DecidableEq, Repr

/-- Read an optional tag: optional spaces, "#", 1..5 digits of value at most 65 535, then a space or the end. -/
def readTag (cs : List Byte) : TagRead :=
  match cs.dropWhile (· == 0x20) with
  | [] => .none []
  | b :: t =>
    if b != 0x23 then .none (b :: t)
    else
      let ds := t.takeWhile isDigit
      let rest := t.dropWhile isDigit
      if ds.isEmpty || 5 < ds.length || 65535 < digitsVal ds then .bad
      else match rest with
        | [] => .tag (digitsVal ds) []
        | c :: r => if c == 0x20 then .tag (digitsVal ds) (r.dropWhile (· == 0x20)) else .bad

/-- The tag a line carries, where it has a well-formed one. -/
def tagOf (cs : List Byte) : Option Nat :=
  match readTag cs with
  | .tag n _ => some n
  | _ => none

/-- A terminator ends the partial line (R79, R80, R97, R108, R112). A line too long is refused with ER 103 and takes no slot though
a link error hit it too, and one that a link error hit takes a slot and is refused with ER 101 though it holds no character
(log 72). -/
def State.lineEnd (s : State) (p : Fin 3) : State :=
  let x := s.port p
  let t := s.setPort p x.cleared
  if x.tooLong then
    ((t.echo p crlf).enqueue p ⟨tagOf x.chars, .answered (.er 103 true), false⟩).setErr p 103 1 0
  else if !x.linkErr && x.chars.all (· == 0x20) then t.echo p crlf
  else if x.lines ≥ 16 then t.setPort p { t.port p with turned := x.turned ++ [⟨none, .text x.chars x.linkErr, true⟩] }
  else (t.echo p crlf).enqueue p ⟨none, .text x.chars x.linkErr, true⟩

/-- One received byte other than 0x18 (R78, R79). -/
def State.asmByte (s : State) (p : Fin 3) (b : Byte) : State :=
  let x := s.port p
  let t := s.setPort p { x with lastCR := b == 0x0D }
  if b == 0x08 || b == 0x7F then t.eraseChar p
  else if b == 0x09 then t.storeChar p 0x20 0x20
  else if b == 0x0A then (if x.lastCR then t else t.lineEnd p)
  else if b == 0x0D then t.lineEnd p
  else if b.toNat < 0x20 then t
  else if b.toNat < 0x7F then t.storeChar p b b
  else t.storeChar p b 0x3F

/-- A framing error, break or partial byte on a port's link (R112). -/
def State.linkError (s : State) (p : Fin 3) (marksLine : Bool) : State :=
  (if marksLine then s.setPort p { s.port p with linkErr := true } else s).count (CMD_LINKERR p) 1

/-- A response of n bytes of port p is placed behind the bytes its output buffer holds: the bit rates that wait for it
(R72). -/
def NewRate.placed (p : Fin 3) (n : Nat) (r : NewRate) : NewRate :=
  if r.port ≠ p || r.place = 0 then r else { r with place := r.place - 1, left := if r.place = 1 then n else r.left }

/-- Change the bit rates that wait. -/
def State.modRates (s : State) (f : NewRate → NewRate) : State := { s with cmd := { s.cmd with rates := s.cmd.rates.map f } }

/-- A slot of the queue has freed: a line that found it full on this edge is taken after all (R108). -/
def State.takeTurned (s : State) (p : Fin 3) : State :=
  let x := s.port p
  match x.turned with
  | l :: t => ((s.setPort p { x with turned := t }).echo p crlf).enqueue p l
  | [] => s

/-- Place the head of a port's queue, where it is answered and its response and any owed ER 102 find room; its slot
frees, and the owed ER 102 follows (R91, R97, R98, R108). -/
def State.placeHead (s : State) (p : Fin 3) : State :=
  let x := s.port p
  match x.queue with
  | ⟨tag, .answered r, slot⟩ :: rest =>
    let bs := respText tag r
    let ow := if x.owed && slot then erText 102 ++ crlf else []
    if s.outRoom p (bs.length + ow.length) then
      let s := (s.setPort p { x with queue := rest, owed := x.owed && !slot }).modRates (·.placed p (x.out.length + bs.length))
      s.outAppend p (bs ++ ow)
    else s
  | _ => s

/-- The edge ends: the lines of a port that found no slot on it are discarded, and an ER 102 is owed for them (R97). -/
def State.dropTurned (s : State) (p : Fin 3) : State :=
  let x := s.port p
  if x.turned.isEmpty then s
  else (s.setPort p { x with turned := [], owed := true }).count (CMD_DROP p) x.turned.length

/-- No port has a line that waits for a slot of this edge. -/
def State.noTurned (s : State) : Bool := [0, 1, 2].all fun p => (s.port p).turned.isEmpty

/-- Emit the oldest pending asynchronous line of a port (R93), where the buffer has room for it. -/
def State.emitAsync (s : State) (p : Fin 3) : State :=
  let x := s.port p
  match x.pendingAsync with
  | a :: rest =>
    let again := if s.bit (CMD_PCFG p) 0 then x.chars.map fun c => if c.toNat < 0x7F then c else 0x3F else []
    let bs := (if x.atLineStart then [] else crlf) ++ a.text ++ again
    if s.outRoom p bs.length then (s.setPort p { x with pendingAsync := rest }).outAppend p bs else s
  | [] => s

/-- The status byte of the SPI slave (R75). -/
def State.spiStatusByte (s : State) : Byte :=
  let x := s.cmd.spi
  BitVec.ofNat 8 (b2n (15 ≤ x.lines) * 128 + b2n (1 ≤ x.outLines) * 64 + min 63 x.out.length)

/-- Remove up to n bytes from the front of a port's output buffer. -/
def State.outPop (s : State) (p : Fin 3) (n : Nat) : State :=
  let k := min n (s.port p).out.length
  (s.setPort p { s.port p with out := (s.port p).out.drop n }).modRates fun r =>
    if r.port = p && r.place = 0 then { r with left := r.left - k } else r

/-- The line that is committed has set a bit rate: it waits for that line's response, the n-th its port places (R72, R111). -/
def State.rateAt (s : State) (p : Fin 3) (n : Nat) : State :=
  match s.cmd.newDiv with
  | some d => { s with cmd := { s.cmd with newDiv := none, rates := s.cmd.rates ++ [⟨d, p, n, 0⟩] } }
  | none => s

/-- The bit rates that `f` picks are in use, the latest of them last (R72). -/
def State.ratesOn (s : State) (f : NewRate → Bool) : State :=
  { s with cmd := { s.cmd with
    uartDiv := (((s.cmd.rates.filter f).getLast?).map (·.div)).getD s.cmd.uartDiv
    rates := s.cmd.rates.filter fun r => !f r } }

/-- The bit rates whose responses have been sent in full are in use (R72, R111). -/
def State.uartRate (s : State) : State := s.ratesOn fun r => r.place = 0 && r.left = 0

/-- A read of CMD_MB_OUT (R76): the word of up to four output bytes, which leave the buffer. -/
def State.mbOut (s : State) : Word × State :=
  let bs := s.cmd.mbox.out
  let g := fun i => (bs.getD i 0).toNat
  (BitVec.ofNat 32 (g 0 + g 1 * 2 ^ 8 + g 2 * 2 ^ 16 + g 3 * 2 ^ 24), s.outPop 2 4)

end Sys2Proof.Machine
end

