-- ==== Sys2Proof/Machine/Memory.lean ====
section
/-! DEFINITION. The quay memories: the two Dock channels and the quay buffer (R26, R326, R332), quay-word layouts
(R24) and the CRC of R12. A word a loss has taken reads as a free value (log 7). -/

namespace Sys2Proof.Machine

/-- What a word no entry lists holds: the latest loss that took it, or zero. -/
def lostAt : List LostRegion → Nat → MWord
  | [], _ => .known 0
  | x :: t, a => if x.lo ≤ a ∧ a < x.hi then .lost x.g else lostAt t a

/-- The word at an address. -/
def MemSt.word (m : MemSt) (a : Nat) : MWord := smGet (lostAt m.lost) m.words a

/-- Read a word (a lost one reads as a free value). -/
def MemSt.read (m : MemSt) (a : Nat) : Quay :=
  match m.word a with
  | .known q => q
  | .lost g => Config.lostWord g a

/-- Write a word. -/
def MemSt.write (m : MemSt) (a : Nat) (q : Quay) : MemSt :=
  { m with words := smSet (lostAt m.lost) m.words a (.known q) }

/-- Words lo to hi - 1 lose their contents, at the loss numbered g. -/
def MemSt.lose (m : MemSt) (lo hi g : Nat) : MemSt :=
  { words := m.words.filter fun x => x.1 < lo || hi ≤ x.1, lost := ⟨lo, hi, g⟩ :: m.lost }

/-- All contents are lost at the loss numbered g. -/
def MemSt.loseAll (g : Nat) : MemSt := { words := [], lost := [⟨0, 2 ^ 32, g⟩] }

/-- The canonical form of a memory: addresses rising, and no entry that holds what an unlisted word reads as. -/
def MemSt.wf (m : MemSt) : Bool := smWf (lostAt m.lost) m.words

/-- Read a word of a memory: 0 DOCK0, 1 DOCK1, 2 QBUF. -/
def State.memRead (s : State) (m a : Nat) : Quay := (vget s.mem m).read a

/-- Write a word of a memory. -/
def State.memWrite (s : State) (m a : Nat) (q : Quay) : State := { s with mem := vmod s.mem m (·.write a q) }

/-- Write consecutive words. -/
def State.memWrites (s : State) (m : Nat) : Nat → List Quay → State
  | _, [] => s
  | a, q :: t => (s.memWrite m a q).memWrites m (a + 1) t

/-- Some words of a memory lose their contents. -/
def State.memLose (s : State) (m lo hi : Nat) : State :=
  { s with mem := vmod s.mem m (·.lose lo hi s.free), free := s.free + 1 }

/-- A memory loses its contents. -/
def State.memLoseAll (s : State) (m : Nat) : State :=
  { s with mem := vset s.mem m (MemSt.loseAll s.free), free := s.free + 1 }

/-- The memory code of a memory word of R565. -/
def memCode : Mem → Nat
  | .dock0 => 0 | .dock1 => 1 | .qbuf => 2

/-- The populated words of a memory (R326, R332): the Dock channel as configured, the quay buffer 524 288. -/
def State.memSize (s : State) (m : Nat) : Nat :=
  if m = 2 then 524288
  else
    let c := DCK_CH_CFG m
    2 ^ (29 - s.fld c 1 1 + s.fld c 2 1 + s.fld c 3 1)

/-- The domain that holds a memory (R179). -/
def memDom (m : Nat) : Dom := if m = 2 then .acq else .dock

/-- The state of a Dock channel's training (R341). -/
def State.dckState (s : State) (n : Nat) : Nat := s.fld (DCK_CH_TSTAT n) 0 3

/-- A memory serves accesses: its domain is ON and, on a Dock channel, it is TRAINED (R179, R347). -/
def State.memUp (s : State) (m : Nat) : Bool := s.on (memDom m) && (m == 2 || s.dckState m == 3)

/-! ### Slots (R24) -/

/-- A slot as its 18 bits. -/
def Slot.bits (x : Slot) : Nat := ofSigned 16 x.v + b2n x.mark * 2 ^ 16 + b2n x.ovr * 2 ^ 17

/-- The quay word of up to four slots, slot 0 first. -/
def slotsWord : List Slot → Quay
  | xs => BitVec.ofNat 72 (xs.foldr (fun x n => n * 2 ^ 18 + x.bits) 0)

/-- The slot of 18 bits. -/
def slotOf (n : Nat) : Slot := ⟨toSigned 16 n, Machine.bits n 17 1 == 1, Machine.bits n 16 1 == 1⟩

/-- The four slots of a quay word. -/
def wordSlots (q : Quay) : List Slot := (List.range 4).map fun i => slotOf (Machine.bits q.toNat (18 * i) 18)

/-! ### CRC-32C (R12) -/

/-- One byte into the reflected CRC register. -/
def crcByte (c : Nat) (b : Nat) : Nat :=
  (List.range 8).foldl (fun c _ => if c % 2 = 1 then (c / 2) ^^^ 0x82F63B78 else c / 2) (c ^^^ b)

/-- CRC-32C of a list of bytes. -/
def crc32c (bs : List Nat) : Nat := bs.foldl crcByte 0xFFFFFFFF ^^^ 0xFFFFFFFF

/-- The nine bytes of a quay word, bits [7:0] first (R278). -/
def quayBytes (q : Quay) : List Nat := (List.range 9).map fun i => Machine.bits q.toNat (8 * i) 8

/-- CRC-32C of quay words in address order (R278). -/
def crcWords (qs : List Quay) : Nat := crc32c (qs.flatMap quayBytes)

end Sys2Proof.Machine
end

