-- ==== Sys2Proof/Machine/Berth.lean ====
section
/-! DEFINITION. The converter array (R197 to R226): routing, channels, correction, over-range, tide samples,
monitors and background calibration. -/

namespace Sys2Proof.Machine

/-- Update the converter array. -/
def State.modBrt (s : State) (f : BrtSt → BrtSt) : State := { s with brt := f s.brt }

/-- Update channel n. -/
def State.modChan (s : State) (n : Nat) (f : ChanSt → ChanSt) : State :=
  s.modBrt fun x => { x with chans := vmod x.chans n f }

/-- A channel with no matching block in progress (R207). -/
def ChanSt.noBlock (x : ChanSt) : ChanSt :=
  { x with blkN := 0, blkOvr := false, blkS := .replicate 8 0, blkA := .replicate 8 0 }

/-! ### Routing and channels -/

/-- The input Berth b is routed to by a value of BRT_ROUTE (R220). -/
def routeIn (v b : Nat) : Option Nat := if bits v (4 * b + 3) 1 = 1 then some (bits v (4 * b) 3) else none

/-- The Berths a routing gives channel n, lowest first (R197). -/
def routeBerths (v n : Nat) : List Nat := (List.range 8).filter fun b => routeIn v b == some n

/-- A set of Berths is empty or an aligned group (R197). -/
def alignedGroup (l : List Nat) : Bool :=
  match l with
  | [] => true
  | g :: _ => (l.length == 1 || l.length == 2 || l.length == 4 || l.length == 8) && g % l.length == 0 &&
      l == (List.range l.length).map (g + ·)

/-- A routing is valid (R197). -/
def routeOk (v : Nat) : Bool := (List.range 8).all fun n => alignedGroup (routeBerths v n)

/-- The routing in force. -/
def State.route (s : State) : Nat := s.regN BRT_ROUTE

/-- The Berths of channel n. -/
def State.berths (s : State) (n : Nat) : List Nat := routeBerths s.route n

/-- The interleave factor of channel n (R197). -/
def State.kOf (s : State) (n : Nat) : Nat := (s.berths n).length

/-- The FCW in force (R143). -/
def State.fcw (s : State) : Nat := s.regN CLK_LHA_FCW_HI % 65536 * 2 ^ 32 + s.regN CLK_LHA_FCW_NOW_LO

/-- Channel n runs (R200). -/
def State.running (s : State) (n : Nat) : Bool := s.bit BRT_CHAN_STAT (8 + n)

/-- Berth b converts: it serves a running channel (R200, R212). -/
def State.converts (s : State) (b : Nat) : Bool :=
  match routeIn s.route b with
  | some n => s.running n
  | none => false

/-- The stamp of sample 0 of channel n (R203). -/
def State.t0 (s : State) (n : Nat) : Nat := (s.reg72 (BRT_T0_Q0 n)).toNat

/-- The stamp of sample i at factor k from sample 0's stamp (R203), modulo 2^72. -/
def sampleStamp (t0 fcw k i : Nat) : Nat :=
  let d := k * fcw
  (t0 + (2 * (i * (5 * 2 ^ 60)) + d) / (2 * d)) % 2 ^ 72

/-- The stamp of sample i of channel n. -/
def State.stampAt (s : State) (n i : Nat) : Nat := sampleStamp (s.t0 n) s.fcw (s.kOf n) i

/-- The Berths of a channel all have their domains ON (R200). -/
def State.chanPowered (s : State) (n : Nat) : Bool := (s.berths n).all fun b => s.on (berthDom b)

/-- The calibration lane of the Tally holds a valid table (R356); it is lane 5. -/
def State.calLaneValid (s : State) : Bool := s.bit TLY_STAT 5

/-- ACLK resumes (R200): its first edge comes within one period of this instant, at a place the model leaves free (log 20). -/
def State.aclkFree (s : State) : State :=
  let at_ := (s.now.toNat + (Config.freeWord s.free).toNat * (5 * 2 ^ 60) / (s.fcw * 2 ^ 32)) % 2 ^ 72
  ({ s with free := s.free + 1 }).modBrt fun x => { x with aclk := at_ }

/-- ACLK resumes on the grid of a realignment at time-base instant e (R156): its edges fall t_A after it and whole periods later. -/
def State.aclkSync (s : State) (e : BitVec 56) : State :=
  s.modBrt fun x => { x with aclk := (e.toNat * 65536 + 39322 + Config.syncDelay.toNat * 6553 / 2 ^ 32) % 2 ^ 72 }

/-- The number, on the grid of ACLK, of the first edge at or after this instant. -/
def State.aclkEdge (s : State) : Nat :=
  let d := (s.now.toNat + 2 ^ 72 - s.brt.aclk) % 2 ^ 72
  if d < 2 ^ 71 then (d * s.fcw + (5 * 2 ^ 60 - 1)) / (5 * 2 ^ 60) else 0

/-- A channel starts on the first ACLK edge (R200): sample 0 is taken in the ACLK cycle 64 later, the same one for every channel
that starts on that edge (R262); its stamp is measured, or with fraction zero where the calibration lane cannot (R203). -/
def State.chanStart (s : State) (n : Nat) : State :=
  let t := sampleStamp s.brt.aclk s.fcw 1 (s.aclkEdge + 64)
  let fine := s.on .tally && s.lhs == 3 && s.calLaneValid
  let t := if fine then t else t / 65536 * 65536
  let s := s.modChan n fun x =>
    { ChanSt.reset with win := x.win, accN := x.accN, accS := x.accS, accOvr := x.accOvr }
  ((s.setReg72 (BRT_T0_Q0 n) (BitVec.ofNat 72 t)).setBit BRT_CHAN_STAT (8 + n) true).setBit BRT_CHAN_STAT (16 + n) !fine

/-- The number of samples of a channel taken at or before a stamp. -/
def State.samplesBy (s : State) (ch : Nat) (t : Nat) : Nat :=
  let d := (t + 2 ^ 72 - s.t0 ch) % 2 ^ 72
  if d < 2 ^ 71 then d * s.kOf ch * s.fcw / (5 * 2 ^ 60) + 1 else 0

/-- A channel stops (R200, R204): its incomplete word is discarded, and the words in the pipeline too but where its Berths drain
(R181). -/
def State.chanStop (s : State) (n : Nat) : State :=
  let drains := s.lha == 3 && (s.berths n).all (fun b => 2 ≤ s.dom (berthDom b)) && (s.berths n).any fun b => s.dom (berthDom b) == 3
  let tail := if drains then some (s.samplesBy n s.now.toNat) else none
  let s := s.modChan n fun x => { x.noBlock with through := false, entered := false, tail := tail }
  s.setBit BRT_CHAN_STAT (8 + n) false

/-- Channel n hands over its next word: it runs, or the word was whole in the pipeline as its Berths began to drain (R181). -/
def State.delivers (s : State) (n : Nat) : Bool :=
  s.running n || (s.lha == 3 && (s.berths n).all (fun b => 2 ≤ s.dom (berthDom b)) &&
    (vget s.brt.chans n).tail.any fun k => (vget s.brt.chans n).idx + 4 ≤ k)

/-- Start or stop channel n as its conditions stand (R200). -/
def State.chanSettle (s : State) (n : Nat) : State :=
  let want := !(s.berths n).isEmpty && s.chanPowered n && s.lha == 3
  if want == s.running n then s else if want then s.chanStart n else s.chanStop n

/-- MATCH_OK and LOWSIG as the channels stand (R207, R208). DESIGN CHOICE (log 75): LOWSIG speaks of the running channels, and falls
as its channel stops on a loss of ACLK, though calibration keeps its state (R168). -/
def State.matchSettle (s : State) : State :=
  let ns := (List.range 8).filter fun n => s.running n && 2 ≤ s.kOf n
  let ok := ns.all fun n => (vget s.brt.chans n).blockDone && (vget s.brt.chans n).blockOk
  let low := ns.any fun n => (vget s.brt.chans n).lowsig
  (s.setBit BRT_CAL_STAT 3 ok).setBit BRT_CAL_STAT 4 low

/-- The conditions of R206 other than SKEW_RUN. -/
def State.skewCond (s : State) : Bool := s.on .tally && s.lhs == 3 && s.calLaneValid && s.lha == 3

/-- Skew calibration runs, is suspended or is off, as its conditions stand (R206): SKEW_ACTIVE, SKEW_SUSP, and SKEW_OK as the last
completed round left it, 0 while suspended. -/
def State.skewSettle (s : State) : State :=
  let ok := s.skewCond
  s.setFld BRT_CAL_STAT 0 3 (b2n (ok && s.bit BRT_CAL_CTRL 0) + b2n (!ok) * 2 + b2n (ok && s.brt.skewOk) * 4)

/-- Channels and calibration follow a change of routing, power or clocks (R200, R206, R208). -/
def State.chansSettle (s : State) : State := (foldS State.chanSettle (List.range 8) s).matchSettle.skewSettle

/-! ### Correction and over-range -/

/-- The correction of R202 with the registers BRT_OFS_b and BRT_GAIN_b: the corrected code, and whether it
saturated. -/
def correct (ofs gain : Word) (x : Int) : Int × Bool :=
  let o := toSigned 16 ofs.toNat + toSigned 16 (ofs.toNat / 65536)
  let g := toSigned 16 gain.toNat + toSigned 16 (gain.toNat / 65536)
  let y := roundDiv ((16 * x - o) * (2 ^ 20 + g)) (2 ^ 24)
  (clampInt (-32768) 32767 y, y < -32768 || 32767 < y)

/-- The over-range sample recorded for Berth b in an ACLK cycle, if any. -/
def State.overAt (s : State) (b cyc : Nat) : Option Bool := ((vget s.brt.overs b).find? (·.1 == cyc)).map (·.2)

/-- OVR of R212 and R213 on Berth b's sample of an ACLK cycle. -/
def State.ovrAt (s : State) (b cyc : Nat) : Bool :=
  ((vget s.brt.overs b).any fun x => x.1 ≤ cyc && cyc ≤ x.1 + 10) ||
  ((vget s.brt.overs (b ^^^ 1)).any fun x => x.1 ≤ cyc && cyc ≤ x.1 + 24)

/-- Count an over-range event of Berth b (R215). -/
def State.ovrEvent (s : State) (b : Nat) : State := (s.count (BRT_OVR_CNT b) 1).flag BRT_OVR_STAT b

/-- Berth b's sample of an ACLK cycle is known to be over-range, by R212 or R214. -/
def State.isOver (s : State) (b cyc : Nat) : Bool := (s.overAt b cyc).isSome || (vget s.brt.sats b).contains cyc

/-- A sample found over-range begins a run: it was not known to be, and neither were its neighbours (R215). -/
def State.newOver (s : State) (b cyc : Nat) : Bool :=
  !s.isOver b cyc && !s.isOver b (cyc + 1) && (cyc = 0 || !s.isOver b (cyc - 1))

/-- An over-range sample on Berth b (R212): recorded, and counted where it begins a run (R215). -/
def State.overRange (s : State) (b cyc : Nat) (pos : Bool) : State :=
  (s.modBrt fun x =>
    { x with overs := vmod x.overs b fun l => (cyc, pos) :: l.filter fun y => cyc ≤ y.1 + 256 }).cond (s.newOver b cyc) (·.ovrEvent b)

/-- Correct and tag one sample of Berth b taken in an ACLK cycle (R202, R212 to R214), counting a saturation. -/
def State.tagSample (s : State) (b cyc : Nat) (x : Sample) : Slot × State :=
  match s.overAt b cyc with
  | some pos => (⟨if pos then 32767 else -32768, true, false⟩, s)
  | none =>
    let (o, g) := if x.early then (vget s.brt.prevOfs b, vget s.brt.prevGain b) else (s.reg (BRT_OFS b), s.reg (BRT_GAIN b))
    let (y, sat) := correct o g x.code
    if sat then
      let t := s.modBrt fun x =>
        { x with sats := vmod x.sats b fun l => cyc :: l.filter fun c => c ≠ cyc && cyc ≤ c + 256 }
      (⟨y, true, false⟩, t.cond (s.newOver b cyc) (·.ovrEvent b))
    else (⟨y, s.ovrAt b cyc, false⟩, s)

/-- Tag consecutive samples of channel n, the first of index i taken in an ACLK cycle. -/
def State.tagSamples (s : State) (n i cyc : Nat) : Nat → List Sample → List Slot × State
  | _, [] => ([], s)
  | t, x :: xs =>
    let k := max 1 (s.kOf n)
    let g := (s.berths n).headD 0
    let (y, s1) := s.tagSample (g + (i + t) % k) (cyc + (i + t) / k - i / k) x
    let (ys, s2) := s1.tagSamples n i cyc (t + 1) xs
    (y :: ys, s2)

/-! ### Tide samples -/

/-- Samples enter the accumulator of a channel (R216). -/
def ChanSt.accumulate (x : ChanSt) (ys : List Slot) : ChanSt :=
  { x with
    accN := x.accN + ys.length
    accS := ys.foldl (fun a y => a + y.v) x.accS
    accOvr := x.accOvr || ys.any (·.ovr)
    entered := x.entered || !ys.isEmpty }

/-- Channel n's averaging window closes (R216), after the samples that have entered and are not yet handed over. -/
def State.windowClose (s : State) (late : List Late) (n : Nat) : State :=
  let (ys, s) := match late.find? (·.ch == n) with
    | some l => if s.running n then s.tagSamples n ((vget s.brt.chans n).idx + (vget s.brt.chans n).ahead) l.cyc 0 l.xs else ([], s)
    | none => ([], s)
  let x := (vget s.brt.chans n).accumulate ys
  let ok := x.through && s.running n && 0 < x.accN
  let win := if ok then some (roundDiv (16 * x.accS) x.accN, x.accOvr, x.accN) else none
  s.modChan n fun _ =>
    { x with win := win, winN := x.accN, accN := 0, accS := 0, accOvr := false, ahead := x.ahead + ys.length,
             through := s.running n && x.entered }

/-- Latch channel n's tide sample into its monitor at tide cycle 0 (R217). -/
def State.latchMon (s : State) (n : Nat) : State :=
  match (vget s.brt.chans n).win with
  | some (mean, ovr, cnt) =>
    let s1 := s.cond (s.bit (BRT_MON n) 31 && s.bit BRT_MON_CFG n) (·.flag BRT_MON_STAT n)
    (s1.setRegN (BRT_MON n) (ofSigned 20 mean + b2n ovr * 2 ^ 20 + 2 ^ 31)).setRegN (BRT_MONCNT n) (min 65535 cnt)
  | none => s.setBit (BRT_MON n) 21 true

/-- The monitor word of channel n (R219). -/
def State.monWord (s : State) (n : Nat) : Quay :=
  let cnt := min 65535 (vget s.brt.chans n).winN
  BitVec.ofNat 72 (s.fld (BRT_MON n) 0 22 + n * 2 ^ 24 + cnt * 2 ^ 28 + s.tide.number.toNat % 2 ^ 28 * 2 ^ 44)

/-- A snapshot of channel n (R218). -/
def State.snapshot (s : State) (n : Nat) : State := s.setRegN (BRT_SNAP n) (s.fld (BRT_MON n) 0 22 + 2 ^ 31)

/-- A read of BRT_MON_n (R217): its value, and FRESH cleared. -/
def State.readMon (s : State) (n : Nat) : Word × State := (s.reg (BRT_MON n), s.setBit (BRT_MON n) 31 false)

/-! ### Background calibration -/

/-- A skew round ends with the sums, in fs, of the 65 536 measurements of each Berth measured (R205). DESIGN CHOICE (log 76): a
Berth that is ON and unrouted is measured with p_b 0, and e_b is rounded to whole fs half away from zero. -/
def State.skewRound (s : State) (sums : List (Option Int)) : State :=
  let f : Int := s.fcw
  let ms := (List.range 8).filterMap fun b =>
    match sums.getD b none with
    | some m =>
      if s.on (berthDom b) then
        let v := s.route
        let p : Int := match routeIn v b with
          | some n => let l := routeBerths v n
                      (b - l.headD b) * 8 / l.length
          | none => 0
        some (b, m * f - p * (5 * 2 ^ 44 * 2000000 * 65536 / 8))
      else none
    | none => none
  let cnt : Int := ms.length
  let tot := ms.foldl (fun a x => a + x.2) 0
  let es := ms.map fun x => (x.1, cnt * x.2 - tot)
  let d := cnt * 65536 * f
  let ok := es.all fun x => x.2 ≤ 100 * d && -(100 * d) ≤ x.2
  let s := foldS (fun s b => match es.find? (·.1 == b) with
    | some (_, e) =>
      let s := s.setRegN (BRT_SKEW_ERR b) (ofSigned 16 (clampInt (-32767) 32767 (roundDiv e d)))
      s.modBrt fun x => { x with skewPend := vset x.skewPend b (some (clampInt (-4) 4 (roundDiv e (100 * d)))) }
    | none => s) (List.range 8) s
  ((s.setBit BRT_CAL_STAT 2 ok).modBrt fun x => { x with skewOk := ok }).bump BRT_SKEW_ROUNDS 1

/-- A matching block of channel n ends (R207). -/
def State.matchBlock (s : State) (n : Nat) : State :=
  let x := vget s.brt.chans n
  let bs := s.berths n
  let k : Int := bs.length
  let totS := bs.foldl (fun a b => a + vget x.blkS b) 0
  let totA := bs.foldl (fun a b => a + vget x.blkA b) 0
  let low := totA < 256 * k * 2 ^ 20
  let dS := fun b => k * vget x.blkS b - totS
  let dA := fun b => k * vget x.blkA b - totA
  let ok := bs.all fun b => (dS b).natAbs * 16 ≤ (k * 2 ^ 20).natAbs && (low || (dA b).natAbs * 2 ^ 18 ≤ totA.natAbs)
  if x.blkOvr then s.modChan n (·.noBlock)
  else
    let s := s.modChan n fun x => { x.noBlock with blockDone := true, blockOk := ok, lowsig := low }
    let upd := fun (s : State) (b : Nat) =>
      let s := if s.bit BRT_CAL_CTRL 2 then
          s.modBrt fun x => { x with ofsPend := vset x.ofsPend b (some (roundDiv (4 * dS b) (k * 2 ^ 20))) }
        else s
      if s.bit BRT_CAL_CTRL 1 && !low then
        s.modBrt fun x => { x with gainPend := vset x.gainPend b (some (-(roundDiv (2 ^ 18 * dA b) totA))) }
      else s
    (foldS upd bs s).matchSettle

/-- Clear the background terms of a list of Berths, with their pending updates (R208, R209). -/
def State.bgZero (s : State) (bs : List Nat) : State :=
  foldS (fun s b =>
    let s := (s.setFld (BRT_OFS b) 16 16 0).setFld (BRT_GAIN b) 16 16 0
    s.modBrt fun x => { x with ofsPend := vset x.ofsPend b none, gainPend := vset x.gainPend b none }) bs s

/-- Matching of a channel starts afresh (R207, R208). -/
def State.matchRestart (s : State) (n : Nat) : State :=
  s.modChan n fun x => { x.noBlock with blockDone := false, blockOk := false }

/-- Add a pending background update to the BG field of a register (R207): clamped, with BG_LIMIT. -/
def State.bgAdd (s : State) (off : Nat) (d : Int) : State :=
  let v := s.sfld off 16 16 + d
  (s.setFld off 16 16 (ofSigned 16 (clampInt (-32768) 32767 v))).cond (v < -32768 || 32767 < v) (·.flag BRT_CAL_STAT 9)

/-- Apply the pending background updates of Berth b at the tide edge (R205, R207, R209). -/
def State.calApplyBerth (s : State) (b : Nat) : State :=
  let s := match vget s.brt.skewPend b with
    | some st =>
      let v : Int := (s.fld (BRT_TRIM b) 0 16 : Nat) - st
      (s.setFld (BRT_TRIM b) 0 16 (clampInt 0 65535 v).toNat).cond (v < 0 || 65535 < v) (·.flag BRT_CAL_STAT 8)
    | none => s
  let s := match vget s.brt.ofsPend b with
    | some d => s.bgAdd (BRT_OFS b) d
    | none => s
  match vget s.brt.gainPend b with
  | some d => s.bgAdd (BRT_GAIN b) d
  | none => s

/-- The calibration updates take effect at tide cycle 0 (R209); `prev` is the state before the boundary's changes. -/
def State.calApply (s : State) (prev : State) : State :=
  let stay := fun (i : Nat) (v : Vector (Option Int) 8) => if s.bit BRT_CAL_CTRL i then v else .replicate 8 none
  let s := s.modBrt fun x =>
    { x with skewPend := stay 0 x.skewPend, gainPend := stay 1 x.gainPend, ofsPend := stay 2 x.ofsPend }
  let s := if s.brt.bgClear then foldS State.matchRestart (List.range 8) (s.bgZero (List.range 8)) else s
  let s := foldS State.calApplyBerth (List.range 8) s
  (s.modBrt fun x =>
    { x with skewPend := .replicate 8 none, ofsPend := .replicate 8 none, gainPend := .replicate 8 none,
             bgClear := false,
             prevOfs := Vector.ofFn (n := 8) (fun b => prev.reg (BRT_OFS b)),
             prevGain := Vector.ofFn (n := 8) (fun b => prev.reg (BRT_GAIN b)) }).matchSettle

/-- Channel n's matching block holds its 2^20 samples of each Berth (R207). -/
def State.matchFull (s : State) (n : Nat) : Bool :=
  2 ≤ s.kOf n && s.kOf n * 2 ^ 20 ≤ (vget s.brt.chans n).blkN

/-- Slots of a channel join its matching block (R207); a full block ends ahead of them. -/
def State.matchCollect (s : State) (n i : Nat) (ys : List Slot) : State :=
  let bs := s.berths n
  let k := bs.length
  if k < 2 || !(s.bit BRT_CAL_CTRL 1 || s.bit BRT_CAL_CTRL 2) then s
  else
    let s := s.cond (s.matchFull n) (·.matchBlock n)
    let add := fun (p : Nat × ChanSt) (y : Slot) =>
      let b := bs.getD (p.1 % k) 0
      (p.1 + 1,
        { p.2 with blkN := p.2.blkN + 1, blkOvr := p.2.blkOvr || y.ovr, blkS := vmod p.2.blkS b (· + y.v),
                   blkA := vmod p.2.blkA b (· + y.v.natAbs) })
    s.modChan n fun x => (ys.foldl add (i, x)).2

end Sys2Proof.Machine
end

