-- ==== Sys2Proof/Machine/Bins.lean ====
section
/-! DEFINITION. The partial bins of the histograms and what is counted in them (R306 to R311). -/

namespace Sys2Proof.Machine

/-- Channels of group g's CHMASK, lowest first (R263). -/
def State.chans (s : State) (g : Nat) : List Nat := maskBits 8 (s.fld (ACQ_G_CFG g) 8 8)

/-- 20 ns in time-stamp LSB. -/
def twentyNs : Nat := 655360

/-- An instant lies at or after another (time stamps compared modulo 2^72, R49). -/
def stampGe (b a : Nat) : Bool := (b + 2 ^ 72 - a % 2 ^ 72) % 2 ^ 72 < 2 ^ 71

/-- Update histogram h, and map m. -/
def State.modHist (s : State) (h : Nat) (f : HistSt → HistSt) : State := { s with hists := vmod s.hists h f }
def State.modMap (s : State) (m : Nat) (f : MapSt → MapSt) : State := { s with maps := vmod s.maps m f }

/-- The bins 2^RES and the memory of histogram h (R309). -/
def State.bins (s : State) (h : Nat) : Nat := 2 ^ s.fld (WHS_H_CFG h) 4 5
def State.histMem (s : State) (h : Nat) : Nat := s.fld (WHS_H_CFG h) 14 2

/-- Count one in a partial bin or counter. -/
def HistSt.hit (x : HistSt) (i : Nat) : HistSt := { x with part := smSet (fun _ => 0) x.part i (smGet (fun _ => 0) x.part i + 1) }

/-- A histogram counts at an instant (R308). -/
def HistSt.open_ (x : HistSt) (t : Nat) : Bool :=
  (match x.start with
  | some a => stampGe t (a.toNat + twentyNs)
  | none => false) &&
  (match x.stop with
  | some b => !stampGe t (b.toNat + twentyNs)
  | none => true)

/-- One value of a channel is offered to histogram h (R306, R309). -/
def State.histSample (s : State) (h : Nat) (y : Slot) : State :=
  let n := s.bins h
  let i := if s.bit (WHS_H_CFG h) 9 && y.ovr then n + 1
    else ((y.v + 32768) / 2 ^ (16 - s.fld (WHS_H_CFG h) 4 5)).toNat
  s.modHist h fun x => (x.hit n).hit i

/-- One result of a Tally lane is offered to histogram h (R306, R307): mode 0 STAMP to 5 DIFF. -/
def State.histTally (s : State) (h mode : Nat) (value : Nat) (invalid : Bool) : State :=
  let n := s.bins h
  let ofsU := s.low (WHS_H_OFS_HI h) + s.fld (WHS_H_OFS_HI h) 0 16 * 2 ^ 32
  let (v, o) : Int × Int := if mode = 5 then (toSigned 48 value, toSigned 48 ofsU) else ((value % 2 ^ 48 : Nat), (ofsU : Nat))
  let b := (v - o) / 2 ^ s.fld (WHS_H_OFS_HI h) 16 6
  let i := if invalid || mode == 0 then n + 1 else if v < o then n + 2 else if (n : Int) ≤ b then n + 3 else b.toNat
  s.modHist h fun x => (x.hit n).hit i

/-- Slots of channel c, the first of index i, reach the free-running histograms (R308). -/
def State.histWord (s : State) (c i : Nat) (ys : List Slot) : State :=
  foldS (fun s h =>
    if s.fld (WHS_H_CFG h) 0 4 == c && !s.bit (WHS_H_CFG h) 10 && (vget s.hists h).start.isSome then
      ((ys.mapIdx fun k y => (i + k, y)).foldl (fun s p =>
        if (vget s.hists h).open_ (s.stampAt c p.1) then s.histSample h p.2 else s) s)
    else s) (List.range 8) s

/-- Histogram h counts the bodies of group g's segments, and its channel is one of the group (R308). -/
def State.histGates (s : State) (h g : Nat) : Bool :=
  s.fld (WHS_H_CFG h) 0 4 < 8 && s.bit (WHS_H_CFG h) 10 && s.fld (WHS_H_CFG h) 11 3 == g &&
    (s.chans g).contains (s.fld (WHS_H_CFG h) 0 4) && (vget s.hists h).start.isSome

/-- Words are written into the body of segment x of group g, the first at place k: they reach the histograms that the group
gates (R308, R322). -/
def State.histBody (s : State) (g : Nat) (x : Seg) (k : Nat) (ws : List Quay) : State :=
  let cs := s.chans g
  foldS (fun s h =>
    if s.histGates h g then
      let c := s.fld (WHS_H_CFG h) 0 4
      ((ws.mapIdx fun i w => (k + i, w)).filter fun p => p.1 % cs.length == cs.idxOf c).foldl (fun s p =>
        ((wordSlots p.2).mapIdx fun t y => (x.s + p.1 / cs.length * 4 + t, y)).foldl (fun s q =>
          if (vget s.hists h).open_ (s.stampAt c q.1) then s.histSample h q.2 else s) s) s
    else s) (List.range 8) s

/-- A result of Tally lane l reaches the histograms that read it (R306). -/
def State.histLane (s : State) (l mode value : Nat) (invalid : Bool) : State :=
  foldS (fun s h => if s.fld (WHS_H_CFG h) 0 4 == 8 + l && s.bit (WHS_H_STAT h) 0 then s.histTally h mode value invalid else s)
    (List.range 8) s

end Sys2Proof.Machine
end

