-- ==== Sys2Proof/Machine/Dock.lean ====
section
/-! DEFINITION. The Dock (R326 to R350): charges and the slot calendar, training, and the bursts that wait in a channel's
queue. -/

namespace Sys2Proof.Machine

/-! ### Capture demand (R268, R269, R289) -/

/-- The interleave factor of a group, that of its first channel (R262). -/
def State.kGrp (s : State) (g : Nat) : Nat := s.kOf ((s.chans g).headD 0)

/-- P and Q of group g (R268). -/
def State.pre (s : State) (g : Nat) : Nat := s.fld (ACQ_G_PRE g) 0 21
def State.post (s : State) (g : Nat) : Nat := s.regN (ACQ_G_POST g)

/-- Quotient rounded up. -/
def ceilDiv (n d : Nat) : Nat := (n + d - 1) / d

/-- N_RA, the samples in 24 ns at factor k (R269). -/
def State.nra (s : State) (k : Nat) : Nat := ceilDiv (786432 * k * s.fcw) (5 * 2 ^ 60)

/-- N_RW (R269). -/
def State.nrw (s : State) (k : Nat) : Nat := 4 * ceilDiv (s.nra k) 4

/-- The gap G of R289. -/
def State.gapG (s : State) (g : Nat) : Nat :=
  let k := s.kGrp g
  if s.bit (ACQ_G_CFG g) 1 then 4 * ((s.nra k - s.pre g) / 4) else s.nrw k

/-- The words of one record (R272). -/
def State.recLen (s : State) (g : Nat) : Nat := 8 + (s.chans g).length * (s.pre g + s.post g) / 4

/-- RECS of group g (R272). -/
def State.recs (s : State) (g : Nat) : Nat := s.regN (ACQ_G_SIZE g) / s.recLen g

/-- Group g is a segment group that holds a reservation: SEGMENT mode and a non-zero CHMASK (R334). -/
def State.segHolds (s : State) (g : Nat) : Bool := !s.bit (ACQ_G_CFG g) 0 && !(s.chans g).isEmpty

/-- MEM of group g, and of the directory. -/
def State.grpMem (s : State) (g : Nat) : Nat := s.fld (ACQ_G_CFG g) 4 2
def State.dirMem (s : State) : Nat := s.fld MAN_DIR_CFG 0 2

/-! ### Charges (R334) -/

/-- The client units U of a round (R333). -/
def State.dckCap (s : State) : Nat :=
  match s.fld CLK_LHS_CFG 28 2 with
  | 1 => 75
  | 2 => 45
  | _ => 90

/-- Frames per round F_R (R333). -/
def State.framesPerRound (s : State) : Nat :=
  match s.fld CLK_LHS_CFG 28 2 with
  | 1 => 5
  | 2 => 3
  | _ => 6

/-- Units of capture write of group g on channel ch: ceil((C k f_ACLK / 32 + S_g) × 7.68 µs / 16). -/
def State.chargeCap (s : State) (ch g : Nat) : Nat :=
  if s.segHolds g && s.grpMem g == ch then
    let n := s.pre g + s.post g + s.gapG g
    let kk := (s.chans g).foldl (fun a c => a + s.kOf c) 0
    ceilDiv (s.fcw * 768 * (kk * n + 32 * s.kGrp g)) (2 ^ 44 * 32 * n * 16)
  else 0

/-- The sum of fractions, as numerator and denominator. -/
def fracSum (l : List (Nat × Nat)) : Nat × Nat := l.foldl (fun a x => (a.1 * x.2 + x.1 * a.2, a.2 * x.2)) (0, 1)

/-- Units of the Manifest on channel ch. -/
def State.chargeMan (s : State) (ch : Nat) : Nat :=
  let part := fun g =>
    if s.segHolds g then
      let times := b2n (s.grpMem g == ch) + b2n (s.dirMem == ch)
      (2 * times * s.kGrp g * s.fcw * 768, 2 ^ 44 * (s.pre g + s.post g + s.gapG g))
    else (0, 1)
  let f := fracSum ((List.range 8).map part)
  ceilDiv f.1 f.2

/-- Units of histogram flush of H_h on channel ch (R310, R319). -/
def State.chargeHist (s : State) (ch h : Nat) : Nat :=
  if (vget s.hists h).held && s.fld (WHS_H_CFG h) 14 2 == ch then
    let b := 2 ^ (s.fld (WHS_H_CFG h) 4 5 - 2) + 2
    let src := s.fld (WHS_H_CFG h) 0 4
    let rate := if src < 8 then ceilDiv (b * s.kOf src * s.fcw * 768) (2 ^ 75 * 16) else ceilDiv (b * 3840) (2 ^ 31 * 16)
    max (ceilDiv (b * 768) (16 * s.fld (WHS_H_CFG h) 16 10 * 10 ^ 5)) rate
  else 0

/-- Units of map M_m on channel ch: hits and decay (R319). -/
def State.chargeMap (s : State) (ch m : Nat) : Nat :=
  if (vget s.maps m).held && s.fld (WHS_M_CFG m) 8 2 == ch then
    let rate := s.fld (WHS_M_RATE m) 0 20
    let k := s.fld (WHS_M_DECAY m) 0 16
    let cells := s.fld (WHS_M_SIZE m) 0 13 * 2 ^ s.fld (WHS_M_SIZE m) 16 4
    let hits := 2 * (vget s.maps m).pq * rate
    if k = 0 then ceilDiv (hits * 768) (16 * 10 ^ 8)
    else ceilDiv ((hits * 32 * k + 2 * cells * rate) * 768) (16 * 10 ^ 8 * 32 * k)
  else 0

/-- The charge n_c of client c on channel ch (R334). -/
def State.charge (s : State) (ch c : Nat) : Nat :=
  if c < 8 then s.chargeCap ch c
  else if c = 8 then s.chargeMan ch
  else if c < 17 then s.chargeHist ch (c - 9)
  else if c < 19 then s.chargeMap ch (c - 17)
  else if c = 19 then s.fld (DCK_CH_FERRY ch) 0 7
  else 0

/-- The charges of clients 0 to 19. -/
def State.charges (s : State) (ch : Nat) : List Nat := (List.range 20).map (s.charge ch)

/-- Σ n_c of a channel (R337). -/
def State.demand (s : State) (ch : Nat) : Nat := (s.charges ch).foldl (· + ·) 0

/-- The channel whose calendar cannot hold its charges, if any (R337). -/
def State.calFull (s : State) : Option Nat :=
  if s.demand 0 > s.dckCap then some 0 else if s.demand 1 > s.dckCap then some 1 else none

/-- The calendar check of R337. Its error is ER 301 with what DCK_REFUSE then shows above bit 10. -/
def State.admitCal (cand : State) : Except Nat Unit :=
  match cand.calFull with
  | none => .ok ()
  | some ch => .error (301 + 1024 * (ch + min 255 (cand.demand ch) * 2 ^ 8 + cand.dckCap * 2 ^ 16 + 2 ^ 31))

/-- The code of an error. -/
def errCode (e : Nat) : Nat := e % 1024

/-- An error 105 of one argument in the check stage, and the argument an error names, 0 for none (R92). -/
def argErr (k : Nat) : Nat := 105 + k * 2 ^ 60
def errArg (e : Nat) : Nat := e / 2 ^ 60

/-- The place of an error among the checks of one command (R89); a 105 that depends on the state comes with 203, and behind it
(R556). -/
def errRank (e : Nat) : Nat :=
  match errCode e with
  | 201 => 1 | 202 => 2 | 401 => 3 | 402 => 4 | 403 => 5 | 204 => 6 | 203 => 7 | 105 => 8 | 301 => 9 | 302 => 10
  | _ => 11

/-- Of two errors of one command the one whose check comes first (R89). -/
def firstErr (e f : Nat) : Nat := if errRank f < errRank e then f else e

/-- Two checks of one command (R89). -/
def bothChecks : Except Nat Unit → Except Nat Unit → Except Nat Unit
  | .error e, .error f => .error (firstErr e f)
  | .error e, .ok _ => .error e
  | .ok _, b => b

/-- What a refusal leaves behind: DCK_REFUSE for ER 301 (R337), and TRL_APPLY.APPLY_ERR for an APPLY (R546), whose
errors carry 2^42. -/
def State.noteRefusal (s : State) (e : Nat) : State :=
  let s := if e / 1024 % 2 ^ 32 = 0 then s else s.setRegN DCK_REFUSE (e / 1024)
  if e % 2 ^ 60 < 2 ^ 42 then s else s.setFld TRL_APPLY 16 10 (e % 1024)

/-- The next owner of R338: the client with the greatest n (u + 1) - U given, among those with given < n; ties to the
lowest index. -/
def bestClient (cap u : Nat) : Nat → List (Nat × Nat) → Option (Nat × Int) → Option (Nat × Int)
  | _, [], best => best
  | c, (n, given) :: t, best =>
    let v : Int := n * (u + 1) - cap * given
    let best' := if given < n then
        match best with
        | none => some (c, v)
        | some (_, w) => if v > w then some (c, v) else best
      else best
    bestClient cap u (c + 1) t best'

/-- The calendar of R338: units u to u + left - 1. -/
def buildCal (cap : Nat) : Nat → Nat → List (Nat × Nat) → List (Option Nat)
  | 0, _, _ => []
  | left + 1, u, l =>
    match bestClient cap u 0 l none with
    | none => none :: buildCal cap left (u + 1) l
    | some (c, _) =>
      let (n, gv) := l.getD c (0, 0)
      some c :: buildCal cap left (u + 1) (l.set c (n, gv + 1))

/-- The calendar the charges in force give a channel. -/
def State.calendar (s : State) (ch : Nat) : List (Option Nat) :=
  buildCal s.dckCap s.dckCap 0 ((s.charges ch).map fun n => (n, 0))

/-! ### Training (R327, R330, R331, R347) -/

/-- Update Dock channel n. -/
def State.modDock (s : State) (n : Nat) (f : DockCh → DockCh) : State := { s with dock := vmod s.dock n f }

/-- The programmed timing meets R327; tRTP is the JEDEC value of the grade (log 21). -/
def State.timingOk (s : State) (n : Nat) : Bool :=
  let x16 := s.bit (DCK_CH_CFG n) 1
  let b := if x16 then 8 else 16
  let g := if x16 then 2 else 4
  let f := s.framesPerRound
  let rtp := if f = 6 then 12 else if f = 5 then 10 else 6
  let t0 := s.fld (DCK_CH_TIM0 n)
  let t1 := s.fld (DCK_CH_TIM1 n)
  let t2 := s.fld (DCK_CH_TIM2 n)
  t1 8 8 ≤ 8 * b && t1 16 8 ≤ 32 && t2 16 4 ≤ 8 * g && t2 24 4 ≤ 8 * g &&
  t0 16 6 + t0 8 6 + 4 + t1 0 6 + t0 24 6 ≤ 8 * b && t0 16 6 + rtp + t0 24 6 ≤ 8 * b && t2 0 10 + 32 ≤ 128 * f

/-- The checks of a TRAIN (R89, R327, R330). -/
def State.trainCheck (s : State) (n : Nat) : Except Nat Unit := do
  needA s .dock
  need (s.lhs == 3) 401
  need (s.bit (DCK_CH_CFG n) 0 && s.dckState n != 2) 203
  need (s.timingOk n) 105

/-- Training begins with step 1 (R330). Only from SELFREF are the contents kept. -/
def State.trainStart (s : State) (n : Nat) : State :=
  let s := if s.dckState n = 5 then s else s.memLoseAll n
  let s := s.modDock n fun x => { x with owners := [], pos := 0, issued := [], alert := false, hold := false }
  ((s.setFld (DCK_CH_TSTAT n) 0 7 (2 + 16)).setBit DCK_STAT n false).setRegN (DCK_CH_SIZE n) 0

/-- A training step fails (R347). -/
def State.trainFail (s : State) (n : Nat) : State := (s.setFld (DCK_CH_TSTAT n) 0 3 4).flag DCK_FAULT n

/-- A training step passes (R330, R331). -/
def State.trainStep (s : State) (n : Nat) : State :=
  let step := s.fld (DCK_CH_TSTAT n) 4 3
  if step < 5 then
    let per := s.memSize n / (1 + s.fld (DCK_CH_CFG n) 3 1)
    let s := if step = 4 then
        foldS (fun s r => s.memLose n (per * (r + 1) - 1024) (per * (r + 1))) (List.range (1 + s.fld (DCK_CH_CFG n) 3 1)) s
      else s
    s.setFld (DCK_CH_TSTAT n) 4 3 (step + 1)
  else ((s.setFld (DCK_CH_TSTAT n) 0 7 3).setBit DCK_STAT n true).setRegN (DCK_CH_SIZE n) (s.memSize n)

/-! ### Bursts (R329, R334, R339) -/

/-- Banks B of a channel (R326). -/
def State.banks (s : State) (n : Nat) : Nat := if s.bit (DCK_CH_CFG n) 1 then 8 else 16

/-- A client's charge rose and its new calendar is not yet in force (R338, R339). -/
def State.rose (s : State) (n c : Nat) : Bool :=
  ((vget s.dock n).owners.filter (· == some c)).length < s.charge n c

/-- Update capture group g. -/
def State.modGrp (s : State) (g : Nat) (f : GrpSt → GrpSt) : State :=
  { s with acq := { s.acq with grps := vmod s.acq.grps g f } }

/-- Update the segment of a group with a sequence number. -/
def State.modSeg (s : State) (g : Nat) (seq : Word) (f : Seg → Seg) : State :=
  let f' := fun (x : Seg) => if x.seq = seq then f x else x
  s.modGrp g fun x => { x with seg := x.seg.map f', await := x.await.map f' }

/-- Update the Ferry. -/
def State.modFry (s : State) (f : FrySt → FrySt) : State := { s with fry := f s.fry }

/-- A BAR2 read gathers a word (R474). -/
def State.bar2Got (s : State) (id a : Nat) (q : Quay) : State :=
  s.modFry fun x => { x with reads := x.reads.map fun y => if y.id == id then { y with got := (a, q) :: y.got } else y }

/-- The data of a BAR2 read that has gathered its words, with the window at word base (R473). -/
def Bar2Rd.words (r : Bar2Rd) (base : Nat) : List Word :=
  (List.range r.dws).map fun i =>
    let o := r.off / 4 + i
    match r.got.find? (·.1 == base + o / 4) with
    | some (_, w) => BitVec.ofNat 32 (bits w.toNat (18 * (o % 4)) 18)
    | none => 0

/-- A burst of a BAR2 read is among those an ALERT_N could still find bad (R346). -/
def State.bar2Air (s : State) (id : Nat) : Bool :=
  [0, 1].any fun n => (vget s.dock n).issued.any fun b => match b with
    | some x => match x.op with
      | .bar2 i _ => i == id
      | _ => false
    | none => false

/-- A BAR2 read that has gathered its last word completes, once none of its bursts can be found bad (R346, R474). -/
def State.bar2Done (s : State) (id : Nat) : State :=
  match s.fry.reads.find? (·.id == id) with
  | none => s
  | some r =>
    if r.got.length < r.need ∨ s.bar2Air id then s
    else s.modFry fun x =>
      { x with reads := x.reads.filter (·.id != id), bar2 := .data (r.words (s.regN FRY_BAR2_BASE)) }

/-- AER records errors, each by its place in R471's list. -/
def State.aerLog (s : State) (m : BitVec 14) : State := s.modFry fun x => { x with aer := x.aer ||| m }

/-- A read from the host completes with Completer Abort status: AER records a completer abort, as an advisory non-fatal error
(R471, log 78). -/
def State.aerAbort (s : State) : State := s.aerLog (2 ^ 5 + 2 ^ 9)

/-- A read that the unit made of the host fails (R502): whether it was poisoned or timed out, which AER records, or came back
with UR or CA status, for which AER has no entry, is free (log 78). -/
def State.aerFail (s : State) : State :=
  let k := (Config.freeWord s.free).toNat % 3
  ({ s with free := s.free + 1 }).aerLog (if k = 1 then 2 ^ 7 else if k = 2 then 2 ^ 8 else 0)

/-- A BAR2 read completes with Completer Abort status (R474, R346). -/
def State.bar2Abort (s : State) (id : Nat) : State :=
  if s.fry.reads.any (·.id == id) then
    (s.modFry fun x => { x with reads := x.reads.filter (·.id != id), bar2 := .ca }).aerAbort
  else s

/-- Put words of a segment's body into a channel's queue, closing a burst at its last word (R329, R334). -/
def State.dockPut (s : State) (n g : Nat) (seq : Word) : Nat → List Quay → State
  | _, [] => s
  | a, w :: t =>
    let q := (vget s.dock n).queue
    let joins := fun (x : Burst) => match x.op with
      | .write sq a0 ws => x.client == g && sq == seq && !x.closed && a0 + ws.length == a && a0 / 8 == a / 8
      | _ => false
    let full := a % 8 == 7
    let q' := if q.any joins then
        q.map fun x => if joins x then
          match x.op with
          | .write sq a0 ws => { x with op := .write sq a0 (ws ++ [w]), closed := full }
          | _ => x
        else x
      else q ++ [⟨g, a / 8, .write seq a [w], full⟩]
    (s.modDock n fun x => { x with queue := q' }).dockPut n g seq (a + 1) t

/-- No more words of a segment will come: its last burst is complete. -/
def State.dockClose (s : State) (n g : Nat) (seq : Word) : State :=
  s.modDock n fun x =>
    { x with queue := x.queue.map fun b => match b.op with
        | .write sq _ _ => if b.client == g && sq == seq then { b with closed := true } else b
        | _ => b }

/-- The words of a segment that wait in a channel's queue. -/
def State.dockWaiting (s : State) (n g : Nat) (seq : Word) : Nat :=
  (vget s.dock n).queue.foldl (fun a b => match b.op with
    | .write sq _ ws => if b.client == g && sq == seq then a + ws.length else a
    | _ => a) 0

/-- Discard the capture bursts of a channel, or of one group (R297, R348). -/
def State.dockDrop (s : State) (n : Nat) (p : Burst → Bool) : State :=
  s.modDock n fun x => { x with queue := x.queue.filter fun b => !p b }

/-- A burst of a segment is among those an ALERT_N could still find bad (R346). -/
def State.dockAir (s : State) (n g : Nat) (seq : Word) : Bool :=
  (vget s.dock n).issued.any fun b => match b with
    | some x => match x.op with
      | .write sq _ _ => x.client == g && sq == seq
      | _ => false
    | none => false

/-- A channel's queue loses its capture words (R297, R348): segments that wait for them close at the last word written, with this
END. -/
def State.dockCut (s : State) (n fin : Nat) : State :=
  let cut := fun (s : State) (g : Nat) =>
    if s.segHolds g && s.grpMem g == n then
      let keep := fun (y : Seg) => y.body.take (y.body.length - s.dockWaiting n g y.seq)
      s.modGrp g fun x =>
        { x with
          seg := x.seg.map fun y => { y with body := keep y }
          await := x.await.map fun y =>
            if s.dockWaiting n g y.seq = 0 then y else { y with body := keep y, fin := if y.fin = 0 then fin else y.fin } }
    else s
  (foldS cut (List.range 8) s).dockDrop n fun b => b.client < 8

end Sys2Proof.Machine
end

