-- ==== Sys2Proof/Machine/Ferry.lean ====
section
/-! DEFINITION. The Ferry (R471 to R505): memory windows, rings, descriptors, the credit ledger, completion
records, BAR2 and the mark and monitor queues. -/

namespace Sys2Proof.Machine

/-! ### Rings and books (R486, R492, R497) -/

/-- Update ring r. -/
def State.modRing (s : State) (r : Nat) (f : RingSt → RingSt) : State := s.modFry fun x => { x with rings := vmod x.rings r f }

/-- Ring r's state beside its registers. -/
def State.ring (s : State) (r : Nat) : RingSt := vget s.fry.rings r

/-- STATE of ring r (R492): 0 STOPPED, 1 RUNNING, 2 STOPPING, 3 HALTED, 4 FAULTED. -/
def State.ringState (s : State) (r : Nat) : Nat := s.fld (FRY_R_STAT r) 0 3
def State.setRingState (s : State) (r v : Nat) : State := s.setFld (FRY_R_STAT r) 0 3 v

/-- TYPE of ring r (R477): 0 STREAM, 1 MARK, 2 MONITOR, 3 READ, 4 WRITE. -/
def State.ringType (s : State) (r : Nat) : Nat := s.fld (FRY_R_CFG r) 0 3

/-- SIZE of ring r. -/
def State.ringSize (s : State) (r : Nat) : Nat := 2 ^ s.fld (FRY_R_CFG r) 4 4

/-- The books DEV, INFL and HOST (HOST is signed). -/
def State.dev (s : State) (r : Nat) : Nat := s.fld (FRY_R_LDG0 r) 0 16
def State.infl (s : State) (r : Nat) : Nat := s.fld (FRY_R_LDG0 r) 16 16
def State.host (s : State) (r : Nat) : Int := s.sfld (FRY_R_LDG1 r) 0 17
def State.setDev (s : State) (r v : Nat) : State := s.setFld (FRY_R_LDG0 r) 0 16 v
def State.setInfl (s : State) (r v : Nat) : State := s.setFld (FRY_R_LDG0 r) 16 16 v
def State.setHost (s : State) (r : Nat) (v : Int) : State := s.setFld (FRY_R_LDG1 r) 0 17 (ofSigned 17 v)

/-- The pointers HEAD, DONE and TAIL. -/
def State.head (s : State) (r : Nat) : Nat := s.fld (FRY_R_PTR r) 0 15
def State.donePtr (s : State) (r : Nat) : Nat := s.fld (FRY_R_PTR r) 16 15
def State.tail (s : State) (r : Nat) : Nat := s.fld (FRY_R_TAIL r) 0 15
def State.setHead (s : State) (r v : Nat) : State := s.setFld (FRY_R_PTR r) 0 15 (v % s.ringSize r)
def State.setDonePtr (s : State) (r v : Nat) : State := s.setFld (FRY_R_PTR r) 16 15 (v % s.ringSize r)
def State.setTail (s : State) (r v : Nat) : State := s.setRegN (FRY_R_TAIL r) (v % s.ringSize r)

/-- The Ferry may issue requests: HOST ON, the link up and the function in D0, Lighthouse-S RUNNING, no abort in
progress (R471, R495, R496, R503). -/
def State.ferryUp (s : State) : Bool :=
  s.on .host && s.bit FRY_LINK 10 && !s.bit FRY_LINK 9 && s.lhs == 3 && s.cmd.abort.isNone

/-- A transfer makes the link leave L1 (R461, R496, R497). -/
def State.wake (s : State) : State := s.cond (s.bit FRY_LINK 8) (·.setBit FRY_LINK 8 false)

/-- A read request goes out, or its completion returns (R488, R497). -/
def State.tagOut (s : State) : State :=
  let s := s.wake
  let n := s.fld FRY_TAGS 0 6 + 1
  (s.setFld FRY_TAGS 0 6 n).setFld FRY_TAGS 8 6 (max n (s.fld FRY_TAGS 8 6))
def State.tagBack (s : State) : State := s.setFld FRY_TAGS 0 6 (s.fld FRY_TAGS 0 6 - 1)

/-- Ring r asks for descriptors where it has posted ones and holds none (R488). -/
def State.ringKick (s : State) (r : Nat) : State :=
  if s.ringState r == 1 && s.ferryUp && (s.ring r).fetched.isEmpty && !(s.ring r).fetching && !(s.ring r).overdrawn &&
      0 < s.dev r && s.fld FRY_TAGS 0 6 < 32 then
    (s.modRing r fun x => { x with fetching := true }).tagOut
  else s

/-- Every ring asks for descriptors it needs. -/
def State.kickAll (s : State) : State := foldS State.ringKick (List.range 8) s

/-- A ring faults (R502); one stopped on the same edge records the fault and is STOPPING (R500). -/
def State.ringFault (s : State) (r cause : Nat) : State :=
  let stops := s.ringState r == 2 && (s.ring r).stopAt == some s.tide.tb
  let s := ((s.setRingState r (if stops then 2 else 4)).setFld (FRY_R_STAT r) 4 3 cause).flag FRY_FAULT r
  s.cond (cause = 1) (·.flag FRY_FAULT (8 + r))

/-- The numbered causes of R497. -/
def causeLedger : Nat := 1
def causeDesc : Nat := 2
def causeFetch : Nat := 3
def causeLink : Nat := 4

/-- The books of a ring balance (R487). -/
def State.ledgerOk (s : State) (r : Nat) : Bool :=
  let z := s.ringSize r
  (s.dev r : Int) + s.infl r + s.host r == z && s.dev r ≤ z && s.infl r ≤ z && 0 ≤ s.host r && s.host r ≤ z &&
  (s.tail r + z - s.head r) % z == s.dev r % z && (s.head r + z - s.donePtr r) % z == s.infl r % z

/-- The block of a flight that is not cut already goes back to the front of the staged blocks (R495). -/
def State.unstage (s : State) (r : Nat) : State :=
  let bs := ((s.ring r).flights.filter (·.code == 0)).filterMap (·.block)
  { s with acq := { s.acq with offered := bs ++ s.acq.offered } }

/-- Ring r's descriptors in flight get no record any more (R502): its books stand, and a stream block, whose buffer no record has
freed (R481), stays staged. -/
def State.dropFlights (s : State) (r : Nat) : State := (s.unstage r).modRing r fun x => { x with flights := [] }

/-- The check of ring r at a tide edge (R487): a failed one faults it, and after one that passes it issues again. -/
def State.ledgerCheck (s : State) (r : Nat) : State :=
  let st := s.ringState r
  if st == 1 || st == 2 || st == 3 then
    if s.ledgerOk r then (s.modRing r fun x => { x with overdrawn := false }).ringKick r
    else (s.dropFlights r).ringFault r causeLedger
  else s

/-! ### Commands (R486, R492, R493) -/

/-- The checks of START. -/
def State.fryStartCheck (s : State) (r : Nat) : Except Nat Unit := do
  needA s .host
  need (s.lhs == 3) 401
  need (s.ringState r == 0 && s.ringType r < 5 &&
    (s.ringType r != 2 || (List.range 8).all fun q => s.ringType q != 2 || s.ringState q == 0)) 203

/-- START: the books are reset and the ring runs. -/
def State.fryStart (s : State) (r : Nat) : State :=
  let s := s.modRing r fun _ => RingSt.reset
  let s := ((s.setRegN (FRY_R_PTR r) 0).setRegN (FRY_R_TAIL r) 0).setRegN (FRY_R_LDG0 r) 0
  (s.setHost r (s.ringSize r)).setRegN (FRY_R_STAT r) (1 + 2 ^ 8)

/-- Ring r is the stream or mark ring of a streaming group (R478, R493). -/
def State.ringBusy (s : State) (r : Nat) : Bool :=
  (List.range 8).any fun g => s.fld (ACQ_G_STAT g) 0 3 == 4 &&
    ((vget s.acq.grps g).sring == r || (vget s.acq.grps g).mring == r)

/-- The checks of STOP. -/
def State.fryStopCheck (s : State) (r : Nat) : Except Nat Unit := do
  needA s .host
  let st := s.ringState r
  need (st != 0 && st != 2 && !(st == 1 && s.ringBusy r)) 203

/-- A flight is cut (R492, R495): a COPY or SEG at a burst boundary and a STREAM block at a byte the model leaves free
(log 22), a MARK or MONITOR buffer at what it holds, a LOAD with what its data have moved. -/
def Flight.cut (f : Flight) (code free : Nat) (ty : Nat) : Flight :=
  if f.code != 0 then { f with ready := true }
  else if ty = 0 then { f with ready := true, code := code, bytes := free % (f.bytes + 1) }
  else if ty ≤ 2 || f.desc.op == 3 then { f with ready := true, code := code }
  else
    let per := if f.desc.fmt = 0 then 9 else 16
    let seg := f.desc.op == 2
    let a := if seg then bits (f.data.getD 5 0).toNat 0 32 else f.desc.maddr
    let keep := min f.data.length (8 * (free % (f.data.length / 8 + 2)) - a % 8)
    let moved := if seg then min keep 8 * 16 + (keep - 8) * per else keep * per
    { f with ready := true, code := code, data := f.data.take keep, bytes := moved, info := if seg then f.info else keep }

/-- STOP (R492). -/
def State.fryStop (s : State) (r : Nat) : State :=
  let ty := s.ringType r
  let fr := (Config.freeWord s.free).toNat
  let s := { s with free := s.free + 1 }
  let end_ := fun (f : Flight) =>
    if ty == 1 || ty == 2 then { f with ready := true }
    else if ty == 3 || ty == 4 then f.cut 1 fr ty
    else f
  (s.modRing r fun x => { x with flights := x.flights.map end_, stopAt := some s.tide.tb }).setRingState r 2

/-- The checks of RESUME. -/
def State.fryResumeCheck (s : State) (r : Nat) : Except Nat Unit := do
  needA s .host
  need (s.ringState r == 3) 203

/-- RESUME (R492). -/
def State.fryResume (s : State) (r : Nat) : State := (s.setRingState r 1).ringKick r

/-- A post of n slots (R486, R487). -/
def State.fryPost (s : State) (r n : Nat) : State :=
  let h := s.host r - n
  let s := ((s.setHost r h).setDev r (s.dev r + n)).setTail r (s.tail r + n)
  (s.modRing r fun x => { x with overdrawn := x.overdrawn || h < 0 }).ringKick r

/-- The reads a ring has outstanding return as it stops or halts (R488). -/
def State.readsBack (s : State) (r : Nat) : State :=
  let x := s.ring r
  ((s.modRing r fun x => { x with fetching := false, loading := false }).cond x.fetching (·.tagBack)).cond x.loading (·.tagBack)

/-- A stopping ring with nothing in flight makes the return move and stops (R486, R492). -/
def State.fryReturn (s : State) (r : Nat) : State :=
  let h := s.host r + s.dev r
  let s := (((s.readsBack r).setHost r h).setDev r 0).setRingState r 0
  s.modRing r fun _ => RingSt.reset

/-! ### Host-side formats (R476) -/

/-- The bytes of one quay word in a format, for channel ch. -/
def fmtWord (fmt ch : Nat) (q : Quay) : List Byte :=
  let nine := (quayBytes q).map (BitVec.ofNat 8)
  if fmt = 0 then nine
  else if fmt = 2 then nine ++ List.replicate 7 0
  else
    (List.range 4).flatMap fun i =>
      let v := bits q.toNat (18 * i) 18 + ch * 2 ^ 18
      (List.range 4).map fun j => BitVec.ofNat 8 (v / 2 ^ (8 * j))

/-- Bytes of w words in a format. -/
def fmtBytes (fmt w : Nat) : Nat := w * (if fmt = 0 then 9 else 16)

/-- n rounded up to a multiple of 8. -/
def up8 (n : Nat) : Nat := (n + 7) / 8 * 8

/-- The words of a transfer as bytes, the channels of an interleaved order in turn. -/
def fmtWords (fmt : Nat) (chs : List Nat) : Nat → List Quay → List Byte
  | _, [] => []
  | i, q :: t => fmtWord fmt (chs.getD (i % max 1 chs.length) 0) q ++ fmtWords fmt chs (i + 1) t

/-! ### Descriptors (R479, R480) -/

/-- Words of one block per channel. -/
def State.blkLen (s : State) (g : Nat) : Nat := 2 ^ s.fld (ACQ_G_CFG g) 16 4

/-- A descriptor is bad for ring r (R479), where a stream ring would put a block of group g into it. -/
def State.descBad (s : State) (r g : Nat) (d : Desc) : Bool :=
  let ty := s.ringType r
  let opOk := match ty with
    | 3 => d.op == 1 || d.op == 2
    | 4 => d.op == 3
    | _ => d.op == 0
  let fmtOk := match ty with
    | 0 | 3 => d.fmt ≤ 2
    | 4 => d.fmt == 0 || d.fmt == 2
    | _ => d.fmt == 2
  let blk := (s.chans g).length * s.blkLen g
  let least := match ty with
    | 0 => up8 (fmtBytes d.fmt blk)
    | 1 => 64
    | 2 => 128
    | _ => if d.op = 2 then 128 else up8 (fmtBytes d.fmt d.words)
  !(opOk && fmtOk && d.addr % 8 == 0 && d.len % 8 == 0 && 8 ≤ d.len && d.len ≤ 0x7FFFFFF8 && least ≤ d.len)

/-- DONE of ring r advances by a record with IRQ or not (R490). -/
def State.doneEvent (s : State) (r : Nat) (irq : Bool) : State :=
  let n := (s.ring r).since + 1
  let every := s.fld (FRY_R_CFG r) 16 8
  let fire := irq || (every != 0 && every ≤ n)
  (s.modRing r fun x => { x with since := if fire then 0 else n }).cond fire (·.flag (FRY_R_EVT r) 0)

/-- The completion record of a flight of ring r (R480); one of a MONITOR ring carries the tides dropped (R483). -/
def State.recordOf (s : State) (r : Nat) (f : Flight) : CplRec :=
  let cbase := s.regN (FRY_R_CBASE_LO r) + s.regN (FRY_R_CBASE_HI r) * 2 ^ 32
  { addr := cbase + 32 * f.idx, tag := f.desc.tag, bytes := f.bytes, info := f.info, tide := s.tide.number.toNat,
    code := f.code, ring := r, irq := f.desc.irq, index := f.idx, phase := s.bit (FRY_R_STAT r) 8,
    aux := if s.ringType r = 2 then min s.fry.monDrops 0xFFFFFFFF else f.aux }

/-- The channel order in which a flight's words lie (R476, R481, R484). -/
def State.flightChs (s : State) (f : Flight) : List Nat :=
  match f.block with
  | some b => s.chans b.group
  | none => [f.desc.ch]

/-- The data bytes of a flight as written to its host buffer (R476, R481 to R484). -/
def State.flightData (s : State) (r : Nat) (f : Flight) : List Byte :=
  if s.ringType r = 4 ∨ f.code = 8 then []
  else List.take f.bytes <| if f.desc.op = 2 then
    let m := bits ((f.data.getD 6 0).toNat) 64 8
    fmtWords 2 [0] 0 (f.data.take 8) ++ fmtWords f.desc.fmt (maskBits 8 m) 0 (f.data.drop 8)
  else fmtWords f.desc.fmt (s.flightChs f) 0 f.data

/-- The oldest flight of ring r completes: its record is written and the Complete move made (R480, R486, R490). -/
def State.completeFlight (s : State) (r : Nat) : State :=
  match (s.ring r).flights with
  | [] => s
  | f :: rest =>
    let rec' := s.recordOf r f
    let data := s.flightData r f
    let s := s.modRing r fun x => { x with flights := rest }
    let s := s.modFry fun x =>
      { x with lastRec := some rec', lastData := data, monDrops := if s.ringType r = 2 then 0 else x.monDrops }
    let wrap := f.idx + 1 == s.ringSize r
    let s := ((s.setInfl r (s.infl r - 1)).setHost r (s.host r + 1)).setDonePtr r (f.idx + 1)
    let s := s.cond wrap fun s => s.setBit (FRY_R_STAT r) 8 (!s.bit (FRY_R_STAT r) 8)
    ((s.bump (FRY_R_RECS r) 1).doneEvent r f.desc.irq).wake

/-- START, GAP and STOP records that wait outside the mark queue enter it while it has room, group by group in ascending order
(R287). -/
def State.refillMarks : Nat → State → State
  | 0, s => s
  | fuel + 1, s =>
    if 256 ≤ s.acq.marks.length then s
    else match (List.range 8).find? fun g => !(vget s.acq.grps g).waitMarks.isEmpty with
      | none => s
      | some g =>
        let m := (vget s.acq.grps g).waitMarks.headD []
        refillMarks fuel { s with acq := { s.acq with
          marks := s.acq.marks ++ [(g, m)]
          grps := vmod s.acq.grps g fun x => { x with waitMarks := x.waitMarks.drop 1 } } }

/-- Fill the last MARK or MONITOR buffer of ring r while records or tides wait and fit (R482). -/
def State.fillMarks (s : State) (r : Nat) : Nat → State
  | 0 => s
  | fuel + 1 =>
    let x := s.ring r
    match x.flights.getLast?, s.acq.marks.find? (fun m => (vget s.acq.grps m.1).mring == r) with
    | some f, some m =>
      if f.ready then s
      else if f.bytes + 64 ≤ f.desc.len then
        let f' := { f with data := f.data ++ m.2, bytes := f.bytes + 64, info := f.info + 1, age := f.age <|> some 0,
                           ready := f.desc.len < f.bytes + 128 }
        let s := s.modRing r fun x => { x with flights := x.flights.dropLast ++ [f'] }
        let s := refillMarks 1 { s with acq := { s.acq with marks := s.acq.marks.erase m } }
        s.fillMarks r fuel
      else s.modRing r fun x => { x with flights := x.flights.dropLast ++ [{ f with ready := true }] }
    | _, _ => s

/-- Fill the last MONITOR buffer of ring r from the monitor queue (R482, R483). -/
def State.fillMon (s : State) (r : Nat) : Nat → State
  | 0 => s
  | fuel + 1 =>
    let x := s.ring r
    match x.flights.getLast?, s.fry.mon with
    | some f, (td, ws) :: rest =>
      if f.ready then s
      else if f.bytes + 16 * ws.length ≤ f.desc.len then
        let f' := { f with data := f.data ++ ws, bytes := f.bytes + 16 * ws.length,
                           info := if f.age.isNone then td.toNat else f.info, age := f.age <|> some 0 }
        let s := s.modRing r fun x => { x with flights := x.flights.dropLast ++ [f'] }
        (s.modFry fun x => { x with mon := rest }).fillMon r fuel
      else s.modRing r fun x => { x with flights := x.flights.dropLast ++ [{ f with ready := true }] }
    | _, _ => s

/-- Deliver waiting mark records and monitor tides to ring r as its type has it. -/
def State.ringFill (s : State) (r : Nat) : State :=
  if s.ringState r == 1 && s.ferryUp then
    if s.ringType r == 1 then s.fillMarks r 300
    else if s.ringType r == 2 then s.fillMon r 300
    else s
  else s

/-- Words w of memory m from address a lie in populated memory that serves (R480 code RANGE). -/
def State.rangeOk (s : State) (m a w : Nat) : Bool := m ≤ 2 && a + w ≤ s.memSize m && s.memUp m

/-- Consecutive words of a memory. -/
def State.memReads (s : State) (m a w : Nat) : List Quay := (List.range w).map fun i => s.memRead m (a + i)

/-! ### Quay memory to host and back (R484, R485)

A COPY, SEG or LOAD moves its words in address order: those of the quay buffer at once, those of a Dock channel burst by burst in
the slots of the Ferry (R334, R339). -/

/-- A flight completes with a code, where it has none yet. -/
def Flight.fin (f : Flight) (code : Nat) : Flight := { f with code := if f.code = 0 then code else f.code, ready := true }

/-- A SEG that has its header and body (R484). -/
def Flight.segEnd (f : Flight) : Flight :=
  let body := f.data.drop 8
  let crc := crcWords body
  let room := (f.desc.len - 128) / (if f.desc.fmt = 0 then 9 else 16)
  let k := min body.length room
  Flight.fin { f with data := f.data.take 8 ++ body.take k, bytes := 128 + fmtBytes f.desc.fmt k, aux := crc }
    (if k < body.length then 10 else if crc ≠ bits (f.data.getD 6 0).toNat 0 32 then 7 else 0)

/-- What a SEG does next (R484): its end, or the memory, the address and the number of the words it reads next. -/
def State.segNext (s : State) (f : Flight) : Flight ⊕ Nat × Nat × Nat :=
  match f.dir with
  | none =>
    let a := s.regN MAN_DIR_BASE + bits f.desc.maddr 0 24
    if s.rangeOk s.dirMem a 1 then .inr (s.dirMem, a, 1) else .inl (f.fin 4)
  | some ent =>
    let e := ent.toNat
    let n := f.data.length
    if n < 8 then
      if s.rangeOk (bits e 32 2) (bits e 0 32) 8 then .inr (bits e 32 2, bits e 0 32 + n, 8 - n) else .inl (f.fin 4)
    else
      let w := fun i => (f.data.getD i 0).toNat
      let hcrc := crc32c ((f.data.take 7).flatMap quayBytes ++ (List.range 4).map fun j => bits (w 7) (8 * j) 8)
      let g := { f with bytes := 128, info := bits (w 4) 0 32 + bits (w 4) 32 24 * 2 ^ 32 + bits (w 5) 66 3 * 2 ^ 56 }
      let m := bits (w 5) 32 2
      let a := bits (w 5) 0 32
      let len := bits (w 5) 34 32
      if hcrc ≠ bits (w 7) 32 32 then .inl (g.fin 6)
      else if bits e 40 32 ≠ bits (w 4) 0 32 then .inl (g.fin 5)
      else if !s.rangeOk m a len then .inl (g.fin 4)
      else if n - 8 < len then .inr (m, a + (n - 8), len - (n - 8))
      else .inl g.segEnd

/-- What a COPY, SEG or LOAD does next: its end, or the memory, the address and the number of the words it moves next. -/
def State.flightNext (s : State) (f : Flight) : Flight ⊕ Nat × Nat × Nat :=
  if f.desc.op = 2 then s.segNext f
  else if f.desc.op = 3 then
    if f.put < f.data.length then .inr (f.desc.mem, f.desc.maddr + f.put, f.data.length - f.put) else .inl (f.fin 0)
  else if f.data.length < f.desc.words then
    .inr (f.desc.mem, f.desc.maddr + f.data.length, f.desc.words - f.data.length)
  else .inl (Flight.fin { f with bytes := fmtBytes f.desc.fmt f.data.length, info := f.data.length } 0)

/-- A flight has moved some words. -/
def Flight.took (f : Flight) (ws : List Quay) : Flight :=
  if f.desc.op = 3 then
    let n := f.put + ws.length
    { f with put := n, bytes := fmtBytes f.desc.fmt n, info := n }
  else if f.desc.op = 2 && f.dir.isNone then { f with dir := ws.head? }
  else { f with data := f.data ++ ws }

/-- The flight of ring r that moves words: a LOAD where data of it have arrived that are not written, or none is to come. -/
def State.mover (s : State) (r : Nat) : Option Flight :=
  (s.ring r).flights.find? fun f =>
    !f.ready && f.desc.op != 0 && !(f.desc.op == 3 && (s.ring r).loading && f.put == f.data.length)

/-- Change the flight at a descriptor index of ring r. -/
def State.putFlight (s : State) (r : Nat) (f : Flight) : State :=
  s.modRing r fun x => { x with flights := x.flights.map fun y => if y.idx == f.idx && !y.ready then f else y }

/-- Flight f of ring r moves n words of memory m at address a. -/
def State.flightMove (s : State) (r : Nat) (f : Flight) (m a n : Nat) : State :=
  if f.desc.op = 3 then
    let ws := (f.data.drop f.put).take n
    (s.memWrites m a ws).putFlight r (f.took ws)
  else s.putFlight r (f.took (s.memReads m a n))

/-- A burst of a flight is among those an ALERT_N could still find bad (R346). -/
def State.ferryAir (s : State) (r idx : Nat) : Bool :=
  [0, 1].any fun n => (vget s.dock n).issued.any fun b => match b with
    | some x => match x.op with
      | .ferry q i _ => q == r && i == idx
      | _ => false
    | none => false

/-- The Ferry goes on with ring r's transfer: words of the quay buffer move at once, and what has moved all its words ends, once
none of its bursts can be found bad (R346). -/
def State.ferryGo : Nat → State → Nat → State
  | 0, s, _ => s
  | fuel + 1, s, r =>
    match s.mover r with
    | none => s
    | some f =>
      match s.flightNext f with
      | .inl g => if s.ferryAir r f.idx then s else s.putFlight r g
      | .inr (m, a, n) => if m = 2 then ferryGo fuel (s.flightMove r f m a n) r else s

/-- The Ferry goes on with ring r's transfer. -/
def State.ferryNext (s : State) (r : Nat) : State := State.ferryGo 4 s r

/-- The Ferry begins the descriptor at HEAD of ring r: the Issue move, and what its type does with it (R481 to R486). -/
def State.issueDesc (s : State) (r : Nat) (d : Desc) (blk : Option Block) : State :=
  let idx := s.head r
  let s := ((s.setDev r (s.dev r - 1)).setInfl r (s.infl r + 1)).setHead r (idx + 1)
  let s := s.modRing r fun x => { x with fetched := x.fetched.drop 1 }
  let f : Flight :=
    { desc := d, idx := idx, data := [], dir := none, put := 0, bytes := 0, info := 0, aux := 0, code := 0, ready := false
      age := none, block := none }
  let push := fun (s : State) (f : Flight) => s.modRing r fun x => { x with flights := x.flights ++ [f] }
  if s.descBad r ((blk.map (·.group)).getD 0) d then
    let t := (push s { f with code := 8, ready := true }).ringFault r causeDesc
    t.cond (s.ring r).flights.isEmpty (·.completeFlight r)
  else match s.ringType r with
    | 0 =>
      match blk with
      | some b =>
        let s := { s with acq := { s.acq with offered := s.acq.offered.erase b } }
        push s { f with data := b.words, bytes := fmtBytes d.fmt b.words.length,
                        info := b.no + b.group * 2 ^ 32 + b2n b.short * 2 ^ 35, ready := true, block := some b }
      | none => push s f
    | 1 => (push s f).ringFill r
    | 2 => (push s f).ringFill r
    | 3 =>
      if d.op = 2 || s.rangeOk d.mem d.maddr d.words then (push s f).ferryNext r
      else push s { f with code := 4, ready := true }
    | _ =>
      if s.rangeOk d.mem d.maddr d.words then ((push s f).modRing r fun x => { x with loading := true }).tagOut
      else push s { f with code := 4, ready := true }

/-- A descriptor fetch of ring r completes with what it read, or fails (R488, R502). -/
def State.fetchDone (s : State) (r : Nat) (res : Option (List Desc)) : State :=
  if !(s.ring r).fetching then s
  else
    let s := (s.modRing r fun x => { x with fetching := false }).tagBack
    match res with
    | none => s.aerFail.cond (s.ringState r == 1) (·.ringFault r causeFetch)
    | some ds => (s.modRing r fun x => { x with fetched := ds.take (min 8 (s.dev r)) }).ringKick r

/-- The next stream block for ring r (R481): in the order offered. -/
def State.nextBlock (s : State) (r : Nat) : Option Block :=
  s.acq.offered.find? fun b => (vget s.acq.grps b.group).sring == r

/-- Ring r has work for its next descriptor. -/
def State.ringWork (s : State) (r : Nat) : Bool :=
  match s.ringType r with
  | 0 => (s.nextBlock r).isSome
  | 1 => (s.acq.marks.any fun m => (vget s.acq.grps m.1).mring == r) && (s.ring r).flights.all (·.ready)
  | 2 => !s.fry.mon.isEmpty && (s.ring r).flights.all (·.ready)
  | _ => (s.ring r).flights.all (·.ready)

/-- The Ferry may begin an issue or a completion: not in the last 40 ns before a tide edge (R486). -/
def State.mayMove (s : State) : Bool := s.tide.cycle + 4 < s.tide.len

/-- The Ferry may issue on ring r. -/
def State.mayIssue (s : State) (r : Nat) : Bool :=
  s.ringState r == 1 && s.ferryUp && s.mayMove && !(s.ring r).overdrawn && 0 < s.dev r && !(s.ring r).fetched.isEmpty

/-- The words of a LOAD whole once some data reads of 512 bytes have completed (R485, R488). -/
def Flight.wordsBy (f : Flight) (reads : Nat) : Nat := min f.desc.words (512 * reads / fmtBytes f.desc.fmt 1)

/-- The words the data read of a LOAD that is outstanding brings (R488). -/
def Flight.readWords (f : Flight) : Nat :=
  f.wordsBy ((fmtBytes f.desc.fmt (f.data.length + 1) - 1) / 512 + 1) - f.data.length

/-- The LOAD of ring r that waits for data. -/
def State.loader (s : State) (r : Nat) : Option Flight := (s.ring r).flights.find? fun f => !f.ready && f.desc.op == 3

/-- A data read of a LOAD completes: its words go to memory (R485), and the next read goes out where words are missing (R488); a
failed one completes the LOAD with HOST_ERR (R502). -/
def State.loadData (s : State) (r : Nat) (res : Option (List Quay)) : State :=
  let s := (s.modRing r fun x => { x with loading := false }).tagBack
  match s.loader r with
  | none => s
  | some f =>
    match res with
    | none => s.aerFail.putFlight r (f.fin 9)
    | some ws =>
      let data := f.data ++ ws.take f.readWords
      let s := s.cond (data.length < f.desc.words) fun s => (s.modRing r fun x => { x with loading := true }).tagOut
      (s.putFlight r { f with data := data }).ferryNext r

/-! ### Monitor queue and buffer age (R482, R483) -/

/-- The words of the monitor queue. -/
def State.monWords (s : State) : Nat := s.fry.mon.foldl (fun a t => a + t.2.length) 0

/-- The RUNNING monitor ring, if any. -/
def State.monRing (s : State) : Option Nat := (List.range 8).find? fun r => s.ringType r == 2 && s.ringState r == 1

/-- A tide's monitor words are dropped (R483). -/
def State.monDrop (s : State) : State := s.modFry fun x => { x with monDrops := x.monDrops + 1 }

/-- At tide cycle 0 the tide's monitor words are queued whole, or the tide is dropped and counted (R483). -/
def State.queueMon (s : State) (ws : List Quay) : State :=
  if ws.isEmpty then s
  else match s.monRing with
    | none => (s.count FRY_MON_DROP 1).monDrop
    | some r =>
      if s.monWords + ws.length ≤ 256 && !s.bit FRY_LINK 9 && s.cmd.abort.isNone then
        (s.modFry fun x => { x with mon := x.mon ++ [(s.tide.number, ws)] }).ringFill r
      else (s.count (FRY_R_DROP r) 1).monDrop

/-- Buffers age by one tide edge (R482). -/
def State.ageRing (s : State) (r : Nat) : State :=
  s.modRing r fun x => { x with flights := x.flights.map fun f => { f with age := f.age.map (· + 1) } }

/-- The hold of a MARK or MONITOR buffer has expired (R482). -/
def State.holdExpired (s : State) (r : Nat) : Bool :=
  (s.ringType r == 1 || s.ringType r == 2) &&
  match (s.ring r).flights with
  | f :: _ => match f.age with
    | some n => max 1 (s.fld (FRY_R_CFG r) 24 8) ≤ n
    | none => false
  | [] => false

/-! ### BAR2 (R473 to R475) -/

/-- Records of ring r can be written: the link up, the function in D0, Lighthouse-S RUNNING, no abort in progress, and
HOST ON, or DRAINING with work in flight (R504). -/
def State.ferryEnds (s : State) : Bool :=
  (s.on .host || s.dom .host == 3) && s.bit FRY_LINK 10 && !s.bit FRY_LINK 9 && s.lhs == 3 && s.cmd.abort.isNone

/-- Memory and first word of the BAR2 window. -/
def State.bar2Mem (s : State) : Nat := s.fld FRY_BAR2_CFG 0 2

/-- A BAR2 read of dws DWs at window offset off (R474, R475). -/
def State.bar2ReadReq (s : State) (off dws : Nat) : State :=
  let m := s.bar2Mem
  let w0 := s.regN FRY_BAR2_BASE + off / 16
  let w1 := s.regN FRY_BAR2_BASE + (off + 4 * dws - 1) / 16
  let as := (List.range (w1 + 1 - w0)).map (w0 + ·)
  if dws = 0 ∨ off % 128 + 4 * dws > 128 ∨ s.memSize m ≤ w1 ∨ !s.memUp m then
    (s.modFry fun x => { x with bar2 := .ca }).aerAbort
  else
    let id := s.fry.nextId
    let s := s.modFry fun x =>
      { x with reads := x.reads ++ [⟨id, off, dws, [], as.length, s.tide.tb⟩], nextId := id + 1, bar2 := .none }
    if m = 2 then (as.foldl (fun s a => s.bar2Got id a (s.memRead 2 a)) s).bar2Done id
    else
      let bursts := ((as.map (· / 8)).eraseDups).map fun b => (⟨21, b, .bar2 id (as.filter fun a => a / 8 == b), true⟩ : Burst)
      s.modDock m fun x => { x with queue := x.queue ++ bursts }

/-- A BAR2 read has waited for 1 ms (R474). -/
def State.bar2Late (s : State) (r : Bar2Rd) : Bool := 500000 ≤ (s.tide.tb - r.at_).toNat + 4

/-- A BAR2 read not served in 1 ms (R474). -/
def State.bar2Timeout (s : State) : State :=
  match s.fry.reads with
  | [] => s
  | r :: _ => if !s.bar2Late r then s else ((s.dockDrop 0 (fun b => match b.op with
      | .bar2 id _ => id == r.id
      | _ => false)).dockDrop 1 (fun b => match b.op with
      | .bar2 id _ => id == r.id
      | _ => false)).bar2Abort r.id |>.count FRY_BAR2_DROP 1

/-- The BAR2 write latch is discarded and counted (R475, R495). -/
def State.latchDrop (s : State) : State :=
  if s.fry.latch.isSome then (s.modFry fun x => { x with latch := none }).count FRY_BAR2_DROP 1 else s

/-- A BAR2 write of one DW (R475): with slot 3 the word goes to memory, in a Dock channel through the free slots (R339). -/
def State.bar2WriteReq (s : State) (off : Nat) (v : Word) : State :=
  let m := s.bar2Mem
  let w := s.regN FRY_BAR2_BASE + off / 16
  let slot := off / 4 % 4
  if s.memSize m ≤ w ∨ !s.memUp m then s.ignore
  else
    let held := match s.fry.latch with
      | some (k, l) => if k = (m, w) then some l else none
      | none => none
    let s := if s.fry.latch.isSome && held.isNone then s.latchDrop else s
    let l := held.getD []
    let x := bits v.toNat 0 18
    if slot < 3 then s.modFry fun y => { y with latch := some ((m, w), (slot, x) :: l.filter (·.1 != slot)) }
    else
      let q := l.foldl (fun a p => a + p.2 * 2 ^ (18 * p.1)) (x * 2 ^ 54)
      let s := s.modFry fun y => { y with latch := none }
      if m = 2 then s.memWrite 2 w (BitVec.ofNat 72 q)
      else s.modDock m fun x => { x with queue := x.queue ++ [⟨21, w / 8, .put w (BitVec.ofNat 72 q), true⟩] }

/-! ### Abort, link loss, power-down (R495, R502, R504) -/

/-- An abort reaches ring r: nothing new is issued and its flights are cut (R495). -/
def State.ringAbort (s : State) (r : Nat) : State :=
  if s.ringState r == 1 then
    let ty := s.ringType r
    let fr := (Config.freeWord s.free).toNat
    let n := (s.ring r).flights.length
    let s := ({ s with free := s.free + 1 }).unstage r
    let s := s.modRing r fun x =>
      { x with flights := x.flights.map fun f => { (f.cut 1 fr ty) with code := 1 } }
    s.modFry fun x => { x with aborted := x.aborted + n }
  else s

/-- The Ferry at the abort instant (R495). -/
def State.ferryAbort (s : State) : State :=
  let s := foldS State.ringAbort (List.range 8) (s.modFry fun x => { x with aborted := 0 })
  let isB2 := fun (b : Burst) => b.client == 21
  let s := s.cond (!s.fry.reads.isEmpty) fun s => (s.modFry fun x => { x with reads := [], bar2 := .ca }).aerAbort
  ((s.dockDrop 0 isB2).dockDrop 1 isB2).latchDrop

/-- Write the records of all flights of ring r that are ready, oldest first. -/
def State.flushRing (s : State) (r : Nat) : Nat → State
  | 0 => s
  | fuel + 1 =>
    match (s.ring r).flights with
    | f :: _ => if f.ready then (s.completeFlight r).flushRing r fuel else s
    | [] => s

/-- The ABORT record of an abort is written (R495). -/
def State.abortRecord (s : State) (t0 : TideNo) : State :=
  let a := s.regN FRY_ABREC_LO + s.regN FRY_ABREC_HI * 2 ^ 32
  if a = 0 ∨ !s.on .host then s
  else
    let abrec : CplRec :=
      { addr := a, tag := s.regN CMD_ABORT_CNT, bytes := 0, info := s.fry.aborted, tide := t0.toNat, code := 1,
        ring := 0, irq := false, index := 0, phase := true, aux := 0 }
    s.modFry fun x => { x with lastData := [], lastRec := some abrec }

/-- Every RUNNING ring is HALTED and gives up what it fetched (R495). -/
def State.haltRing (s : State) (r : Nat) : State :=
  if s.ringState r == 1 then
    ((s.readsBack r).setRingState r 3).modRing r fun x => { x with fetched := [] }
  else s

/-- By 4.5 µs the records of the abort are written, with the ABORT record, and RUNNING rings are HALTED (R495); where
SCLK is gated the records wait for it (R166). -/
def State.ferryAbortDone (s : State) (t0 : TideNo) : State :=
  let flush := fun (s : State) (r : Nat) => if s.ringState r == 1 then s.flushRing r ((s.ring r).flights.length) else s
  if s.lhs == 3 then (foldS State.haltRing (List.range 8) (foldS flush (List.range 8) s)).abortRecord t0
  else (foldS State.haltRing (List.range 8) s).modFry fun x => { x with abrec := some t0 }

/-- SCLK resumes: an ABORT record that waited is written ahead of every other one (R166). -/
def State.abortResume (s : State) : State :=
  match s.fry.abrec with
  | none => s
  | some t0 =>
    let s := (s.abortRecord t0).modFry fun x => { x with abrec := none }
    foldS (fun s r => if s.ringState r == 3 then s.flushRing r ((s.ring r).flights.length) else s) (List.range 8) s

/-- The link goes down: every ring that is not STOPPED or FAULTED faults with cause LINK, and what is in flight is lost (R502). -/
def State.ringLink (s : State) (r : Nat) : State :=
  if s.ringState r != 0 && s.ringState r != 4 then (s.dropFlights r).ringFault r causeLink else s

/-- Stop ring r at once, without records (R504). -/
def State.ringKill (s : State) (r : Nat) : State :=
  ((s.unstage r).modRing r fun _ => RingSt.reset).setRingState r 0

end Sys2Proof.Machine
end

