-- ==== Sys2Proof/Machine/Capture.lean ====
section
/-! DEFINITION. Capture groups, segments, streams, the Manifest and the Watermark (R261 to R305). -/

namespace Sys2Proof.Machine

/-- Group g beside its registers. -/
def State.grp (s : State) (g : Nat) : GrpSt := vget s.acq.grps g

/-- The state of group g (R264): 0 IDLE, 1 ARMED_FILLING, 2 ARMED_READY, 3 CAPTURING, 4 STREAMING, 5 CLOSING. -/
def State.grpState (s : State) (g : Nat) : Nat := s.fld (ACQ_G_STAT g) 0 3

/-- Put group g into a state, with ACQ_STAT (R291). -/
def State.setGrp (s : State) (g v : Nat) : State :=
  ((s.setFld (ACQ_G_STAT g) 0 3 v).setBit ACQ_STAT g (1 ≤ v && v ≤ 3)).setBit ACQ_STAT (8 + g) (v == 4)

/-- Group g is armed or streaming (R264). -/
def State.grpBusy (s : State) (g : Nat) : Bool := 1 ≤ s.grpState g && s.grpState g ≤ 4
def State.anyArmed (s : State) : Bool := (List.range 8).any fun g => 1 ≤ s.grpState g && s.grpState g ≤ 3
def State.anyCapture (s : State) : Bool := (List.range 8).any s.grpBusy

/-- The END codes of ACQ_G_STAT. -/
def endCount : Nat := 1
def endFull : Nat := 2
def endDisarm : Nat := 3
def endStop : Nat := 4
def endClock : Nat := 5
def endPower : Nat := 6
def endAbort : Nat := 7

/-! ### Arming and starting (R262, R265 to R267) -/

/-- The conditions of R262 for a non-empty CHMASK. -/
def State.grpMatched (s : State) (g : Nat) : Bool :=
  let cs := s.chans g
  let c0 := cs.headD 0
  cs.isEmpty || (cs.all (fun c => s.running c && s.kOf c == s.kOf c0 && s.t0 c == s.t0 c0) &&
    cs.contains (s.fld (PLT_ENG_CFG g) 24 3))

/-- The domain, clock and training checks of R266. -/
def State.grpNeeds (s : State) (g : Nat) : Except Nat Unit := do
  let ext := s.grpMem g != 2 && !s.bit (ACQ_G_CFG g) 0
  needDoms s (if ext then [.acq, .dock] else [.acq])
  need (s.lha == 3) 401
  if ext then need (s.dckState (s.grpMem g) == 3) 402

/-- Engine g would put the Pilot lane into use while that lane is under calibration (R357). -/
def State.pilotWaits (s : State) (g : Nat) : Bool := s.bit (PLT_ENG_CFG g) 0 && s.bit TLY_STAT 12

/-- The checks of an arm (R266). -/
def State.armCheck (s : State) (g : Nat) : Except Nat Unit := do
  s.grpNeeds g
  need (s.grpState g == 0 && !s.bit (ACQ_G_CFG g) 0 && s.grpMatched g) 203
  need (!(s.chans g).isEmpty && s.recs g != 0) 105
  need (!s.pilotWaits g) 303

/-- The lowest-numbered ring of a type that is not STOPPED and has GROUPS bit g (R478). -/
def State.ringFor (s : State) (ty g : Nat) : Option Nat :=
  (List.range 8).find? fun r => s.ringType r == ty && s.ringState r != 0 && s.bit (FRY_R_CFG r) (8 + g)

/-- The checks of a stream start (R266). -/
def State.startCheck (s : State) (g : Nat) : Except Nat Unit := do
  s.grpNeeds g
  need (s.grpState g == 0 && s.bit (ACQ_G_CFG g) 0 && s.grpMatched g &&
    (s.ringFor 0 g).isSome && (s.ringFor 1 g).isSome) 203
  need (!(s.chans g).isEmpty) 105
  need (!s.pilotWaits g) 303

/-- The first sample at or after an instant, as a multiple of 4 (R267). -/
def State.sampleAfter (s : State) (ch : Nat) (t : Nat) : Nat :=
  let d := (t + 2 ^ 72 - s.t0 ch) % 2 ^ 72
  let d := if d < 2 ^ 71 then d else 0
  4 * ceilDiv (ceilDiv (d * s.kOf ch * s.fcw) (5 * 2 ^ 60)) 4

/-- Group g begins at sample a0 with nothing held. -/
def GrpSt.begun (a0 : Nat) : GrpSt :=
  { GrpSt.reset with a0 := a0, base := a0 / 4, rawBase := .replicate 8 a0, ePrev := (a0 : Int) - 1, first := true }

/-- Arm group g (R267, R269, R273, R291). -/
def State.arm (s : State) (g : Nat) : State :=
  let a0 := s.sampleAfter ((s.chans g).headD 0) (s.now.toNat + twentyNs)
  let r := a0 + s.pre g
  let s := s.modGrp g fun x => { GrpSt.begun a0 with r := r, markNo := x.markNo, mring := x.mring, waitMarks := x.waitMarks }
  (((s.setGrp g 1).setRegN (ACQ_G_SEGS g) 0).setReg72 (ACQ_G_DEADSUM_Q0 g) 0).setRegN (ACQ_G_NEXTREC g) 0

/-! ### Mark records (R286, R287) -/

/-- The four words of a mark record. -/
def markRec (g ty : Nat) (stamp : Quay) (first frac src : Nat) (coarse collide : Bool) (cause count : Nat)
    (tide : TideNo) : List Quay :=
  [stamp,
   BitVec.ofNat 72 (first % 2 ^ 48 + frac * 2 ^ 48),
   BitVec.ofNat 72 (g + ty * 2 ^ 3 + src * 2 ^ 6 + b2n coarse * 2 ^ 13 + b2n collide * 2 ^ 14 + cause * 2 ^ 15 +
     count % 2 ^ 32 * 2 ^ 18),
   BitVec.ofNat 72 tide.toNat]

/-- Queue a START, GAP or STOP record of group g, which is never dropped (R287). -/
def State.queueMark (s : State) (g : Nat) (m : List Quay) : State :=
  (refillMarks 1 (s.modGrp g fun x => { x with waitMarks := x.waitMarks ++ [m] })).ringFill (s.grp g).mring

/-- Queue a MARK record, or drop and count it where the queue is full (R287). -/
def State.queueTrig (s : State) (g : Nat) (m : List Quay) : State :=
  if s.acq.marks.length < 256 then
    { s with acq := { s.acq with marks := s.acq.marks ++ [(g, m)] } }.ringFill (s.grp g).mring
  else s.count (ACQ_G_MARKLOST g) 1

/-- The stamp of raw sample i of group g with fraction as R203 gives it. -/
def State.grpStamp (s : State) (g i : Nat) : Quay := BitVec.ofNat 72 (s.stampAt ((s.chans g).headD 0) i)

/-- A START, GAP or STOP record: the stamp is that of sample FIRST with fraction zero (R286). -/
def State.endMark (s : State) (g ty first cause count : Nat) : State :=
  let st := BitVec.ofNat 72 ((s.grpStamp g first).toNat / 65536 * 65536)
  s.queueMark g (markRec g ty st first 0 0 false false cause count s.tide.number)

/-- Start stream group g (R265, R267, R286, R478). -/
def State.streamStart (s : State) (g : Nat) : State :=
  let a0 := s.sampleAfter ((s.chans g).headD 0) (s.now.toNat + twentyNs)
  let sr := (s.ringFor 0 g).getD 0
  let mr := (s.ringFor 1 g).getD 0
  let s := s.modGrp g fun x =>
    { GrpSt.begun a0 with sring := sr, mring := mr, markNo := x.markNo, waitMarks := x.waitMarks, base := if s.bit (ACQ_G_CFG g) 3 then 0 else a0 / 4 }
  (s.setGrp g 4).endMark g 0 a0 0 0

/-! ### Segments (R268 to R279) -/

/-- The dead time (r - e_prev) × T_s, rounded to nearest (R270). -/
def State.deadTime (s : State) (g : Nat) (samples : Nat) : Nat :=
  let d := s.kGrp g * s.fcw
  (2 * (samples * (5 * 2 ^ 60)) + d) / (2 * d)

/-- Drop held words before index j. -/
def GrpSt.dropTo (x : GrpSt) (j : Nat) : GrpSt :=
  if j ≤ x.base then x else { x with base := j, held := x.held.map fun l => l.drop (j - x.base) }

/-- The word address of segment x's record of group g (R272). -/
def State.recAddr (s : State) (g : Nat) (x : Seg) : Nat := s.regN (ACQ_G_BASE g) + x.recNo * s.recLen g

/-- Let the body words that every channel has given leave the capture engine, in interleaved order (R263, R274). -/
def State.emitBody (s : State) (g : Nat) : Nat → State
  | 0 => s
  | fuel + 1 =>
    let x := s.grp g
    let cs := s.chans g
    match x.seg with
    | none => s
    | some sg =>
      if 4 * x.base ≤ sg.e && cs.all fun c => !(vget x.held c).isEmpty then
        let ws := cs.map fun c => (vget x.held c).headD 0
        let a := s.recAddr g sg + 8 + sg.body.length
        let m := s.grpMem g
        let s := if m = 2 then (s.memWrites 2 a ws).histBody g sg sg.body.length ws else s.dockPut m g sg.seq a ws
        let s := s.modGrp g fun y =>
          { y.dropTo (y.base + 1) with seg := some { sg with body := sg.body ++ ws } }
        s.emitBody g fuel
      else s

/-- Count a rejected record (R271). -/
def State.rejectRec (s : State) (g : Nat) (busy : Bool) : State :=
  (s.modGrp g fun x =>
    { x with rejDead := if busy then x.rejDead else satAdd 0xFFFFFFFF x.rejDead 1,
             rejBusy := if busy then satAdd 0xFFFFFFFF x.rejBusy 1 else x.rejBusy }).count (ACQ_G_REJ g) 1

/-- Take a trigger record as group g's next segment (R268 to R273, R276, R279). -/
def State.takeSeg (s : State) (g : Nat) (t : TrigRec) : State :=
  let x := s.grp g
  let p := s.pre g
  let st := 4 * ((t.i - p) / 4)
  let dt := s.deadTime g (((x.r : Int) - x.ePrev).toNat)
  let n := s.regN (ACQ_G_NEXTREC g)
  let nx := if s.bit (ACQ_G_CFG g) 2 then (n + 1) % max 1 (s.recs g) else n + 1
  let sg : Seg := { trig := t, s := st, e := st + p + s.post g - 1, seq := s.reg MAN_SEQ, recNo := n, dt := dt,
                    rejDead := x.rejDead, rejBusy := x.rejBusy, first := x.first, degraded := s.bit TIM_STAT 1,
                    memerr := false, body := [], fin := 0,
                    maps := (List.range 2).filter fun m => (vget s.maps m).taking, man := 0 }
  let s := s.bump MAN_SEQ 1
  let s := s.modGrp g fun y =>
    { y.dropTo (st / 4) with seg := some sg, rejDead := 0, rejBusy := 0, first := false, taken := y.taken + 1 }
  let s := s.setReg72 (ACQ_G_DEADSUM_Q0 g) (s.reg72 (ACQ_G_DEADSUM_Q0 g) + BitVec.ofNat 72 dt)
  ((s.setRegN (ACQ_G_NEXTREC g) nx).setGrp g 3).emitBody g ((p + s.post g) / 4)

/-- A stream group takes a trigger record: its slot is marked and a MARK record queued (R283, R286). -/
def State.takeMark (s : State) (g : Nat) (t : TrigRec) : State :=
  let n := (s.grp g).markNo + 1
  let m := if t.f < 32768 then t.i else t.i + 1
  (s.modGrp g fun x => { x with markNo := n, marksAt := m :: x.marksAt }).queueTrig g
    (markRec g 1 t.ts t.i t.f t.src t.coarse t.collide 0 (n - 1).toNat s.tide.number)

/-- Group g receives a trigger record (R246, R269, R271, R283, R293). -/
def State.giveRecord (s : State) (g : Nat) (t : TrigRec) : State :=
  let x := s.grp g
  match s.grpState g with
  | 1 => if x.r ≤ t.i then s.takeSeg g t else s.rejectRec g false
  | 2 => if x.r ≤ t.i then s.takeSeg g t else s.rejectRec g false
  | 3 => s.rejectRec g true
  | 4 => if x.a0 ≤ t.i then s.takeMark g t else s
  | _ => s

/-- STATUS of a segment (R277). -/
def State.segStatus (s : State) (g : Nat) (x : Seg) : Nat :=
  let full := (s.chans g).length * (s.pre g + s.post g) / 4
  x.fin + b2n (x.body.length < full) * 4 + b2n x.trig.coarse * 8 + b2n x.trig.collide * 16 +
  b2n (x.body.any fun w => (wordSlots w).any (·.ovr)) * 32 + b2n x.first * 64 + b2n x.degraded * 128 + b2n x.memerr * 256

/-- The eight header words (R276, R278), with directory index di. -/
def State.header (s : State) (g : Nat) (x : Seg) (di : Nat) : List Quay :=
  let q := BitVec.ofNat 72
  let p := s.pre g
  let a := s.recAddr g x + 8
  let ws := [x.trig.ts, q (x.trig.f + x.trig.i % 2 ^ 48 * 2 ^ 16 + x.trig.src * 2 ^ 64), q x.dt,
    q (x.rejDead + x.rejBusy * 2 ^ 32), q (x.seq.toNat + di * 2 ^ 32),
    q (a % 2 ^ 32 + s.grpMem g * 2 ^ 32 + x.body.length * 2 ^ 34 + g * 2 ^ 66),
    q (crcWords x.body + (p + (x.trig.i - p) % 4) * 2 ^ 32 + s.fld (ACQ_G_CFG g) 8 8 * 2 ^ 64)]
  let st := s.segStatus g x
  let h := crc32c (ws.flatMap quayBytes ++ [st % 256, st / 256, 0, 0])
  ws ++ [q (st + h * 2 ^ 32)]

/-- The next ready sample after a segment that ends at sample e (R269). -/
def State.nextReady (s : State) (g e : Nat) : Nat :=
  let k := s.kGrp g
  if s.bit (ACQ_G_CFG g) 1 then e + 1 + max (s.pre g) (s.nra k) else e + 1 + s.nrw k + s.pre g

/-- Sample e of group g's segment is taken (R268, R269, R273, R275, R294). -/
def State.captureEnd (s : State) (g : Nat) : State :=
  match (s.grp g).seg with
  | none => s
  | some sg =>
    if s.grpState g == 3 && sg.e < 4 * (s.grp g).base then
      let x := s.grp g
      let cnt := s.regN (ACQ_G_COUNT g)
      let linear := !s.bit (ACQ_G_CFG g) 2
      let fin := if linear && s.recs g ≤ x.taken then endFull
        else if cnt != 0 && cnt ≤ x.taken then endCount
        else if x.disarm then endDisarm else 0
      let s := if s.grpMem g = 2 then s else s.dockClose (s.grpMem g) g sg.seq
      let s := s.modGrp g fun y =>
        { y with seg := none, await := y.await ++ [sg], ePrev := sg.e, r := s.nextReady g sg.e, close := fin,
                 endAt := if fin = 0 then none else some s.tide.tb }
      s.setGrp g (if fin = 0 then 1 else 5)
    else s

/-- Write a directory entry (R280). -/
def State.dirEntry (s : State) (g : Nat) (hdr : Nat) (x : Seg) : State :=
  let n := s.regN MAN_DIR_NEXT
  let ent := hdr % 2 ^ 32 + s.grpMem g * 2 ^ 32 + g * 2 ^ 34 + x.fin * 2 ^ 37 + x.seq.toNat * 2 ^ 40
  let s := s.memWrite s.dirMem (s.regN MAN_DIR_BASE + n) (BitVec.ofNat 72 ent)
  if n + 1 < s.fld MAN_DIR_LEN 0 25 then s.setRegN MAN_DIR_NEXT (n + 1)
  else (s.setRegN MAN_DIR_NEXT 0).bump MAN_DIR_WRAPS 1

/-- The oldest segment of group g awaiting its header has its body in memory, and no ALERT_N can find a burst of it bad (R346). -/
def State.bodyWritten (s : State) (g : Nat) : Bool :=
  match (s.grp g).await with
  | [] => false
  | x :: _ => s.grpMem g == 2 || (s.dockWaiting (s.grpMem g) g x.seq == 0 && !s.dockAir (s.grpMem g) g x.seq)

/-- The Dock bursts of the Manifest for a segment, as channel and burst address (R334): one or two of its header, one of its
directory entry. -/
def State.manBursts (s : State) (g : Nat) (x : Seg) : List (Nat × Nat) :=
  let a := s.recAddr g x
  let m := s.grpMem g
  let head := if m < 2 then (if a % 8 = 0 then [(m, a / 8)] else [(m, a / 8), (m, a / 8 + 1)]) else []
  head ++ if s.dirMem < 2 then [(s.dirMem, (s.regN MAN_DIR_BASE + s.regN MAN_DIR_NEXT) / 8)] else []

/-- The header and directory entry of group g's oldest segment are written (R274, R276, R280, R291). -/
def State.writeHeader (s : State) (g : Nat) (x : Seg) : State :=
  let hdr := s.recAddr g x
  let s := s.memWrites (s.grpMem g) hdr (s.header g x (s.regN MAN_DIR_NEXT))
  let s := s.dirEntry g hdr x
  let s := s.modGrp g fun y => { y with await := y.await.drop 1 }
  ((s.bump (ACQ_G_SEGS g) 1).flag ACQ_EVT g).raise (16 + g)

/-- Group g enters IDLE with an END (R291, R297). -/
def State.goIdle (s : State) (g fin : Nat) : State :=
  let s := (s.setGrp g 0).setFld (ACQ_G_STAT g) 4 3 fin
  (((s.flag ACQ_EVT (8 + g)).raise 5).notify .acq 6 [.dec g])

/-- Disarm group g (R275). -/
def State.disarmCheck (s : State) (g : Nat) : Except Nat Unit := do
  needA s .acq
  need (1 ≤ s.grpState g && s.grpState g ≤ 3) 203

def State.disarmGrp (s : State) (g : Nat) : State :=
  if s.grpState g = 3 then s.modGrp g fun x => { x with disarm := true }
  else
    let s := s.modGrp g fun x => { x with close := endDisarm, endAt := some s.tide.tb }
    if (s.grp g).await.isEmpty then s.goIdle g endDisarm else s.setGrp g 5

/-! ### Streams (R282 to R288, R300 to R304) -/

/-- The group goes through the Watermark (R282). -/
def State.wmark (s : State) (g : Nat) : Bool := s.bit (ACQ_G_CFG g) 3

/-- Interval length D and mode of decimator g (R300, R301). -/
def State.wmkD (s : State) (g : Nat) : Nat := s.fld (WMK_G_D g) 0 25
def State.wmkMode (s : State) (g : Nat) : Nat := s.fld (WMK_G_CFG g) 0 2

/-- Output slots of one interval (R301). -/
def State.wmkSlots (s : State) (g : Nat) : Nat := if s.wmkMode g = 0 then 2 else 1

/-- The first raw sample of the word of index w that the group delivers (R286, R303). -/
def State.rawFirst (s : State) (g w : Nat) : Nat :=
  if s.wmark g then (s.grp g).a0 + 4 * w / s.wmkSlots g * s.wmkD g else 4 * w

/-- Staging buffers of group g in use (R284, R481). -/
def State.staged (s : State) (g : Nat) : Nat :=
  (s.acq.offered.filter (·.group == g)).length + b2n ((s.grp g).cur == some true) +
  ((List.range 8).foldl (fun n r => n + ((s.ring r).flights.filter fun f => match f.block with
    | some b => f.code == 0 && b.group == g
    | none => false).length) 0)

/-- The pending GAP record of group g is queued (R285, R286). -/
def State.queueGap (s : State) (g cause : Nat) : State :=
  match (s.grp g).gap with
  | none => s
  | some (first, n) => (s.modGrp g fun x => { x with gap := none }).endMark g 2 first cause (min n 0xFFFFFFFF)

/-- A GAP record of dropped blocks. -/
def isGap (m : List Quay) : Bool := bits (m.getD 2 0).toNat 3 3 == 2 && bits (m.getD 2 0).toNat 15 3 == 0

/-- Such a record with one more block in its COUNT. -/
def gapPlus (m : List Quay) : List Quay :=
  let w := (m.getD 2 0).toNat
  m.set 2 (BitVec.ofNat 72 (putBits w 18 32 (satAdd 0xFFFFFFFF (bits w 18 32) 1)))

/-- One more block of group g is dropped (R285): it counts in the pending GAP record, which may wait for the queue (R287). -/
def GrpSt.dropBlock (x : GrpSt) (first : Nat) : GrpSt :=
  if x.waitMarks.any isGap then { x with cur := some false, waitMarks := x.waitMarks.map fun m => if isGap m then gapPlus m else m }
  else
    { x with
      cur := some false
      gap := match x.gap with
        | some (f, n) => some (f, n + 1)
        | none => some (first, 1) }

/-- A block of group g is to begin (R284, R285). -/
def State.blockBegin (s : State) (g : Nat) : State :=
  let x := s.grp g
  if (s.grpState g == 4 || (s.grpState g == 5 && x.stopAt.isSome)) && x.cur.isNone then
    if s.staged g < s.fld (ACQ_G_CFG g) 20 4 then
      (s.queueGap g 0).modGrp g fun x => { x with cur := some true }
    else
      let first := s.rawFirst g x.base
      ((s.modGrp g (·.dropBlock first)).count (ACQ_G_DROP g) 1).flag ACQ_EVT (16 + g)
  else s

/-- A word with the marks that fall in it set (R283): slot i of word w is raw sample 4w + i. -/
def markWord (marks : List Nat) (w : Nat) (q : Quay) : Quay :=
  slotsWord ((wordSlots q).mapIdx fun i x => { x with mark := x.mark || marks.contains (4 * w + i) })

/-- Take n words per channel from what group g holds, in interleaved order, with RAW marks set. -/
def State.takeWords (s : State) (g n : Nat) : List Quay :=
  let x := s.grp g
  let ms := if s.wmark g then [] else x.marksAt
  (List.range n).flatMap fun j => (s.chans g).map fun c => markWord ms (x.base + j) ((vget x.held c).getD j 0)

/-- The words every channel of group g holds. -/
def State.heldAll (s : State) (g : Nat) : Nat :=
  match s.chans g with
  | [] => 0
  | c :: cs => cs.foldl (fun n c => min n (vget (s.grp g).held c).length) (vget (s.grp g).held c).length

/-- The staged blocks with one more: blocks offered on one edge lie in ascending group order (R481). -/
def offerBlock (bs : List Block) (b : Block) : List Block :=
  let after := fun (x : Block) => x.at_ == b.at_ && b.group < x.group
  bs.filter (!after ·) ++ b :: bs.filter after

/-- Group g's block ends with n words per channel: offered where it is staged (R284). -/
def State.blockEnd (s : State) (g n : Nat) (short : Bool) : State :=
  let x := s.grp g
  let s := if x.cur = some true ∧ 0 < n then
      { s with acq := { s.acq with offered := offerBlock s.acq.offered ⟨g, x.blockNo, s.takeWords g n, short, s.tide.tb⟩ } }
    else s
  s.modGrp g fun y =>
    { y.dropTo (y.base + n) with cur := none, blockNo := y.blockNo + 1,
                                 marksAt := y.marksAt.filter fun m => s.wmark g || 4 * (y.base + n) ≤ m }

/-- A block's last word leaves the capture engine (R284). -/
def State.blockComplete (s : State) (g : Nat) : State :=
  if (s.grp g).cur.isSome && s.blkLen g ≤ s.heldAll g then s.blockEnd g (s.blkLen g) false else s

/-- The output slots of an interval (R301). -/
def wmkOut (mode : Nat) (ys : List Slot) : List Slot :=
  let ovr := ys.any (·.ovr)
  let mk := ys.any (·.mark)
  let v0 := (ys.headD ⟨0, false, false⟩).v
  match mode with
  | 0 =>
    [⟨ys.foldl (fun a y => min a y.v) v0, ovr, mk⟩, ⟨ys.foldl (fun a y => max a y.v) v0, ovr, false⟩]
  | 1 => [⟨roundDiv (ys.foldl (fun a y => a + y.v) 0) ys.length, ovr, mk⟩]
  | _ => [⟨v0, ovr, mk⟩]

/-- Pack output slots four to a word into the group's staging (R302). -/
def GrpSt.pack (x : GrpSt) (c : Nat) : Nat → GrpSt
  | 0 => x
  | fuel + 1 =>
    let o := vget x.outs c
    if 4 ≤ o.length then
      ({ x with outs := vset x.outs c (o.drop 4), held := vmod x.held c (· ++ [slotsWord (o.take 4)]) }).pack c fuel
    else x

/-- A Watermark interval of channel c of group g ends (R301, R302). -/
def State.interval (s : State) (g c : Nat) : State :=
  let x := s.grp g
  let d := s.wmkD g
  let raw := vget x.raw c
  if (s.grpState g == 4 || (s.grpState g == 5 && x.stopAt.isSome)) && s.wmark g && 0 < d && d ≤ raw.length then
    let b := vget x.rawBase c
    let ys := (raw.take d).mapIdx fun i y => { y with mark := y.mark || x.marksAt.contains (b + i) }
    s.modGrp g fun y =>
      ({ y with raw := vset y.raw c (raw.drop d), rawBase := vset y.rawBase c (b + d),
                outs := vmod y.outs c (· ++ wmkOut (s.wmkMode g) ys) }).pack c 2
  else s

/-- The checks of a stream stop (R265, R266). -/
def State.stopCheck (s : State) (g : Nat) : Except Nat Unit := do
  needA s .acq
  need (s.grpState g == 4) 203

/-- Stop stream group g: words whose slot-3 sample was taken by now are still delivered (R288). -/
def State.streamStop (s : State) (g : Nat) : State :=
  let w := s.samplesBy ((s.chans g).headD 0) s.now.toNat / 4
  (s.modGrp g fun x => { x with stopAt := some (max w (x.a0 / 4)), close := endStop, endAt := some s.tide.tb }).setGrp g 5

/-- All raw words a stopping stream delivers have been handed over, or will not be as their channel has stopped, and every
whole interval is formed. -/
def State.stopReady (s : State) (g w : Nat) : Bool :=
  let x := s.grp g
  (s.chans g).all fun c => (w ≤ (vget s.brt.chans c).idx / 4 || !s.running c) && (!s.wmark g || (vget x.raw c).length < max 1 (s.wmkD g))

/-- The words in staging that a closing stream delivers: whole words, and for a WMARK group an incomplete output word
padded with slots that carry OVR (R304). -/
def State.padOuts (s : State) (g : Nat) : State :=
  if s.wmark g then
    s.modGrp g fun x =>
      (s.chans g).foldl (fun x c =>
        let o := vget x.outs c
        if o.isEmpty then x
        else { x with outs := vset x.outs c [],
                      held := vmod x.held c (· ++ [slotsWord (o ++ List.replicate (4 - o.length) ⟨0, true, false⟩)]) }) x
  else s

/-- The first raw sample a closing stream does not deliver (R286, R304). -/
def State.endFirst (s : State) (g : Nat) : Nat :=
  let x := s.grp g
  let c := (s.chans g).headD 0
  if s.wmark g then vget x.rawBase c else 4 * (x.base + s.heldAll g)

/-- A stream group that ends offers its last block, shortened to the words it holds, and owes its pending GAP, a GAP of the end
itself where it has a cause other than STOP, and a STOP (R288, R297). -/
def State.streamCut (s : State) (g : Nat) (cut : Bool) : State :=
  let first := s.endFirst g
  let of := fun (ty first count : Nat) (host : Bool) =>
    (⟨ty, first, BitVec.ofNat 72 ((s.grpStamp g first).toNat / 65536 * 65536), count, host⟩ : OwedMark)
  let gap := match (s.grp g).gap with
    | some (f, n) => [of 2 f (min n 0xFFFFFFFF) true]
    | none => []
  let s := s.padOuts g
  (s.blockEnd g (s.heldAll g) true).modGrp g fun x =>
    { x with gap := none, owed := gap ++ (if cut then [of 2 first 0 false] else []) ++ [of 3 first 0 false] }

/-- The records group g owes are formed, with the CAUSE of its END (R286, R296). -/
def State.formEnds (s : State) (g fin : Nat) : State :=
  (s.grp g).owed.foldl (fun s m => s.queueMark g
    (markRec g m.ty m.stamp m.first 0 0 false false (if m.host then 0 else fin - 4) m.count s.tide.number))
    (s.modGrp g fun x => { x with owed := [] })

/-- Some group owes records that can be formed: SCLK runs (R297). -/
def State.endsDue (s : State) : Bool := s.lhs == 3 && (List.range 8).any fun g => !(s.grp g).owed.isEmpty

/-- Every group forms the records it owes, where SCLK runs (R297). -/
def State.endsForm (s : State) : State :=
  if s.endsDue then foldS (fun s g => s.formEnds g (s.grp g).close) (List.range 8) s else s

/-- The last block, GAP and STOP of a stream group that stops (R288). -/
def State.streamEnd (s : State) (g fin : Nat) : State := (s.streamCut g false).formEnds g fin

/-! ### Words handed over (R204, R263, R282) -/

/-- Group g receives quay word j of channel c, as its slots. -/
def State.grpWord (s : State) (g c j : Nat) (ys : List Slot) : State :=
  let x := s.grp g
  let st := s.grpState g
  if !(s.chans g).contains c || 4 * j < x.a0 then s
  else if st = 1 ∨ st = 2 then
    let keep := ceilDiv (s.pre g) 4 + 64
    s.modGrp g fun x =>
      let x := { x with held := vmod x.held c (· ++ [slotsWord ys]) }
      if (s.chans g).all fun c => keep < (vget x.held c).length then x.dropTo (x.base + 1) else x
  else if st = 3 then
    (s.modGrp g fun x => { x with held := vmod x.held c (· ++ [slotsWord ys]) }).emitBody g 2
  else if st = 4 ∨ (st = 5 ∧ x.stopAt.any fun w => j < w) then
    if s.wmark g then s.modGrp g fun x => { x with raw := vmod x.raw c (· ++ ys) }
    else s.modGrp g fun x => { x with held := vmod x.held c (· ++ [slotsWord ys]) }
  else s

/-! ### Ends (R297) -/

/-- Of two causes found on one edge the first ranks before the second (R647): CLOCK_FAULT, POWER_DOWN, ABORTED, an own ending. -/
def outranks (fin old : Nat) : Bool := endClock ≤ fin && (old < endClock || fin < old)

/-- An armed or streaming group ends (R297): the open segment keeps the words written, a stream its whole words. -/
def State.cutGroup (s : State) (fin g : Nat) : State :=
  if s.grpState g = 4 || (s.grp g).stopAt.isSome then
    ((s.streamCut g true).modGrp g fun x => { x with close := fin, stopAt := none, endAt := some s.tide.tb }).setGrp g 5
  else
    let m := s.grpMem g
    let s := match (s.grp g).seg with
      | none => s
      | some sg =>
        let n := sg.body.length - (if m = 2 then 0 else s.dockWaiting m g sg.seq)
        let s := if m = 2 then s else s.dockDrop m fun b => b.client == g && match b.op with
          | .write sq _ _ => sq == sg.seq
          | _ => false
        s.modGrp g fun x => { x with seg := none, await := x.await ++ [{ sg with body := sg.body.take n, fin := fin - 4 }] }
    (s.modGrp g fun x => { x with close := fin, endAt := some s.tide.tb }).setGrp g 5

/-- A cause that ranks before the one the group has ended by on this edge takes its place (R296, R647). -/
def State.recause (s : State) (fin g : Nat) : State :=
  if s.grpState g = 5 then
    if (s.grp g).stopAt.isSome then s.cutGroup fin g
    else s.modGrp g fun x =>
      { x with close := fin, await := x.await.map fun y => if y.fin = 0 then y else { y with fin := fin - 4 } }
  else s.setFld (ACQ_G_STAT g) 4 3 fin

/-- A loss of lock, an abort or a power-down ends group g (R296, R297, R647); a stream group already stopping ends with the words
it holds. -/
def State.endGroup (s : State) (fin g : Nat) : State :=
  let st := s.grpState g
  let x := s.grp g
  if 1 ≤ st ∧ st ≤ 4 then s.cutGroup fin g
  else if x.endAt = some s.tide.tb && outranks fin (if st = 5 then x.close else s.fld (ACQ_G_STAT g) 4 3) then s.recause fin g
  else if st = 5 ∧ x.stopAt.isSome then (s.streamCut g false).modGrp g fun x => { x with stopAt := none }
  else s

/-- Every armed or streaming group ends (R297). -/
def State.endGroups (s : State) (fin : Nat) : State := foldS (fun s g => s.endGroup fin g) (List.range 8) s

/-- A CLOSING group has written its last header, GAP or STOP record (R297), which takes SCLK (R169). -/
def State.closeDone (s : State) (g : Nat) : State :=
  let x := s.grp g
  if s.grpState g = 5 && s.lhs == 3 then
    match x.stopAt with
    | some w => if s.stopReady g w then (s.streamEnd g x.close).goIdle g x.close else s
    | none => if x.await.isEmpty then (s.formEnds g x.close).goIdle g x.close else s
  else s

end Sys2Proof.Machine
end

