-- ==== Sys2Proof/Machine/Warehouse.lean ====
section
/-! DEFINITION. Memory regions and the quay-buffer budget (R289, R318), the sweeps of the histograms and the persistence maps
(R306 to R325). -/

namespace Sys2Proof.Machine

/-! ### Regions and the quay-buffer budget -/

/-- A region: memory, first word, words. -/
abbrev Region := Nat × Nat × Nat

/-- The region of a capture group in SEGMENT mode (R272), of the directory (R280), of a histogram (R309) and of a
map (R314). -/
def State.grpRegion (s : State) (g : Nat) : Region :=
  (s.grpMem g, s.regN (ACQ_G_BASE g), if s.bit (ACQ_G_CFG g) 0 then 0 else s.regN (ACQ_G_SIZE g))
def State.dirRegion (s : State) : Region := (s.dirMem, s.regN MAN_DIR_BASE, s.fld MAN_DIR_LEN 0 25)
def State.histRegion (s : State) (h : Nat) : Region := (s.histMem h, s.regN (WHS_H_BASE h), s.bins h + 8)
def State.cols (s : State) (m : Nat) : Nat := s.fld (WHS_M_SIZE m) 0 13
def State.rows (s : State) (m : Nat) : Nat := 2 ^ s.fld (WHS_M_SIZE m) 16 4
def State.mapMem (s : State) (m : Nat) : Nat := s.fld (WHS_M_CFG m) 8 2
def State.mapRegion (s : State) (m : Nat) : Region := (s.mapMem m, s.regN (WHS_M_BASE m), s.cols m * s.rows m / 4)

/-- Two regions share a word. -/
def overlap (a b : Region) : Bool :=
  a.1 == b.1 && 0 < a.2.2 && 0 < b.2.2 && a.2.1 < b.2.1 + b.2.2 && b.2.1 < a.2.1 + a.2.2

/-- Every region in force: groups, directory, and the Warehouse regions held (R289, R318). -/
def State.regions (s : State) : List Region :=
  (List.range 8).map s.grpRegion ++ [s.dirRegion] ++
  ((List.range 8).filter fun h => (vget s.hists h).held).map s.histRegion ++
  ((List.range 2).filter fun m => (vget s.maps m).held).map s.mapRegion

/-- No two regions of a list overlap. -/
def disjointRegions : List Region → Bool
  | [] => true
  | a :: t => t.all (fun b => !overlap a b) && disjointRegions t

/-- The words of a memory that exist: 0 for a channel that is not populated (R326, R341). -/
def State.populated (s : State) (m : Nat) : Nat := if m == 2 || s.bit (DCK_CH_CFG m) 0 then s.memSize m else 0

/-- A region lies within its memory. -/
def State.regionFits (s : State) (r : Region) : Bool := r.2.2 == 0 || r.2.1 + r.2.2 ≤ s.populated r.1

/-- The quay-buffer words group g demands (R289). -/
def State.qbufGrp (s : State) (g : Nat) : Nat :=
  let c := (s.chans g).length
  if s.bit (ACQ_G_CFG g) 0 then s.fld (ACQ_G_CFG g) 20 4 * c * s.blkLen g
  else c * (ceilDiv (s.pre g) 4 + 64) + (if s.grpMem g = 2 then s.regN (ACQ_G_SIZE g) else 0)

/-- The quay-buffer words reserved (R289, R318). -/
def State.qbufUsed (s : State) : Nat :=
  ((List.range 8).map s.qbufGrp).foldl (· + ·) 0 + (if s.dirMem = 2 then s.fld MAN_DIR_LEN 0 25 else 0) +
  (((List.range 8).filter fun h => (vget s.hists h).held && s.histMem h == 2).map fun h => s.bins h + 8).foldl (· + ·) 0 +
  (((List.range 2).filter fun m => (vget s.maps m).held && s.mapMem m == 2).map fun m => s.cols m * s.rows m / 4).foldl (· + ·) 0

/-- The admission of a capture or directory configuration `cand` (R289): ER 203, then 105, then 301. -/
def State.admitCapture (cand : State) : Except Nat Unit := do
  need (disjointRegions cand.regions && cand.qbufUsed ≤ 524288) 203
  need ((List.range 8).all (fun g => cand.regionFits (cand.grpRegion g)) && cand.regionFits cand.dirRegion) 105
  cand.admitCal

/-! ### Histograms (R306 to R312) -/

/-- Partial bins reserved (R310, R320). -/
def State.binsUsed (s : State) : Nat :=
  (((List.range 8).filter fun h => (vget s.hists h).held).map s.bins).foldl (· + ·) 0

/-- The checks of a start common to histograms and maps (R318), with the region the start adds and the candidate it
makes. -/
def State.whsStartCheck (s cand : State) (mem : Nat) (reg : Region) (busy : Bool) : Except Nat Unit := do
  needDoms s (if mem != 2 then [.acq, .dock] else [.acq])
  need (s.lhs == 3) 401
  if mem != 2 then need (s.dckState mem == 3) 402
  need (!busy && disjointRegions cand.regions && cand.qbufUsed ≤ 524288) 203
  need (s.regionFits reg && (mem == 2 || reg.2.1 % 8 == 0)) 105
  cand.admitCal
  need (cand.binsUsed ≤ 131072) 302

/-- Histogram h starts (R308, R311). -/
def State.histStart (s : State) (h : Nat) (clear : Bool) : State :=
  let now := s.now
  let s := s.modHist h fun x =>
    { x with start := some now, stop := none, part := if clear then [] else x.part, sweep := none, clearNext := clear,
             flushReq := false, held := true }
  ((s.setFld (WHS_H_STAT h) 0 3 (1 + 2 * b2n clear)).setFld (WHS_H_STAT h) 4 3 0).setFld (WHS_H_CTRL h) 0 2 (1 + 2 * b2n clear)

/-- The candidate of a histogram start, for its charges. -/
def State.histCand (s : State) (h : Nat) : State := s.modHist h fun x => { x with held := true }

/-- The checks of a histogram start (R318). -/
def State.histStartCheck (s : State) (h : Nat) : Except Nat Unit :=
  s.whsStartCheck (s.histCand h) (s.histMem h) (s.histRegion h) (vget s.hists h).held

/-- The causes that end an accumulation, in the rank of R647: CLOCK_FAULT, POWER_DOWN, ABORTED. -/
def whsCauses : List Nat := [3, 4, 2]

/-- Histogram h stops with an END (R312, R324); on the edge on which it has stopped the cause of the higher rank stands (R647). -/
def State.histStop (s : State) (h fin : Nat) : State :=
  if s.bit (WHS_H_STAT h) 0 then
    let now := s.now
    let s := s.modHist h fun x => { x with stop := some now }
    ((s.setBit (WHS_H_STAT h) 0 false).setEnd (WHS_H_STAT h) fin).setBit (WHS_H_CTRL h) 0 false
  else s.reEnd whsCauses (WHS_H_STAT h) fin

/-- A flush is requested (R312). -/
def State.histFlush (s : State) (h : Nat) : State :=
  (s.modHist h fun x => { x with flushReq := true }).setBit (WHS_H_STAT h) 2 true

/-- A memory serves the Warehouse: SCLK runs, and ACQ is ON or drains (R324). -/
def State.sweepUp (s : State) (mem : Nat) : Bool :=
  (s.on .acq || s.dom .acq == 3) && s.lhs == 3 && (mem == 2 || s.memUp mem)

/-- Every sample histogram h counts up to its stop has come (R308, R312): its channel has handed them over, or its group has
written them. -/
def State.histFed (s : State) (h : Nat) : Bool :=
  let c := s.fld (WHS_H_CFG h) 0 4
  let g := s.fld (WHS_H_CFG h) 11 3
  match (vget s.hists h).stop with
  | none => true
  | some b =>
    8 ≤ c || ((!s.running c || s.samplesBy c (b.toNat + twentyNs - 1) ≤ (vget s.brt.chans c).idx) &&
      (!s.bit (WHS_H_CFG h) 10 || 2 ≤ s.grpMem g || (vget s.dock (s.grpMem g)).queue.all (·.client != g)))

/-- A flush sweep begins (R310 to R312). -/
def State.sweepStart (s : State) (h : Nat) : State :=
  let x := vget s.hists h
  if x.held && x.sweep.isNone && s.sweepUp (s.histMem h) && s.histFed h then
    let sw : Sweep :=
      { stamp := s.now, clearing := x.clearNext, flush := x.flushReq, fin := x.stop.isSome, done := 0, half := false }
    s.modHist h fun x => { x with sweep := some sw, clearNext := false, flushReq := false }
  else s

/-- The bursts of 8 words of histogram h's region. -/
def State.sweepLen (s : State) (h : Nat) : Nat := (s.bins h + 8) / 8

/-- The sweep of histogram h comes to burst j (R310, R311, R323): the partial counts of the words on the way are added to memory,
or replace what a clearing sweep finds there, and are zeroed. -/
def State.sweepTo (s : State) (h j : Nat) : State :=
  let x := vget s.hists h
  match x.sweep with
  | none => s
  | some sw =>
    let m := s.histMem h
    let b := s.regN (WHS_H_BASE h)
    let mine := fun (p : Nat × Nat) => 8 * sw.done ≤ p.1 && p.1 < 8 * j
    let s := if sw.clearing then s.memWrites m (b + 8 * sw.done) (List.replicate (8 * (j - sw.done)) 0) else s
    let s := (x.part.filter mine).foldl (fun s p => s.memWrite m (b + p.1) (s.memRead m (b + p.1) + BitVec.ofNat 72 p.2)) s
    s.modHist h fun x =>
      { x with part := x.part.filter fun p => !mine p, sweep := some { sw with done := max sw.done j, half := false } }

/-- A slot carries a burst of histogram h's sweep (R310): the read of the next burst, then its write; a clearing sweep only
writes. -/
def State.sweepBurst (s : State) (h : Nat) : State :=
  match (vget s.hists h).sweep with
  | none => s
  | some sw =>
    if sw.clearing || sw.half then s.sweepTo h (sw.done + 1)
    else s.modHist h fun x => { x with sweep := some { sw with half := true } }

/-- A sweep has completed (R310 to R312): the stamp of its start is written, or that of the stop edge for a final one. -/
def State.sweepEnd (s : State) (h : Nat) (sw : Sweep) : State :=
  let stamp := if sw.fin then (vget s.hists h).stop.getD sw.stamp else sw.stamp
  let s := s.memWrite (s.histMem h) (s.regN (WHS_H_BASE h) + s.bins h + 4) stamp
  let s := (s.modHist h fun x =>
    { x with sweep := none, held := !sw.fin, start := if sw.fin then none else x.start }).bump (WHS_H_SWEEPS h) 1
  let s := s.cond sw.clearing fun s => s.setBit (WHS_H_STAT h) 1 false
  let s := s.cond (sw.fin || (sw.flush && !(vget s.hists h).flushReq)) fun s => s.setBit (WHS_H_STAT h) 2 false
  s.cond (sw.fin || sw.flush) (·.flag WHS_EVT h)

/-- A flush sweep completes (R309 to R312): in a Dock channel once its last burst has gone, in the quay buffer with the bursts
that are left. -/
def State.sweepDone (s : State) (h : Nat) : State :=
  match (vget s.hists h).sweep with
  | none => s
  | some sw =>
    if s.histMem h = 2 then (if s.sweepUp 2 then (s.sweepTo h (s.sweepLen h)).sweepEnd h sw else s)
    else if s.sweepLen h ≤ sw.done then s.sweepEnd h sw
    else s

/-! ### Persistence maps (R313 to R317) -/

/-- The cells a segment hits on map m (R313), as y × COLS + x. -/
def State.mapCells (s : State) (m g : Nat) (x : Seg) : List Nat :=
  let cs := s.chans g
  let c := s.fld (WHS_M_CFG m) 4 3
  let p := s.pre g
  let n := p + s.post g
  let ofs := p + (x.trig.i - p) % 4
  let cols := s.cols m
  let ovrx := s.bit (WHS_M_CFG m) 7
  ((x.body.mapIdx fun k w => (k, w)).filter fun q => q.1 % cs.length == cs.idxOf c).flatMap fun q =>
    ((wordSlots q.2).mapIdx fun t y => (q.1 / cs.length * 4 + t, y)).filterMap fun r =>
      let num : Int := (((r.1 : Int) - ofs + p) * 65536 - x.trig.f) * cols
      let xx := num.fdiv (n * 65536)
      let yy := ((r.2.v + 32768) * (s.rows m : Int) / 65536).toNat
      if (ovrx && r.2.ovr) || xx < 0 || (cols : Int) ≤ xx then none else some (yy * cols + xx.toNat)

/-- A completed segment of group g is offered to map m (R313, R315, R316, R336); one without channel CH hits no cell. -/
def State.mapOffer (s : State) (g : Nat) (x : Seg) (m : Nat) : State :=
  if x.fin == 0 && x.maps.contains m && s.fld (WHS_M_CFG m) 0 3 == g && (vget s.maps m).held then
    let y := vget s.maps m
    let gap := 65536 * (500000000 / s.fld (WHS_M_RATE m) 0 20)
    let far := match y.last with
      | none => true
      | some l => gap ≤ (x.trig.ts - l).toNat
    if !s.bit (WHS_M_STAT m) 1 && far && y.hits.length < 2 then
      let k := s.fld (WHS_M_DECAY m) 0 16
      let due := k != 0 && y.since + 1 == k
      (s.modMap m fun y =>
        { y with last := some x.trig.ts, hits := y.hits ++ [s.mapCells m g x], since := if due then 0 else y.since + 1,
                 marks := y.marks ++ [due] }).bump (WHS_M_TAKEN m) 1
    else s.count (WHS_M_SKIP m) 1
  else s

/-- A map cell (R314). -/
def State.mapCell (s : State) (m i : Nat) : Nat := bits (s.memRead (s.mapMem m) (s.regN (WHS_M_BASE m) + i / 4)).toNat (16 * (i % 4)) 16

/-- Give a map cell a value. -/
def State.setMapCell (s : State) (m i v : Nat) : State :=
  let a := s.regN (WHS_M_BASE m) + i / 4
  s.memWrite (s.mapMem m) a (BitVec.ofNat 72 (putBits (s.memRead (s.mapMem m) a).toNat (16 * (i % 4)) 16 v))

/-- The words of map m's region (R314). -/
def State.mapWords (s : State) (m : Nat) : Nat := s.cols m * s.rows m / 4

/-- The decay sweep of map m comes to word j: the words on the way are halved (R316). -/
def State.mapHalve (s : State) (m j : Nat) : State :=
  let i := (vget s.maps m).swept
  let s := (List.range (4 * (j - i))).foldl (fun s k => s.setMapCell m (4 * i + k) (s.mapCell m (4 * i + k) / 2)) s
  s.modMap m fun y => { y with swept := max y.swept j, half := false }

/-- The clear of map m comes to word j (R315). -/
def State.mapZero (s : State) (m j : Nat) : State :=
  let y := vget s.maps m
  (s.memWrites (s.mapMem m) (s.regN (WHS_M_BASE m) + y.cleared) (List.replicate (j - y.cleared) 0)).modMap m fun y =>
    { y with cleared := max y.cleared j }

/-- Take the hits in word w out of the oldest segment that has any there. -/
def takeHits (w : Nat) : List (List Nat) → List Nat × List (List Nat)
  | [] => ([], [])
  | cs :: t =>
    let (mine, rest) := cs.partition (· / 4 == w)
    if mine.isEmpty then ((takeHits w t).1, cs :: (takeHits w t).2) else (mine, rest :: t)

/-- The hits of a segment in word w of map m are written as one update (R314). -/
def State.hitWord (s : State) (m w : Nat) : State :=
  let (mine, rest) := takeHits w (vget s.maps m).hits
  let s := mine.foldl (fun s i => s.setMapCell m i (min 65535 (s.mapCell m i + 1))) s
  s.modMap m fun y => { y with hits := rest, fetched := y.fetched.erase w }

/-- The words of map m with hits to be written, in the order of the segments. -/
def State.hitWords (s : State) (m : Nat) : List Nat := ((vget s.maps m).hits.flatten.map (· / 4)).eraseDups

/-- A segment that map m may still take is under way: its trigger record came while the map ran (R317). -/
def State.mapAwaits (s : State) (m : Nat) : Bool :=
  let x := vget s.acq.grps (s.fld (WHS_M_CFG m) 0 3)
  (x.seg.toList ++ x.await).any fun y => y.fin == 0 && y.maps.contains m

/-- A stopped map with nothing left to take, write or halve is done (R316, R317). -/
def State.mapSettle (s : State) (m : Nat) : State :=
  let y := vget s.maps m
  if y.held && !y.taking && y.hits.isEmpty && !y.due && !s.bit (WHS_M_STAT m) 2 && !s.mapAwaits m then
    ((s.modMap m fun y => { y with held := false }).setFld (WHS_M_STAT m) 1 1 0).flag WHS_EVT (8 + m)
  else s

/-- The hits of the oldest segment are written (R314, R316): in a Dock channel once its last update has gone, in the quay buffer
with the updates that are left. -/
def State.mapHits (s : State) (m : Nat) : State :=
  let s := if s.mapMem m = 2 && s.sweepUp 2 then
      (((vget s.maps m).hits.headD []).map (· / 4)).eraseDups.foldl (fun s w => s.hitWord m w) s
    else s
  let y := vget s.maps m
  match y.hits, y.marks with
  | [] :: rest, dm :: mks =>
    let late := dm && y.due
    let s := s.modMap m fun y => { y with hits := rest, marks := mks, due := y.due || dm }
    (s.cond late (·.count (WHS_M_DLATE m) 1)).mapSettle m
  | _, _ => s

/-- A due decay sweep starts (R316). -/
def State.decayStart (s : State) (m : Nat) : State :=
  if (vget s.maps m).due && !s.bit (WHS_M_STAT m) 2 && s.sweepUp (s.mapMem m) then
    (s.modMap m fun y => { y with due := false, swept := 0, half := false }).setBit (WHS_M_STAT m) 2 true
  else s

/-- A decay sweep completes (R316): in a Dock channel once its last burst has gone. -/
def State.decayDone (s : State) (m : Nat) : State :=
  if s.bit (WHS_M_STAT m) 2 && (if s.mapMem m = 2 then s.sweepUp 2 else s.mapWords m ≤ (vget s.maps m).swept) then
    ((s.mapHalve m (s.mapWords m)).setBit (WHS_M_STAT m) 2 false).mapSettle m
  else s

/-- Map m starts (R315, R319). -/
def State.mapStart (s : State) (m : Nat) (clear : Bool) : State :=
  let g := s.fld (WHS_M_CFG m) 0 3
  let pq := s.pre g + s.post g
  let s := s.modMap m fun _ => { MapSt.reset with taking := true, held := true, pq := pq }
  (((s.setFld (WHS_M_STAT m) 0 3 (1 + 2 * b2n clear)).setFld (WHS_M_STAT m) 4 3 0).setRegN (WHS_M_TAKEN m) 0).setFld
    (WHS_M_CTRL m) 0 2 (1 + 2 * b2n clear)

/-- The candidate of a map start, for its charges. -/
def State.mapCand (s : State) (m : Nat) : State :=
  let g := s.fld (WHS_M_CFG m) 0 3
  s.modMap m fun x => { x with held := true, pq := s.pre g + s.post g }

/-- The checks of a map start (R318). -/
def State.mapStartCheck (s : State) (m : Nat) : Except Nat Unit :=
  s.whsStartCheck (s.mapCand m) (s.mapMem m) (s.mapRegion m) (vget s.maps m).held

/-- Map m stops with an END (R317, R324, R647). -/
def State.mapStop (s : State) (m fin : Nat) : State :=
  if s.bit (WHS_M_STAT m) 0 then
    let s := s.modMap m fun y => { y with taking := false }
    (((s.setBit (WHS_M_STAT m) 0 false).setEnd (WHS_M_STAT m) fin).setBit (WHS_M_CTRL m) 0 false).mapSettle m
  else s.reEnd whsCauses (WHS_M_STAT m) fin

/-- A clear completes (R315): in a Dock channel once its last burst has gone. -/
def State.mapClear (s : State) (m : Nat) : State :=
  if s.bit (WHS_M_STAT m) 1 && (if s.mapMem m = 2 then s.sweepUp 2 else s.mapWords m ≤ (vget s.maps m).cleared) then
    (s.mapZero m (s.mapWords m)).setBit (WHS_M_STAT m) 1 false
  else s

/-! ### Work in the quay buffer

The quay buffer has no calendar (R332): how far a sweep, a map's hits, a decay or a clear has come there at an RCLK edge is free
(log 42). -/

/-- A free number from 0 to n. -/
def State.freeTo (s : State) (n : Nat) : Nat × State := ((Config.freeWord s.free).toNat % (n + 1), { s with free := s.free + 1 })

/-- A sweep of histogram h in the quay buffer goes on. -/
def State.histCreep (s : State) (h : Nat) : State :=
  match (vget s.hists h).sweep with
  | none => s
  | some sw =>
    if s.histMem h = 2 then
      let (k, s) := s.freeTo (s.sweepLen h - sw.done)
      s.sweepTo h (sw.done + k)
    else s

/-- What map m does in the quay buffer goes on. -/
def State.mapCreep (s : State) (m : Nat) : State :=
  if s.mapMem m = 2 && (vget s.maps m).held then
    let (k, s) := s.freeTo (s.mapWords m)
    let s := s.cond (s.bit (WHS_M_STAT m) 1) (·.mapZero m (max k (vget s.maps m).cleared))
    let ws := s.hitWords m
    let (k, s) := s.freeTo ws.length
    let s := (ws.take k).foldl (fun s w => s.hitWord m w) s
    let (k, s) := s.freeTo (s.mapWords m)
    s.cond (s.bit (WHS_M_STAT m) 2) (·.mapHalve m (max k (vget s.maps m).swept))
  else s

/-- The Warehouse has work in the quay buffer. -/
def State.creeps (s : State) : Bool :=
  s.sweepUp 2 && (((List.range 8).any fun h => (vget s.hists h).sweep.isSome && s.histMem h == 2) ||
    (List.range 2).any fun m => s.mapMem m == 2 && (!(vget s.maps m).hits.isEmpty || s.fld (WHS_M_STAT m) 1 2 != 0))

/-- The Warehouse's work in the quay buffer goes on. -/
def State.creep (s : State) : State :=
  if s.creeps then foldS State.mapCreep (List.range 2) (foldS State.histCreep (List.range 8) s) else s

/-- Every running accumulation ends (R324): 2 ABORTED, 3 CLOCK_FAULT, 4 POWER_DOWN. -/
def State.endWarehouse (s : State) (fin : Nat) : State :=
  foldS (fun s m => s.mapStop m fin) (List.range 2) (foldS (fun s h => s.histStop h fin) (List.range 8) s)

/-- The header of group g's oldest segment is written, once its body is in memory and the Manifest's bursts have gone; the maps
see the segment (R274, R313, R317, R334). -/
def State.headerWritten (s : State) (g : Nat) : State :=
  match (s.grp g).await with
  | x :: _ =>
    if s.bodyWritten g && s.lhs == 3 && (s.manBursts g x).length ≤ x.man then
      foldS (fun s m => (s.mapOffer g x m).mapSettle m) (List.range 2) (s.writeHeader g x)
    else s
  | [] => s

/-- A quay word of channel c is handed over (R204): it joins the accumulator, matching, the capture groups and the
free-running histograms. -/
def State.wordHandedOver (s : State) (c cyc : Nat) (xs : List Sample) : State :=
  if s.delivers c && xs.length == 4 then
    let i := (vget s.brt.chans c).idx
    let ah := min 4 (vget s.brt.chans c).ahead
    let (ys, s) := s.tagSamples c i cyc 0 xs
    let s := s.modChan c fun x =>
      { (x.accumulate (ys.drop ah)) with idx := i + 4, ahead := x.ahead - ah }
    let s := s.cond (s.running c) (·.matchCollect c i ys)
    let s := foldS (fun s g => s.grpWord g c (i / 4) ys) (List.range 8) s
    s.histWord c i ys
  else s

end Sys2Proof.Machine
end

