-- ==== Sys2Proof/Machine/Slots.lean ====
section
/-! DEFINITION. The slot calendar at work (R329, R333 to R339): what a slot carries, what a bad burst does (R346), refresh rounds,
self-refresh and its end (R348, R349). -/

namespace Sys2Proof.Machine

/-! ### What each client has for a slot -/

/-- Burst address a lies in bank b of channel n (R328). -/
def State.inBank (s : State) (n b a : Nat) : Bool := a % s.banks n == b

/-- Capture write of group c: its oldest burst, as it writes in address order (R274, R334). -/
def State.capBurst (s : State) (n b c : Nat) : Option Burst :=
  ((vget s.dock n).queue.find? (·.client == c)).filter fun x => x.closed && s.inBank n b x.burst

/-- The Manifest: the next burst of a segment whose body is in memory (R274, R334). -/
def State.manBurst (s : State) (n b : Nat) : Option Burst :=
  (List.range 8).findSome? fun g =>
    if s.bodyWritten g then
      (s.grp g).await.head?.bind fun x =>
        match (s.manBursts g x)[x.man]? with
        | some (m, a) => if m == n && s.inBank n b a then some ⟨8, a, .man g x.seq, true⟩ else none
        | none => none
    else none

/-- Histogram flush: the next burst of a sweep, in address order (R310). -/
def State.histBurst (s : State) (n b h : Nat) : Option Burst :=
  match (vget s.hists h).sweep with
  | none => none
  | some sw =>
    let a := s.regN (WHS_H_BASE h) / 8 + sw.done
    if s.histMem h == n && s.sweepUp n && sw.done < s.sweepLen h && s.inBank n b a then some ⟨9 + h, a, .hist h, true⟩ else none

/-- The hits of map m in a bank: the first of the at most 64 updates queued for it (R336). -/
def State.hitBurst (s : State) (n b m : Nat) : Option Burst :=
  let a := fun w => (s.regN (WHS_M_BASE m) + w) / 8
  (((s.hitWords m).filter fun w => s.inBank n b (a w)).take 64).head?.map fun w => ⟨17 + m, a w, .hits m w, true⟩

/-- The next burst of map m's decay sweep, or of its clear, in address order (R315, R316). -/
def State.passBurst (s : State) (n b m : Nat) : Option Burst :=
  let base := s.regN (WHS_M_BASE m)
  let y := vget s.maps m
  let clr := s.bit (WHS_M_STAT m) 1 && y.cleared < s.mapWords m
  let dec := s.bit (WHS_M_STAT m) 2 && y.swept < s.mapWords m
  let a := (base + if clr then y.cleared else y.swept) / 8
  if (clr || dec) && s.inBank n b a then some ⟨17 + m, a, if clr then .clear m else .decay m, true⟩ else none

/-- Map m: its clear and its hits, and its decay in slots of its own (R319, R339). DESIGN CHOICE (log 42): hits go ahead of the
decay. -/
def State.mapBurst (s : State) (n b m : Nat) (own : Bool) : Option Burst :=
  if s.mapMem m == n && s.sweepUp n && (vget s.maps m).held then
    if s.bit (WHS_M_STAT m) 1 then s.passBurst n b m
    else match s.hitBurst n b m with
      | some x => some x
      | none => if own then s.passBurst n b m else none
  else none

/-- Ferry readout: the next words of a transfer, to the end of their burst (R334, R484, R485). -/
def State.ferryBurst (s : State) (n b : Nat) : Option Burst :=
  if !s.ferryEnds then none
  else (List.range 8).findSome? fun r =>
    if s.ringState r != 1 then none
    else (s.mover r).bind fun f =>
      match s.flightNext f with
      | .inr (m, a, k) =>
        if m == n && s.inBank n b (a / 8) then some ⟨19, a / 8, .ferry r f.idx (min k (8 - a % 8)), true⟩ else none
      | .inl _ => none

/-- The burst for a bank that a client of R334, or BAR2 access, has; `own` in a slot reserved for it or owed to it. -/
def State.clientBurst (s : State) (n b : Nat) (own : Bool) (c : Nat) : Option Burst :=
  if c < 8 then s.capBurst n b c
  else if c = 8 then s.manBurst n b
  else if c < 17 then s.histBurst n b (c - 9)
  else if c < 19 then s.mapBurst n b (c - 17) own
  else if c = 19 then s.ferryBurst n b
  else (vget s.dock n).queue.find? fun x => x.client == c && s.inBank n b x.burst

/-- The burst a slot of bank b carries: its owner's, or the first of R339. -/
def State.slotBurst (s : State) (n b : Nat) (owner : Option Nat) : Option Burst :=
  match owner.bind (s.clientBurst n b true) with
  | some x => some x
  | none =>
    match ((List.range 20).filter (s.rose n)).findSome? (s.clientBurst n b true) with
    | some x => some x
    | none => ([19, 21, 17, 18] ++ (List.range 8).map (· + 9)).findSome? (s.clientBurst n b false)

/-! ### Bursts carried out -/

/-- The segment of group g with a sequence number. -/
def State.segOf (s : State) (g : Nat) (seq : Word) : Option Seg :=
  ((s.grp g).seg.toList ++ (s.grp g).await).find? (·.seq == seq)

/-- Carry out a burst on channel n. -/
def State.runBurst (s : State) (n : Nat) (b : Burst) : State :=
  match b.op with
  | .write seq a ws =>
    let s := s.memWrites n a ws
    match s.segOf b.client seq with
    | some x => s.histBody b.client x (a - (s.recAddr b.client x + 8)) ws
    | none => s
  | .bar2 id as => as.foldl (fun s a => s.bar2Got id a (s.memRead n a)) s
  | .put a q => s.memWrite n a q
  | .man g seq => s.modSeg g seq fun x => { x with man := x.man + 1 }
  | .hist h => s.sweepBurst h
  | .hits m w =>
    if (vget s.maps m).fetched.contains w then s.hitWord m w else s.modMap m fun y => { y with fetched := w :: y.fetched }
  | .decay m =>
    if (vget s.maps m).half then s.mapHalve m ((vget s.maps m).swept + 8) else s.modMap m fun y => { y with half := true }
  | .clear m => s.mapZero m ((vget s.maps m).cleared + 8)
  | .ferry r idx k =>
    match s.mover r with
    | some f =>
      if f.idx == idx then
        match s.flightNext f with
        | .inr (m, a, _) => (s.flightMove r f m a k).ferryNext r
        | .inl _ => s
      else s
    | none => s

/-- A burst is bad (R320, R346, R480). -/
def State.badBurst (s : State) (n : Nat) (b : Burst) : State :=
  let s := (s.count (DCK_CH_BADBURST n) 1).setRegN (DCK_CH_LASTADDR n) (b.burst * 8)
  match b.op with
  | .write seq _ _ => s.modSeg b.client seq fun x => { x with memerr := true }
  | .man g seq => s.modSeg g seq fun x => { x with memerr := true }
  | .bar2 id _ => s.bar2Abort id
  | .put _ _ => s
  | .hist h => s.flag (WHS_H_STAT h) 3
  | .hits m _ => s.flag (WHS_M_STAT m) 3
  | .decay m => s.flag (WHS_M_STAT m) 3
  | .clear m => s.flag (WHS_M_STAT m) 3
  | .ferry r idx _ =>
    s.modRing r fun x =>
      { x with flights := x.flights.map fun f => if f.idx == idx && f.code == 0 then { f with code := 3 } else f }

/-- No ALERT_N can find a burst bad any more (R346): what it was the last of completes. -/
def State.burstSafe (s : State) (b : Burst) : State :=
  match b.op with
  | .bar2 id _ => s.bar2Done id
  | .ferry r _ _ => s.ferryNext r
  | _ => s

/-- The bursts of the last slots of channel n are out of reach of an ALERT_N. -/
def State.issuedSafe (s : State) (n : Nat) : State :=
  let bs := (vget s.dock n).issued.filterMap id
  bs.foldl (fun s b => s.burstSafe b) (s.modDock n fun x => { x with issued := [] })

/-- A calendar slot passes on a trained channel (R333, R339); between an ALERT_N and the next refresh block its burst
is bad (R346). -/
def State.calSlot (s : State) (n : Nat) : State :=
  let d := vget s.dock n
  if s.dckState n == 3 && d.pos < 240 * s.framesPerRound && !d.owners.isEmpty then
    let pick := s.slotBurst n (d.pos % s.banks n) (d.owners.getD (d.pos / 16) none)
    let last := (d.issued[15]?).bind id
    let s := s.modDock n fun x =>
      { x with pos := x.pos + 1, issued := ((if d.alert then none else pick) :: x.issued).take 16,
               queue := match pick with
                 | some b => x.queue.erase b
                 | none => x.queue }
    let s := match pick with
      | some b => if d.alert then ((s.runBurst n b).badBurst n b).burstSafe b else s.runBurst n b
      | none => s
    match last with
    | some b => s.burstSafe b
    | none => s
  else s

/-! ### Rounds, ALERT_N, self-refresh -/

/-- A refresh round begins (R333, R338, R346): its refresh block is longer than 16 slots. -/
def State.roundStart (s : State) (n : Nat) : State :=
  if s.dckState n == 3 && s.lhs == 3 then
    let ran := !(vget s.dock n).owners.isEmpty
    let s := s.issuedSafe n
    (s.modDock n fun x => { x with owners := s.calendar n, pos := 0, alert := false }).cond ran (·.bump (DCK_CH_ROUNDS n) 1)
  else s

/-- ALERT_N asserts on a channel (R331, R346): the bursts of the 16 slots before it are bad, the last one last. -/
def State.alertN (s : State) (n : Nat) : State :=
  let st := s.dckState n
  let step := s.fld (DCK_CH_TSTAT n) 4 3
  let t := (s.count (DCK_CH_PARERR n) 1).flag DCK_FAULT (4 + n)
  if st = 2 then if step = 1 ∨ step = 5 then t.trainFail n else t
  else if st = 3 then
    let bs := (vget s.dock n).issued.filterMap id
    let t := (t.modDock n fun x => { x with alert := true, issued := [] })
    bs.foldl (fun s b => s.burstSafe b) (bs.reverse.foldl (fun s b => s.badBurst n b) t)
  else s

/-- A trained channel enters self-refresh (R348, R349). -/
def State.selfRefresh (s : State) (n : Nat) (hold : Bool) : State :=
  if s.dckState n = 3 then
    let s := ((s.setFld (DCK_CH_TSTAT n) 0 3 5).setBit DCK_STAT n false).issuedSafe n
    s.modDock n fun x => { x with hold := hold, owners := [] }
  else s

/-- The Dock leaves self-refresh after a Lighthouse-S resume (R348): SELFREF of CLK_LHS_STAT falls with the last channel (R160). -/
def State.selfRefExit (s : State) (n : Nat) : State :=
  if s.dckState n == 5 && (vget s.dock n).hold && s.lhs == 3 && s.on .dock then
    let s := ((s.setFld (DCK_CH_TSTAT n) 0 3 3).setBit DCK_STAT n true).modDock n fun x => { x with hold := false, pos := 0 }
    s.cond (!(vget s.dock (1 - n)).hold) (·.setBit CLK_LHS_STAT 3 false)
  else s

end Sys2Proof.Machine
end

