-- ==== Sys2Proof/Machine/Lanes.lean ====
section
/-! DEFINITION. Tally lanes as timers (R351 to R353): bin-width tables and stamps. -/

namespace Sys2Proof.Machine

/-- Lane l, and its update. -/
def State.lane (s : State) (l : Nat) : LaneSt := vget s.lanes l
def State.modLane (s : State) (l : Nat) (f : LaneSt → LaneSt) : State := { s with lanes := vmod s.lanes l f }

/-- The width of code c in a table. -/
def tblGet (t : SMap Nat) (c : Nat) : Nat := smGet (fun _ => 0) t c
def tblSet (t : SMap Nat) (c v : Nat) : SMap Nat := smSet (fun _ => 0) t c v

/-- The cumulative position Q[c] (R352). -/
def tblQ (t : SMap Nat) (c : Nat) : Nat := (t.filter fun x => x.1 < c).foldl (fun a x => a + x.2) 0

/-- 2 Q[c] + W[c] summed over the readers' codes: eight times the mean position in fs (R352). -/
def readSum (t : SMap Nat) (codes : List Nat) : Nat := codes.foldl (fun a c => a + (2 * tblQ t c + tblGet t c)) 0

/-- A signed number of time-stamp LSB as a stamp modulo 2^72. -/
def stampInt (x : Int) : Quay := BitVec.ofNat 72 (x % 2 ^ 72).toNat

/-- The stamp a lane gives an edge (R352, R353): in full, or with fraction zero where `full` is false. -/
def edgeStamp (t : SMap Nat) (full : Bool) (count : Nat) (codes : List Nat) (dly : Int) : Quay :=
  stampInt ((count : Int) * 65536 - (if full then roundDiv (readSum t codes * 4096) (8 * 125000) else 0) - dly)

/-- A lane captures an edge: its stamp and flags (R351 to R353). -/
def State.capture (s : State) (l : Nat) (e : LaneEdge) (dly : Int) : Mark × State :=
  let x := s.lane l
  let valid := s.bit TLY_STAT l
  let again := x.captured == some e.count
  (⟨edgeStamp x.table (valid && !again) e.count e.codes dly, !valid, again, e.rising⟩,
   s.modLane l fun x => { x with captured := some e.count })

/-- A lane is under calibration (R357). -/
def State.calBusy (s : State) (l : Nat) : Bool := s.bit TLY_STAT (8 + l)

/-- The widths a code-density histogram of 4 194 304 hits gives (R355). -/
def calWidths : List Nat → Nat → List Nat
  | [], _ => []
  | h :: t, k =>
    let p := fun k => (2 * (k * 2000000) + 4194304) / (2 * 4194304)
    (p (k + h) - p k) :: calWidths t (k + h)

/-- The codes with a positive entry form one unbroken run that begins at code 0 (R356). -/
def oneRun (l : List Nat) : Bool := l.headD 0 != 0 && (l.dropWhile (· != 0)).all (· == 0)

/-- A table, with the counts or widths that show its run, is valid (R356). -/
def tableOk (run widths : List Nat) : Bool := run.getD 191 0 == 0 && oneRun run && widths.all (· ≤ 40000)

/-- A table of 192 entries as stored. -/
def tblOf (l : List Nat) : SMap Nat := ((l.take 192).mapIdx fun i v => (i, v)).filter fun x => x.2 != 0

/-- A table as its 192 entries. -/
def tblList (t : SMap Nat) : List Nat := (List.range 192).map (tblGet t)

end Sys2Proof.Machine
end

