-- ==== Sys2Proof/Machine/Pilot.lean ====
section
/-! DEFINITION. The Pilot (R227 to R260): comparators, detectors, engines, the EFIRE driver and TRIGOUT. -/

namespace Sys2Proof.Machine

/-- Update the Pilot, an engine, a detector. -/
def State.modPlt (s : State) (f : PltSt → PltSt) : State := { s with plt := f s.plt }
def State.modEng (s : State) (g : Nat) (f : EngSt → EngSt) : State := s.modPlt fun x => { x with engs := vmod x.engs g f }
def State.modDet (s : State) (d : Nat) (f : DetSt → DetSt) : State := s.modPlt fun x => { x with dets := vmod x.dets d f }
def State.eng (s : State) (g : Nat) : EngSt := vget s.plt.engs g

/-! ### Engines (R239 to R246) -/

/-- Engine g runs (R246). -/
def State.engRuns (s : State) (g : Nat) : Bool := s.bit (PLT_ENG_CFG g) 0 && s.grpBusy g && s.lha == 3

/-- HOLD of engine g (R243). -/
def State.engHold (s : State) (g : Nat) : Nat := s.low (PLT_ENG_HOLD_HI g) + s.fld (PLT_ENG_HOLD_HI g) 0 8 * 2 ^ 32

/-- WIN of engine g (R241). -/
def State.engWin (s : State) (g : Nat) : Nat := max 1 (s.regN (PLT_ENG_WIN g))

/-- STATE of engine g (R251): 0 STOPPED, 1 WAIT_A, 2 WAIT_B, 3 HOLDOFF. -/
def State.engState (s : State) (g : Nat) : Nat :=
  let x := s.eng g
  if !s.engRuns g then 0
  else if x.window.isSome then 2
  else match x.last with
    | none => 1
    | some l =>
      let hold := if s.bit (PLT_ENG_HOLD_HI g) 31 then x.held < s.engHold g
        else !stampGe s.now.toNat (l.toNat + s.engHold g * 65536)
      if hold then 3 else 1

/-- The qualifier levels as a mask by source code (R242): COMP 1..8, DIG 9..16, TRIGIN 17, 18. -/
def State.qualLevels (s : State) : Nat :=
  s.fld PLT_CMP_LVL 0 8 * 2 + (List.range 8).foldl (fun m d => m + b2n (vget s.plt.dets d).high * 2 ^ (9 + d)) 0 +
  s.plt.trigin.toNat * 2 ^ 17

/-- The levels have changed at a TCLK count: they are kept with what stood before, as far back as an event on its way can reach
(R242). -/
def State.noteLevels (s : State) (count : Nat) : State :=
  let now := s.qualLevels
  if (s.plt.levels.headD (0, 0)).2 = now then s
  else
    let old := s.plt.levels
    let near := old.takeWhile fun x => count < x.1 + 4096
    s.modPlt fun x => { x with levels := (count, now) :: near ++ (old.drop near.length).take 1 }

/-- The levels on the last TCLK edge at or before a stamp (R242). -/
def State.levelsAt (s : State) (t : Quay) : Nat :=
  let c := t.toNat / 65536
  ((s.plt.levels.find? fun x => (c + 2 ^ 56 - x.1 % 2 ^ 56) % 2 ^ 56 < 2 ^ 55).map (·.2)).getD 0

/-- Engine g uses a source (R241). -/
def State.engUses (s : State) (g src : Nat) : Bool :=
  src != 0 && (s.fld (PLT_ENG_CFG g) 8 7 == src || (s.bit (PLT_ENG_CFG g) 1 && s.fld (PLT_ENG_CFG g) 16 7 == src))

/-- An event's place on REFCH's grid (R239): sample, fraction and stamp; none before T0. -/
def State.place (s : State) (ref : Nat) (e : PEvent) : Option (Nat × Nat × Quay) :=
  let den := s.kOf ref * s.fcw
  let t := match e.dig with
    | some (c, i, f) =>
      let dc := s.kOf c * s.fcw
      (s.t0 c + (2 * ((i * 65536 + f) * (5 * 2 ^ 60)) + dc * 65536) / (2 * dc * 65536)) % 2 ^ 72
    | none => e.t.toNat
  match e.dig with
  | some (c, i, f) => if c = ref then some (i, f, BitVec.ofNat 72 t) else go t den
  | none => go t den
where
  /-- Placement of a stamp. -/
  go (t den : Nat) : Option (Nat × Nat × Quay) :=
    let d := (t + 2 ^ 72 - s.t0 ref) % 2 ^ 72
    if d < 2 ^ 71 then
      let num := d * den
      let q := 5 * 2 ^ 60
      some (num / q, 65536 * (num % q) / q, BitVec.ofNat 72 t)
    else none

/-- A TRIGOUT pulse of instance j asserts on a TCLK edge (R249). -/
def State.trigOut (s : State) (j count : Nat) : State :=
  let w := s.fld (PLT_TRIGOUT j) 16 16
  s.modPlt fun x =>
    { x with out := x.out ||| BitVec.ofNat 2 (2 ^ j), outEnd := vmod x.outEnd j fun e => max e (count + w) }

/-- The output of TRIGOUT instance j is low, with no pulse to come (R249). -/
def State.trigOutOff (s : State) (j : Nat) : State :=
  s.modPlt fun x => { x with out := BitVec.ofNat 2 (putBits x.out.toNat j 1 0), outEnd := vset x.outEnd j 0 }

/-- What an accepted trigger leaves in its engine and registers, and the event it raises (R244, R251). -/
def State.noteTrig (s : State) (g : Nat) (t : TrigRec) : State :=
  let s := s.modEng g fun x => { x with last := some t.ts, held := 0 }
  let lo := s.regN (PLT_TRIG_CNT_LO g) + 1
  let s := (s.setRegN (PLT_TRIG_CNT_LO g) lo).cond (lo = 2 ^ 32) fun s => s.setRegN (PLT_TRIG_CNT_HI g) ((s.regN (PLT_TRIG_CNT_HI g) + 1) % 65536)
  let s := (s.setReg72 (PLT_LAST_Q0 g) t.ts).setRegN (PLT_LAST_INFO g) (t.f + t.src * 2 ^ 16 + b2n t.coarse * 2 ^ 24 + b2n t.collide * 2 ^ 25)
  let s := (s.setRegN (PLT_LAST_IDX_LO g) t.i).setRegN (PLT_LAST_IDX_HI g) (t.i / 2 ^ 32 % 65536)
  s.raise 3

/-- The TRIGOUT instances that show engine g's accepted triggers pulse (R249). -/
def State.trigOuts (s : State) (g : Nat) : State :=
  foldS (fun s j => if s.fld (PLT_TRIGOUT j) 0 2 == 1 && s.fld (PLT_TRIGOUT j) 2 7 == g && s.on .acq then
      s.trigOut j (s.tide.tb.toNat + 1) else s) [0, 1] s

/-- An accepted trigger (R244, R245, R249). -/
def State.accept (s : State) (g : Nat) (t : TrigRec) : State := ((s.noteTrig g t).giveRecord g t).trigOuts g

/-- A candidate of engine g is tested for rate and holdoff (R243); a SOFT one for rate only (R247). -/
def State.candidate (s : State) (g : Nat) (t : TrigRec) : State :=
  let x := s.eng g
  let gap := match x.last with
    | none => none
    | some l => some ((t.ts.toNat + 2 ^ 72 - l.toNat) % 2 ^ 72)
  let before := fun (lim : Nat) => match gap with
    | none => false
    | some d => d < lim || 2 ^ 71 ≤ d
  if before 262144 then s.count (PLT_REJ_RATE g) 1
  else if t.src = 25 then s.accept g t
  else if s.bit (PLT_ENG_HOLD_HI g) 31 then
    if x.last.isSome && x.held < s.engHold g then (s.modEng g fun x => { x with held := x.held + 1 }).count (PLT_REJ_HOLD g) 1
    else s.accept g t
  else if before (s.engHold g * 65536) then s.count (PLT_REJ_HOLD g) 1
  else s.accept g t

/-- The qualifier of engine g lets a candidate of a stamp stand (R242). -/
def State.qualified (s : State) (g : Nat) (t : Quay) : Bool :=
  !s.bit (PLT_ENG_QUAL g) 8 || bits (s.levelsAt t) (s.fld (PLT_ENG_QUAL g) 0 7) 1 == s.fld (PLT_ENG_QUAL g) 7 1

/-- A candidate of engine g meets the qualifier, and then the tests of R243. -/
def State.judgeCand (s : State) (g : Nat) (t : TrigRec) : State :=
  if s.qualified g t.ts then s.candidate g t else s.count (PLT_REJ_QUAL g) 1

/-- An event enters an engine in AB mode (R241, R253): its stamp opens, meets, or passes the window, or it is a B event ahead of
an A event of its own stamp. -/
def State.abEvent (s : State) (g : Nat) (t : TrigRec) : State :=
  let x := s.eng g
  let isA := s.fld (PLT_ENG_CFG g) 8 7 == t.src
  let isB := s.fld (PLT_ENG_CFG g) 16 7 == t.src
  let past := fun (a : Quay) => !stampGe (a.toNat + s.engWin g * 65536) t.ts.toNat
  let inWin := x.window.any fun a => stampGe t.ts.toNat a.toNat && !past a
  let shut := fun (s : State) => s.modEng g fun x => { x with window := none, early := none }
  if inWin && isB then (shut s).judgeCand g t
  else if isA then
    match x.early with
    | some b => if b.ts = t.ts && b.src ≠ t.src then (shut s).judgeCand g b else s.modEng g fun x => { x with window := some t.ts, early := none }
    | none => s.modEng g fun x => { x with window := some t.ts }
  else
    let s := s.cond (x.window.any past) shut
    s.cond isB (·.modEng g fun x => { x with early := some t })

/-- An event enters engine g (R239 to R243, R246, R247). -/
def State.engineEvent (s : State) (g : Nat) (e : PEvent) : State :=
  let ref := s.fld (PLT_ENG_CFG g) 24 3
  if !s.engRuns g then s
  else if !s.running ref then s.count (PLT_NOGRID g) 1
  else match s.place ref e with
    | none => s.count (PLT_NOGRID g) 1
    | some (i, f, ts) =>
      if i < (s.grp g).a0 then s
      else
        let co := e.coarse || s.bit BRT_CHAN_STAT (16 + ref)
        let t : TrigRec := ⟨ts, f, i, e.src, co, e.collide⟩
        if e.src = 25 then s.candidate g t
        else if s.bit (PLT_ENG_CFG g) 1 then s.abEvent g t
        else if s.fld (PLT_ENG_CFG g) 8 7 == e.src then s.judgeCand g t
        else s

/-- Order of events entering on one cycle (R240): by sample and fraction, then by source code. -/
def State.eventBefore (s : State) (g : Nat) (a b : PEvent) : Bool :=
  let ref := s.fld (PLT_ENG_CFG g) 24 3
  let key := fun e => match s.place ref e with
    | some (i, f, _) => (i * 65536 + f) * 128 + e.src
    | none => e.src
  key a < key b

/-- The next event of engine g enters (R240). -/
def State.engineEntry (s : State) (g : Nat) : State :=
  match (s.eng g).queue with
  | [] => s
  | e :: rest =>
    let m := rest.foldl (fun a b => if s.eventBefore g b a then b else a) e
    (s.modEng g fun x => { x with queue := x.queue.erase m }).engineEvent g m

/-- Engine g stops (R246). -/
def State.engStop (s : State) (g : Nat) : State :=
  s.modEng g fun x => { x with window := none, last := none, held := 0, queue := [], early := none }

/-- What engine g has to do as it stops is done. -/
def EngSt.still (x : EngSt) : Bool := x.window.isNone && x.last.isNone && x.held == 0 && x.queue.isEmpty && x.early.isNone

/-- Engines whose groups have ended stop. -/
def State.engsSettle (s : State) : State := foldS (fun s g => if s.engRuns g || (s.eng g).still then s else s.engStop g) (List.range 8) s

/-! ### Events (R228, R233, R238, R247 to R249) -/

/-- The EFIRE driver takes an event of its source, for which it would assert the pair on a TCLK edge (R248): for WIDTH periods,
and not within 4 of the end of a pulse. -/
def State.efireDrive (s : State) (src count : Nat) : State :=
  let g := s.fld PLT_EFIRE_CFG 8 3
  if s.bit PLT_EFIRE_CFG 7 && s.fld PLT_EFIRE_CFG 0 7 == src && src != 0 && s.grpBusy g then
    if count < s.plt.efireTo + 4 && s.plt.efireTo != 0 then s.count PLT_EFIRE_SKIP 1
    else if s.on .emica then s.modPlt fun x => { x with efire := true, efireTo := count + s.fld PLT_EFIRE_CFG 16 8 }
    else s
  else s

/-- An event reaches every engine that uses its source, and the EFIRE driver, which it would make assert on a TCLK edge. -/
def State.pilotEvent (s : State) (e : PEvent) (count : Nat) : State :=
  let s := foldS (fun s g => if s.engUses g e.src && s.bit (PLT_ENG_CFG g) 0 && s.on .acq then
      s.modEng g fun x => { x with queue := x.queue ++ [e] } else s) (List.range 8) s
  s.efireDrive e.src count

/-- A timed source is selected by an enabled engine, by the EFIRE driver or by a TRIGOUT in RAW mode (R233). -/
def State.timedUse (s : State) (src : Nat) : Bool :=
  (List.range 8).any (fun g => s.bit (PLT_ENG_CFG g) 0 && s.engUses g src) ||
  (s.bit PLT_EFIRE_CFG 7 && s.fld PLT_EFIRE_CFG 0 7 == src) ||
  [0, 1].any fun j => s.fld (PLT_TRIGOUT j) 0 2 == 2 && s.fld (PLT_TRIGOUT j) 2 7 == src

/-- A raw TRIGOUT takes an event of a timed source (R249). -/
def State.trigRaw (s : State) (src count : Nat) : State :=
  foldS (fun s j => if s.fld (PLT_TRIGOUT j) 0 2 == 2 && s.fld (PLT_TRIGOUT j) 2 7 == src &&
      (s.on .acq || (src ≤ 8 && s.on .tally && s.on .ctrl)) then s.trigOut j count else s) [0, 1] s

/-- An edge of a timed source enters the Pilot lane (R233, R234). -/
def State.timedEvent (s : State) (src : Nat) (dly : Int) (e : LaneEdge) : State :=
  if s.timedUse src && s.on .tally && s.lhs == 3 && !s.calBusy 4 then
    let (m, s) := s.capture 4 e dly
    let s := s.cond m.collide (·.count PLT_COLLIDE 1)
    (s.trigRaw src (e.count + 6)).pilotEvent ⟨src, m.t, none, m.coarse, m.collide⟩ (e.count + 10)
  else s

/-- An edge matches an EDGE field: 0 rise, 1 fall, 2 both (R229). -/
def edgeMatch (field : Nat) (rising : Bool) : Bool := field == 2 || field == (if rising then 0 else 1)

/-- A stamp of comparator n, as its TCLK count, lies in the suppression window of its last change of threshold: tide cycles 0
to 19 of the commit tide (R230). -/
def State.inSettle (s : State) (n : Nat) (count : Int) : Bool :=
  match vget s.plt.settleFrom n with
  | some a => (a.toNat : Int) ≤ count && count < a.toNat + 100
  | none => false

/-- A crossing of comparator n in the TCLK period of this count is one R230 suppresses: its stamp lies in that window. -/
def State.cmpMuted (s : State) (n count : Nat) : Bool :=
  s.inSettle n (Int.fdiv ((count : Int) * 65536 - s.sfld (PLT_CMP_DLY n) 0 20) 65536)

/-- A comparator crossing (R229, R230): a rise of a state that is HIGH already, or a fall of a LOW one, is none. -/
def State.cmpCross (s : State) (n : Nat) (e : LaneEdge) : State :=
  if !s.on .ctrl || s.bit PLT_CMP_LVL n == e.rising then s
  else
    let s := (s.setBit PLT_CMP_LVL n e.rising).noteLevels e.count
    let dly := s.sfld (PLT_CMP_DLY n) 0 20
    if !edgeMatch (s.fld (PLT_CMP n) 20 2) e.rising then s
    else if s.cmpMuted n e.count then s.count PLT_SUPPRESS 1
    else (s.raise (8 + n)).timedEvent (1 + n) dly e

/-- The settling window of comparator n ends (R230): the state against the new threshold is its reference. -/
def State.settleEnd (s : State) (n : Nat) (high : Bool) : State :=
  if s.plt.settling.getLsbD n then
    ((s.modPlt fun x => { x with settling := x.settling &&& ~~~BitVec.ofNat 8 (2 ^ n) }).setBit PLT_CMP_LVL n high).noteLevels
      s.tide.tb.toNat
  else s

/-- A TRIGIN edge (R232): ignored where no pin carries the instance, or in its park window (R131). -/
def State.triginEdge (s : State) (j : Nat) (e : LaneEdge) : State :=
  match s.pinOf 3 j with
  | none => s
  | some n =>
    if s.yard.park.getLsbD n then s
    else
      let bit := BitVec.ofNat 2 (2 ^ j)
      let s := (s.modPlt fun x => { x with trigin := if e.rising then x.trigin ||| bit else x.trigin &&& ~~~bit }).noteLevels e.count
      if edgeMatch (s.fld (PLT_TRIGIN j) 12 2) e.rising then s.timedEvent (17 + j) (s.sfld (PLT_TRIGIN_DLY j) 0 20) e else s

/-- A Yard FIRE delivery for group g (R228, R238). -/
def State.fireYard (s : State) (g : Nat) : State :=
  if s.engUses g 24 && s.bit (PLT_ENG_CFG g) 0 && s.on .acq then
    s.modEng g fun x => { x with queue := x.queue ++ [⟨24, s.now, none, false, false⟩] }
  else s

/-- A SOFT event of a stamp for engine g (R238, R247): discarded with no count where the engine does not run. -/
def State.fireSoft (s : State) (t : Quay) (g : Nat) : State :=
  if s.engRuns g then s.modEng g fun x => { x with queue := x.queue ++ [⟨25, t, none, false, false⟩] } else s

/-! ### Digital detectors (R236, R237) -/

/-- The fraction of a crossing of point p between two values (R237). -/
def crossFrac (p a b : Int) : Nat := (clampInt 0 65535 (Int.fdiv (65536 * (p - a)) (b - a))).toNat

/-- A configured direction matches: 0 the first, 1 the second, 2 either. -/
def dirMatch (dir : Nat) (first : Bool) : Bool := dir == 2 || dir == (if first then 0 else 1)

/-- A pulse width meets COND (R236). -/
def widthOk (cond w w1 w2 : Nat) : Bool :=
  match cond with
  | 0 => w < w1
  | 1 => w1 < w
  | 2 => w1 ≤ w && w ≤ w2
  | _ => w < w1 || w2 < w

/-- Detector d sees one sample: its next state and firings (R236, R237). -/
def detStep (s : State) (d : Nat) (x : DetSt) (j : Nat) (y : Slot) : DetSt :=
  let cfg := s.fld (PLT_DIG_CFG d)
  let ovrq := cfg 15 1 == 1
  let th1 := s.sfld (PLT_DIG_TH d) 0 16
  let th2 := s.sfld (PLT_DIG_TH d) 16 16
  let hy : Int := cfg 16 12
  let dir := cfg 8 2
  let skip := ovrq && y.ovr
  let hist := ((y.v, y.ovr) :: x.hist).take 256
  match x.prev with
  | none =>
    let high := if cfg 4 3 = 1 then th1 ≤ y.v && y.v ≤ th2 else th1 ≤ y.v
    { x with prev := some (j, y.v, y.ovr), high := high && !skip, hist := hist }
  | some (i, a, aovr) =>
    let bad := ovrq && (y.ovr || aovr)
    let b := y.v
    let up := !x.high && !skip && th1 ≤ b
    let dn := x.high && !skip && b < th1 - hy
    let high := if up then true else if dn then false else x.high
    let fire := fun (ok : Bool) (p : Int) => if ok && !bad then x.fires ++ [(i, crossFrac p a b)] else x.fires
    let nx := { x with prev := some (j, b, y.ovr), hist := hist }
    match cfg 4 3 with
    | 0 => { nx with high := high, fires := fire ((up || dn) && dirMatch dir up) (if up then th1 else th1 - hy) }
    | 1 =>
      let enter := !x.high && !skip && th1 + hy ≤ b && b ≤ th2 - hy
      let leave := x.high && !skip && (b < th1 - hy || th2 + hy < b)
      let p := if enter then (if a < th1 + hy then th1 + hy else th2 - hy) else if b < th1 then th1 - hy else th2 + hy
      { nx with high := if enter then true else if leave then false else x.high,
                fires := fire ((enter || leave) && dirMatch dir enter) p }
    | 2 =>
      let span := max 1 (s.fld (PLT_DIG_SPAN d) 0 8)
      match x.hist[span - 1]? with
      | none => { nx with high := high }
      | some (o, oovr) =>
        let df := b - o
        let hit := x.armed && ((dir == 0 && th1 ≤ df) || (dir == 1 && df ≤ -th1))
        let ok := hit && !(ovrq && (y.ovr || oovr))
        let armed := if hit then false else x.armed || decide (2 * df < th1 ∧ -th1 < 2 * df)
        { nx with high := high, armed := armed, fires := if ok then x.fires ++ [(j, 0)] else x.fires }
    | 3 =>
      let pos := dir == 0
      let starts := if pos then up else dn
      let ends := if pos then dn else up
      let w := i - x.start.getD i
      let ok := ends && x.start.isSome &&
        widthOk (cfg 12 2) w (s.regN (PLT_DIG_W1 d)) (s.regN (PLT_DIG_W2 d))
      { nx with high := high, start := if starts then some i else if ends then none else x.start,
                fires := fire ok (if pos then th1 - hy else th1) }
    | 4 =>
      if skip then nx
      else
        let pos := dir == 0
        let starts := if pos then a < th1 && th1 ≤ b else th2 ≤ a && b < th2
        let reach := if pos then th2 ≤ b else b ≤ th1
        let ends := x.runt && (if pos then b < th1 else th2 ≤ b)
        { nx with high := high, runt := if reach then false else if starts then true else if ends then false else x.runt,
                  fires := fire (ends && !reach) (if pos then th1 else th2) }
    | _ => nx

/-- Slots of channel c, the first of index i, reach the detectors that watch it. -/
def State.detWord (s : State) (c i : Nat) (ys : List Slot) : State :=
  if s.on .acq then
    (foldS (fun s d => if s.fld (PLT_DIG_CFG d) 0 3 == c then
        s.modDet d fun x => ((ys.mapIdx fun k y => (i + k, y)).foldl (fun x p => detStep s d x p.1 p.2) x)
      else s) (List.range 8) s).noteLevels s.tide.tb.toNat
  else s

/-- Detector d's oldest firing becomes an event (R228, R236, R239). -/
def State.detFire (s : State) (d : Nat) : State :=
  match (vget s.plt.dets d).fires with
  | [] => s
  | (i, f) :: rest =>
    let s := s.modDet d fun x => { x with fires := rest }
    let c := s.fld (PLT_DIG_CFG d) 0 3
    let den := s.kOf c * s.fcw
    let t := (s.t0 c + (2 * ((i * 65536 + f) * (5 * 2 ^ 60)) + den * 65536) / (2 * den * 65536)) % 2 ^ 72
    s.pilotEvent ⟨9 + d, BitVec.ofNat 72 t, some (c, i, f), s.bit BRT_CHAN_STAT (16 + c), false⟩ s.tide.tb.toNat

/-- Detectors of channel c reset their state (R258). -/
def State.detReset (s : State) (c : Nat) : State :=
  (foldS (fun s d => if s.fld (PLT_DIG_CFG d) 0 3 == c then s.modDet d fun _ => DetSt.reset else s) (List.range 8) s).noteLevels
    s.tide.tb.toNat

/-! ### Pulse ends (R248, R249) -/

/-- The EFIRE pulse ends once its end has been reached: the next event may drive the pair 4 tc later. -/
def State.efireEnd (s : State) : State :=
  if s.plt.efire && s.plt.efireTo ≤ s.tide.tb.toNat + 4 then s.modPlt fun x => { x with efire := false } else s

/-- A TRIGOUT pulse ends once its end has been reached. -/
def State.trigOutEnd (s : State) (j : Nat) : State :=
  if vget s.plt.outEnd j ≤ s.tide.tb.toNat + 4 then s.modPlt fun x => { x with out := x.out &&& ~~~BitVec.ofNat 2 (2 ^ j) } else s

end Sys2Proof.Machine
end

