-- ==== Sys2Proof/Machine/Tally.lean ====
section
/-! DEFINITION. Tally user lanes, calibration and the knob (R354 to R383). -/

namespace Sys2Proof.Machine

/-! ### Lane states -/

/-- MODE, SRC, SLOPE and PARTNER of user lane l (R376). -/
def State.tlyMode (s : State) (l : Nat) : Nat := s.fld (TLY_L_CFG l) 0 3
def State.tlySrc (s : State) (l : Nat) : Nat := s.fld (TLY_L_CFG l) 4 4
def State.tlySlope (s : State) (l : Nat) : Nat := s.fld (TLY_L_CFG l) 8 2
def State.tlyPartner (s : State) (l : Nat) : Nat := s.fld (TLY_L_CFG l) 12 2

/-- STATE of user lane l: 0 IDLE, 1 RUNNING, 2 CLAIMED. -/
def State.tlyState (s : State) (l : Nat) : Nat := s.fld (TLY_L_STAT l) 0 2
def State.setTly (s : State) (l v : Nat) : State :=
  ((s.setFld (TLY_L_STAT l) 0 2 v).setBit TLY_STAT (16 + l) (v == 1)).setBit TLY_STAT (20 + l) (v == 2)

/-- A lane's mode uses its partner (R363). -/
def State.tlyPairs (s : State) (l : Nat) : Bool := s.tlyMode l == 1 || s.tlyMode l == 5

/-- The END codes of TLY_L_STAT. -/
def tlyStop : Nat := 1
def tlyDone : Nat := 2
def tlyAborted : Nat := 3
def tlyClock : Nat := 4
def tlyPower : Nat := 5

/-- A lane forgets its run. -/
def LaneSt.idle (x : LaneSt) : LaneSt :=
  { x with opened := none, lastRise := none, lastFall := none, edges := 0, gateCoarse := false, gateCollide := false,
           period := 0, own := [], partner := [], claimer := none, n := 0, sum := 0, sqr := 0, least := 0, most := 0 }

/-- The run of lane l ends, and its partner is released (R368, R371, R379). -/
def State.tlyEnd (s : State) (l fin : Nat) : State :=
  let s := (s.modLane l (·.idle)).setTly l 0
  let s := s.setEnd (TLY_L_STAT l) fin
  foldS (fun s p => if (s.lane p).claimer == some l then (s.modLane p (·.idle)).setTly p 0 else s) (List.range 4) s

/-- The checks of a start (R357, R363, R368). -/
def State.tlyStartCheck (s : State) (l : Nat) : Except Nat Unit := do
  needA s .tally
  need (s.lhs == 3) 401
  need (s.tlyState l == 0 && (!s.tlyPairs l || s.tlyState (s.tlyPartner l) == 0)) 203
  need (!s.calBusy l && (!s.tlyPairs l || !s.calBusy (s.tlyPartner l))) 303

/-- A run starts (R363, R368); a STOP that took effect at the same instant leaves the lane IDLE (R379). -/
def State.tlyStart (s : State) (l : Nat) : State :=
  if s.edge.stops.getLsbD l then s
  else
  let now := s.now
  let s := (s.modLane l fun x => { x.idle with start := now, waitFrom := some now, accepted := none, seq := 0 }).setTly l 1
  if s.tlyPairs l then
    let p := s.tlyPartner l
    (s.modLane p fun x => { x.idle with start := now, accepted := none, claimer := some l }).setTly p 2
  else s

/-- A STOP ends the run of lane l (R368, R379). -/
def State.tlyHalt (s : State) (l : Nat) : State :=
  (s.tlyEnd l tlyStop).modEdge fun e => { e with stops := BitVec.ofNat 4 (putBits e.stops.toNat l 1 1) }

/-- The checks of a stop (R379). -/
def State.tlyStopCheck (s : State) (l : Nat) : Except Nat Unit := do
  needA s .tally
  need (s.tlyState l == 1) 203

/-! ### Results (R366, R367, R369 to R371) -/

/-- The result word of R369. -/
def resultWord (value : Nat) (valid ovf still coarse collide rising : Bool) (seq : Nat) : Quay :=
  BitVec.ofNat 72 (value % 2 ^ 48 + b2n valid * 2 ^ 48 + b2n ovf * 2 ^ 49 + b2n still * 2 ^ 50 + b2n coarse * 2 ^ 51 +
    b2n collide * 2 ^ 52 + b2n rising * 2 ^ 53 + seq % 65536 * 2 ^ 56)

/-- N of lane l (R371). -/
def State.tlyN (s : State) (l : Nat) : Nat := if s.regN (TLY_L_N l) = 0 then 2 ^ 32 else s.regN (TLY_L_N l)

/-- 256 × the standard deviation of n values, rounded (R371): the greatest r with (2r - 1)² n² ≤ 4 × 65536 (n Σv² - (Σv)²). -/
def statSd (n sum sqr : Int) : Nat := (isqrt ((4 * 65536 * (n * sqr - sum * sum)).toNat / (n * n).toNat) + 1) / 2

/-- A statistics block completes (R371). -/
def State.tlyBlock (s : State) (l : Nat) : State :=
  let x := s.lane l
  let n : Int := x.n
  let s := s.setReg72 (TLY_L_MEAN_Q0 l) (stampInt (roundDiv (256 * x.sum) n))
  let s := s.setReg72 (TLY_L_SD_Q0 l) (BitVec.ofNat 72 (statSd n x.sum x.sqr))
  let s := (s.setReg72 (TLY_L_MIN_Q0 l) (stampInt x.least)).setReg72 (TLY_L_MAX_Q0 l) (stampInt x.most)
  let s := (s.setRegN (TLY_L_STATN l) x.n).flag (TLY_L_EVT l) 1
  let s := s.modLane l fun x => { x with n := 0, sum := 0, sqr := 0, least := 0, most := 0 }
  if s.bit (TLY_L_CFG l) 16 then s else s.tlyEnd l tlyDone

/-- A valid result joins the statistics (R371). -/
def State.tlyGather (s : State) (l : Nat) (v : Int) : State :=
  let s := s.modLane l fun x =>
    { x with n := x.n + 1, sum := x.sum + v, sqr := x.sqr + v * v,
             least := if x.n = 0 then v else min x.least v, most := if x.n = 0 then v else max x.most v }
  if (s.lane l).n = s.tlyN l then s.tlyBlock l else s

/-- A result of lane l is issued (R369, R370). -/
def State.issue (s : State) (l : Nat) (v : Int) (valid ovf still coarse collide rising : Bool) (stamp : Option Quay) : State :=
  let value := ofSigned 48 v
  let w := match stamp with
    | some t => t
    | none => resultWord value valid ovf still coarse collide rising (s.lane l).seq
  let s := (s.setReg72 (TLY_L_RES_Q0 l) w).flag (TLY_L_EVT l) 0
  let s := if (s.lane l).fifo.length < 64 then s.modLane l fun x => { x with fifo := x.fifo ++ [w], seq := x.seq + 1 }
    else ((s.modLane l fun x => { x with seq := x.seq + 1 }).count (TLY_L_LOST l) 1).flag (TLY_L_EVT l) 5
  let s := s.setRegN (TLY_L_FIFO_FILL l) (s.lane l).fifo.length
  let s := s.cond (!valid) (·.count (TLY_L_INVALID l) 1)
  let s := s.cond (valid && s.tlyMode l == 2 && stamp.isNone) (·.modLane l fun x => { x with period := value })
  let s := s.histLane l (s.tlyMode l) value (!valid)
  if s.bit (TLY_L_CFG l) 17 && valid && stamp.isNone then s.tlyGather l v else s

/-- A time result of lane l from two edges: as OVF where its magnitude reaches 2^32 tc (R367), with the slope of the later edge
(R369). -/
def State.issueTime (s : State) (l : Nat) (v : Int) (a b : Mark) : State :=
  let up := if stampGe b.t.toNat a.t.toNat then b.rising else a.rising
  if v.natAbs < 2 ^ 48 ∧ (s.tlyMode l ≠ 5 ∨ v.natAbs < 2 ^ 47) then
    s.issue l v true false false (a.coarse || b.coarse) (a.collide || b.collide) up none
  else if v.natAbs < 2 ^ 48 then
    -- A DIFF of 2^31 tc or more does not fit 48-bit two's complement: the value is free (log 24).
    let f : Int := (Config.freeWord s.free).toNat
    ({ s with free := s.free + 1 }).issue l f true false false (a.coarse || b.coarse) (a.collide || b.collide) up none
  else (s.issue l (-1) false true false (a.coarse || b.coarse) (a.collide || b.collide) up none).flag (TLY_L_EVT l) 2

/-- A FREQ result (R365). -/
def State.issueFreq (s : State) (l : Nat) (m a : Mark) (n : Nat) : State :=
  let d := (m.t.toNat + 2 ^ 72 - a.t.toNat) % 2 ^ 72 * (if s.tlySlope l = 2 then 2 else 1)
  let x := s.lane l
  let f : Nat := (2 * (n * 32768 * 10 ^ 15) + d) / (2 * d)
  s.issue l (f : Int) true false false (x.gateCoarse || a.coarse || m.coarse) (x.gateCollide || a.collide || m.collide) m.rising none

/-- The difference of two stamps as a signed number of LSB (R49). -/
def stampDiff (b a : Quay) : Int := toSigned 72 ((b - a).toNat)

/-- Pair the stamps of a DIFF lane (R364). -/
def State.tlyPair (s : State) (l : Nat) : State :=
  let x := s.lane l
  match x.own, x.partner with
  | a :: as, b :: bs => (s.modLane l fun x => { x with own := as, partner := bs }).issueTime l (stampDiff b.t a.t) a b
  | _, _ =>
    if 16 < x.own.length ∨ 16 < x.partner.length then
      ((s.modLane l fun x => { x with own := [], partner := [] }).count (TLY_L_PAIRLOST l) 1).flag (TLY_L_EVT l) 4
    else s

/-- An accepted edge of lane l in its own run (R363 to R367). -/
def State.tlyOwn (s : State) (l : Nat) (m : Mark) : State :=
  let x := s.lane l
  match s.tlyMode l with
  | 0 => s.issue l 0 true false false m.coarse m.collide m.rising (some m.t)
  | 1 => if x.opened.isSome then s else s.modLane l fun x => { x with opened := some m }
  | 2 =>
    let s1 := s.modLane l fun x => if m.rising then { x with lastRise := some m } else { x with lastFall := some m }
    match if m.rising then x.lastRise else x.lastFall with
    | some a => s1.issueTime l (stampDiff m.t a.t) a m
    | none => s1
  | 3 =>
    let starts := edgeMatch (s.tlySlope l) m.rising
    let s1 := s.modLane l fun x => { x with opened := if starts then some m else none }
    match x.opened with
    | some a => if a.rising ≠ m.rising ∨ s.tlySlope l = 2 then s1.issueTime l (stampDiff m.t a.t) a m else s1
    | none => s1
  | 4 =>
    match x.opened with
    | none => s.modLane l fun x => { x with opened := some m, edges := 0, gateCoarse := false, gateCollide := false }
    | some a =>
      let n := x.edges + 1
      if stampGe m.t.toNat (a.t.toNat + s.fld (TLY_L_GATE l) 0 24 * 32768000) then
        let s1 := s.issueFreq l m a n
        if s1.tlyState l = 1 then
          s1.modLane l fun x => { x with opened := some m, edges := 0, gateCoarse := false, gateCollide := false }
        else s1
      else s.modLane l fun x =>
        { x with edges := n, gateCoarse := x.gateCoarse || m.coarse, gateCollide := x.gateCollide || m.collide }
  | _ => (s.modLane l fun x => { x with own := x.own ++ [m] }).tlyPair l

/-- An accepted edge of lane p counts for the lane l that claims it (R363, R364). -/
def State.tlyFor (s : State) (l : Nat) (m : Mark) : State :=
  if s.tlyMode l = 5 then (s.modLane l fun x => { x with partner := x.partner ++ [m] }).tlyPair l
  else match (s.lane l).opened with
    | some a =>
      if stampGe m.t.toNat a.t.toNat then (s.modLane l fun x => { x with opened := none }).issueTime l (stampDiff m.t a.t) a m
      else s
    | none => s

/-- The source of lane l gives no edge now: NONE, a comparator while CTRL is not ON (R229), or an EDGEIN pin that is not there
or in its park window (R131, R360). -/
def State.tlyDeaf (s : State) (l : Nat) : Bool :=
  let src := s.tlySrc l
  if src = 0 then true
  else if src ≤ 8 then !s.on .ctrl
  else s.inputMuted 5 (src - 9)

/-- An edge of lane l's source is a comparator event that R230 suppresses (R360). -/
def State.tlyMuted (s : State) (l count : Nat) : Bool :=
  1 ≤ s.tlySrc l && s.tlySrc l ≤ 8 && s.cmpMuted (s.tlySrc l - 1) count

/-- An edge reaches user lane l (R353, R360 to R362). -/
def State.tlyEdge (s : State) (l : Nat) (e : LaneEdge) : State :=
  let st := s.tlyState l
  if st = 0 ∨ !s.on .tally ∨ s.lhs ≠ 3 ∨ s.calBusy l ∨ s.tlyDeaf l then s
  else if s.tlyMuted l e.count then s.count PLT_SUPPRESS 1
  else
    let both := st == 1 && s.tlyMode l == 3
    if !both && !edgeMatch (s.tlySlope l) e.rising then s
    else
      let (m, s) := s.capture l e (s.sfld (TLY_L_DLY l) 0 20)
      let x := s.lane l
      if !stampGe m.t.toNat x.start.toNat then s
      else
        let clear := match x.accepted with
          | some a => stampGe m.t.toNat (a.toNat + s.fld (TLY_L_HOLD l) 0 24 * 65536)
          | none => true
        if !clear then s.count (TLY_L_HOLDREJ l) 1
        else
          let s := s.cond m.collide (·.count (TLY_L_COLLIDE l) 1)
          let s := (s.modLane l fun x => { x with accepted := some m.t }).raise (24 + l)
          let s := s.pilotEvent ⟨20 + l, m.t, none, m.coarse, m.collide⟩ (e.count + 10)
          match x.claimer with
          | some o => s.tlyFor o m
          | none => s.tlyOwn l m

/-- A time on the grid of this RCLK cycle has come. -/
def State.reached (s : State) (t : Nat) : Bool := stampGe (s.now.toNat + 327679) t

/-- The stamp from which the FREQ lane l times out: its opening edge, or the start where none has come (R366). -/
def LaneSt.stillFrom (x : LaneSt) : Option Quay :=
  match x.opened with
  | some a => some a.t
  | none => x.waitFrom

/-- The FREQ standstill timeout of lane l (R366): it then waits for a new opening edge, however long. Its value uses no edge, so
no flag of an edge is set (log 46). -/
def State.freqStill (s : State) (l : Nat) : State :=
  let x := s.lane l
  let wait := s.fld (TLY_L_GATE l) 0 24 * 32768000 + s.fld (TLY_L_STILL l) 0 16 * 32768000000
  match x.stillFrom with
  | none => s
  | some since =>
    if s.tlyState l == 1 && s.tlyMode l == 4 && s.reached (since.toNat + wait) then
      let s := s.modLane l fun x => { x with opened := none, edges := 0, waitFrom := none }
      (s.issue l 0 true false true false false false none).flag (TLY_L_EVT l) 3
    else s

/-- An INTERVAL still open 2^32 tc after its start (R367). -/
def State.intervalOvf (s : State) (l : Nat) : State :=
  match (s.lane l).opened with
  | some a =>
    if s.tlyState l == 1 && s.tlyMode l == 1 && s.reached (a.t.toNat + 2 ^ 48) then
      ((s.modLane l fun x => { x with opened := none }).issue l (-1) false true false a.coarse a.collide a.rising none).flag
        (TLY_L_EVT l) 2
    else s
  | none => s

/-- The oldest FIFO word is removed (R370): 0 where it is empty. -/
def State.fifoPop (s : State) (l : Nat) : Quay × State :=
  match (s.lane l).fifo with
  | [] => (0, s)
  | w :: t => (w, (s.modLane l fun x => { x with fifo := t }).setRegN (TLY_L_FIFO_FILL l) t.length)

/-! ### Calibration (R355 to R358) -/

/-- Lane l is in use (R357). -/
def State.laneInUse (s : State) (l : Nat) : Bool :=
  s.calBusy l ||
  (if l < 4 then s.tlyState l != 0
   else if l = 4 then (List.range 8).any s.engRuns || s.bit PLT_EFIRE_CFG 7 || [0, 1].any fun j => s.fld (PLT_TRIGOUT j) 0 2 == 2
   else false)

/-- The checks of a calibration of the lanes of a mask (R357). -/
def State.calCheck (s : State) (m : Nat) : Except Nat Unit := do
  needA s .tally
  need (s.lhs == 3) 401
  need ((maskBits 6 m).all fun l => !s.laneInUse l) 303

/-- A calibration starts (R355). -/
def State.calStart (s : State) (m : Nat) : State := foldS (fun s l => s.setBit TLY_STAT (8 + l) true) (maskBits 6 m) s

/-- A LOAD or a recall that a calibration's table overtakes: it is counted, and CALFAIL is set (R378). -/
def State.loadLost (s : State) (l : Nat) : State := s.ignore.flag TLY_CAL_STAT (8 + l)

/-- A histogram of the 192 codes is full: a calibration takes hits up to this sum (R355, R377). -/
def calFilled (h : List Nat) : Bool := h.length == 192 && h.sum == 4194304

/-- A lane's histogram is full (R355, R356): its new table is built and judged. -/
def State.calHits (s : State) (l : Nat) (h : List Nat) : State :=
  if s.calBusy l && calFilled h then
    let s := s.setBit TLY_STAT (8 + l) false
    let w := calWidths h 0
    if tableOk h w then
      (s.cond ((s.lane l).swap == some false) (·.loadLost l)).modLane l fun x => { x with spare := tblOf w, swap := some true }
    else s.flag TLY_CAL_STAT (8 + l)
  else s

/-- A LOAD of lane l's inactive buffer (R358, R378). -/
def State.tblLoad (s : State) (l : Nat) : State :=
  let w := tblList (s.lane l).spare
  if (s.lane l).swap == some true then s.loadLost l
  else if tableOk w w then s.modLane l fun x => { x with swap := some false }
  else s.flag TLY_CAL_STAT (8 + l)

/-- A pending table swap of lane l happens at the tide edge (R356, R378). -/
def State.tblSwap (s : State) (l : Nat) : State :=
  match (s.lane l).swap with
  | none => s
  | some cal =>
    let s := s.modLane l fun x => { x with table := x.spare, spare := x.table, swap := none }
    (s.setBit TLY_STAT l true).cond cal (·.flag TLY_CAL_STAT l)

/-- Calibrations in progress are abandoned (R382); CALFAIL is set but for a power-down. -/
def State.calAbandon (s : State) (fail : Bool) : State :=
  foldS (fun s l => if s.calBusy l then (s.setBit TLY_STAT (8 + l) false).cond fail (·.flag TLY_CAL_STAT (8 + l)) else s)
    (List.range 6) s

/-- An access of TLY_TBL_DATA (R358, R376): a read, or a write where a value is given; INDEX advances. -/
def State.tblAccess (s : State) (w : Option Nat) : Word × State :=
  let i := s.fld TLY_TBL_SEL 0 8
  let l := s.fld TLY_TBL_SEL 8 3
  let spare := s.bit TLY_TBL_SEL 16
  let t := if spare then (s.lane l).spare else (s.lane l).table
  let v := if i < 192 ∧ l < 6 then BitVec.ofNat 32 (tblGet t i) else 0
  let s1 := match w with
    | none => s
    | some x => if spare && i < 192 && l < 6 then s.modLane l fun y => { y with spare := tblSet y.spare i (x % 65536) } else s.ignore
  (v, s1.setFld TLY_TBL_SEL 0 8 (if i + 1 < 192 then i + 1 else 0))

/-! ### Ends (R382) -/

/-- The results of a lane that wait for a later edge: a measurement opened, the last edge of either direction in PERIOD
mode, and each stamp of a DIFF pair not yet paired (log 46). -/
def LaneSt.openResults (x : LaneSt) : Nat :=
  b2n x.opened.isSome + b2n x.lastRise.isSome + b2n x.lastFall.isSome + x.own.length + x.partner.length

/-- Every lane that is RUNNING ends; its open results are counted invalid on a loss of Lighthouse-S. One that has ended on this
edge takes the cause of the higher rank (R647). -/
def State.tlyEndAll (s : State) (fin : Nat) : State :=
  foldS (fun s l =>
    if s.tlyState l = 1 then (s.cond (fin = tlyClock) (·.count (TLY_L_INVALID l) (s.lane l).openResults)).tlyEnd l fin
    else s.reEnd [tlyClock, tlyPower, tlyAborted] (TLY_L_STAT l) fin)
    (List.range 4) s

/-- Open measurements, for PWR_DISCARD_4 (R382). -/
def State.tlyOpen (s : State) : Nat :=
  (List.range 4).foldl (fun n l => n + if s.tlyState l = 1 then (s.lane l).openResults else 0) 0

/-! ### The knob (R372 to R375) -/

def State.modKnob (s : State) (f : KnobSt → KnobSt) : State := { s with knob := f s.knob }

/-- The entry of KNB_ACC a speed selects (R374). -/
def State.knobEntry (s : State) (speed : Nat) (svalid : Bool) (detent : Nat) : Nat :=
  if !svalid then 0
  else (List.range 8).foldl (fun b i => if i = 0 ∨ s.fld (KNB_ACC i) 0 16 * detent * 256 ≤ speed then i else b) 0

/-- A count reaches the setpoint service (R374, R375). -/
def State.knobService (s : State) (d : Int) (speed : Nat) (svalid : Bool) : State :=
  if !s.bit KNB_SVC 0 then s
  else
    let detent := 2 ^ s.fld KNB_SVC 8 2
    let a := (if s.knob.acc * d < 0 then 0 else s.knob.acc) + d
    if detent ≤ a.natAbs then
      let st : Int := d * s.fld (KNB_ACC (s.knobEntry speed svalid detent)) 16 16
      s.modKnob fun k =>
        if s.lateNow then { k with acc := 0, later := k.later + st, laterN := k.laterN + 1 }
        else { k with acc := 0, steps := k.steps + st, stepsN := k.stepsN + 1 }
    else s.modKnob fun k => { k with acc := a }

/-- The filter period in TCLK periods (R372). -/
def State.filtTc (s : State) : Nat := if s.fld KNB_CFG 0 10 = 0 then 1 else s.fld KNB_CFG 0 10 * 500

/-- The level of encoder input j, which has been `was`, at a TCLK count: a pin that is not there or in its park window gives no
change (R131), nor does the filter within its period of the last one (R372, R377). -/
def State.encLevel (s : State) (j : Nat) (was high : Bool) (last : Option Nat) (count : Nat) : Bool :=
  let filtered := match last with
    | some c => (count + 2 ^ 56 - c) % 2 ^ 56 < s.filtTc
    | none => false
  if s.inputMuted 6 j || filtered then was else high

/-- A filtered encoder level changes (R372, R373). -/
def State.knobEdge (s : State) (a1 b1 : Bool) (count : Nat) : State :=
  if !s.on .tally ∨ s.lhs ≠ 3 then s
  else match s.knob.levels with
  | none => s.modKnob fun k => { k with levels := some (a1, b1) }
  | some (a0, b0) =>
    let a := s.encLevel 0 a0 a1 s.knob.changedA count
    let b := s.encLevel 1 b0 b1 s.knob.changedB count
    let s := s.modKnob fun k =>
      { k with levels := some (a, b), changedA := if a = a0 then k.changedA else some count
               changedB := if b = b0 then k.changedB else some count }
    if a = a0 ∧ b = b0 then s
    else if a ≠ a0 ∧ b ≠ b0 then
      let s := (s.count KNB_ERR 1).flag KNB_EVT 2
      let s := s.modKnob fun k => { k with last := none, fresh := true }
      (s.setRegN KNB_SPEED 0).setBit KNB_STAT 2 false
    else
      let cw := (if a ≠ a0 then b == a else a != b) != s.bit KNB_CFG 31
      let d : Int := if cw then 1 else -1
      let rev := !s.knob.fresh && s.bit KNB_STAT 0 != cw
      let ivl := match s.knob.last with
        | some c => if s.knob.fresh || rev then none else some ((count + 2 ^ 56 - c) % 2 ^ 32)
        | none => none
      let sv := ivl.isSome
      let (v, s) := match ivl with
        | none => (0, s)
        | some i =>
          let q := (2 * (256 * 500000000) + i) / (2 * i)
          if i = 0 ∨ 2 ^ 32 ≤ q then ((Config.freeWord s.free).toNat, { s with free := s.free + 1 }) else (q, s)
      let s := s.setRegN KNB_POS (ofSigned 32 (toSigned 32 (s.regN KNB_POS) + d))
      let s := (s.setRegN KNB_SPEED v).setRegN KNB_STAT (b2n cw + b2n sv * 4)
      let s := s.modKnob fun k => { k with last := some count, fresh := false, moved := true }
      s.knobService d v sv

/-- The knob stops with Lighthouse-S (R382): its position is kept, and decoding begins anew from the levels it finds then. -/
def State.knobStop (s : State) : State :=
  if !s.on .tally then s
  else ((s.setRegN KNB_SPEED 0).setBit KNB_STAT 2 false).modKnob fun k =>
    { k with levels := none, changedA := none, changedB := none, last := none, fresh := true }

/-- The knob resumes with Lighthouse-S, standing still (R382). -/
def State.knobResume (s : State) : State := s.cond (s.on .tally) (·.setBit KNB_STAT 1 true)

/-- The TCLK count of the last knob edge (R373). -/
def KnobSt.lastEdge (k : KnobSt) : Option Nat :=
  match k.changedA, k.changedB with
  | some a, some b => some (max a b)
  | some a, none => some a
  | none, b => b

/-- No knob edge has come for STILL ms (R373). -/
def State.knobIdle (s : State) : Bool :=
  match s.knob.lastEdge with
  | some c => s.reached ((c + s.fld KNB_CFG 10 16 * 500000) * 65536)
  | none => false

/-- The knob stands still (R373). -/
def State.knobStill (s : State) : State :=
  if s.bit KNB_STAT 1 || !s.on .tally || s.lhs != 3 || !s.knobIdle then s
  else
    let s := ((s.setRegN KNB_SPEED 0).setBit KNB_STAT 2 false).setBit KNB_STAT 1 true
    (s.modKnob fun k => { k with last := none, fresh := true }).flag KNB_EVT 1

end Sys2Proof.Machine
end

