-- ==== Sys2Proof/Machine/Sluice.lean ====
section
/-! DEFINITION. The Sluice (R384 to R416): the control laws, pairs, banks, lists, and the checks of its changes. -/

namespace Sys2Proof.Machine

/-- Loop n and its update. -/
def State.loop (s : State) (n : Nat) : LoopSt := vget s.slc.loops n
def State.modLoop (s : State) (n : Nat) (f : LoopSt → LoopSt) : State :=
  { s with slc := { s.slc with loops := vmod s.slc.loops n f } }
def State.modList (s : State) (n : Nat) (f : ListSt → ListSt) : State :=
  s.modLoop n fun x => { x with lst := f x.lst }

/-! ### Pairs, modes and drivers (R384, R396, R417) -/

/-- The even loop of n's couple has PAIR set (R396). -/
def State.paired (s : State) (n : Nat) : Bool := s.bit (SLC_L_CFG (n - n % 2)) 8

/-- The loop whose MODE, TIMING and PORTS loop n runs under. -/
def State.lead (s : State) (n : Nat) : Nat := if s.paired n then n - n % 2 else n

/-- The loops that run under the loop n. -/
def State.unit (s : State) (n : Nat) : List Nat :=
  if s.paired n then [n - n % 2, n - n % 2 + 1] else [n]

/-- The other loop of n's pair. -/
def State.partner (s : State) (n : Nat) : Option Nat :=
  if s.paired n then some (if n % 2 = 0 then n + 1 else n - 1) else none

/-- The mode in force of loop n: 0 OFF, 1 MANUAL, 2 AUTO. -/
def State.loopMode (s : State) (n : Nat) : Nat := s.fld (SLC_L_MODE (s.lead n)) 0 2

/-- Any loop is in automatic. -/
def State.anyAuto (s : State) : Bool := (List.range 8).any fun n => s.loopMode n == 2

/-- The loop that drives port p, a pair by its even loop (R417). -/
def State.driver (s : State) (p : Nat) : Option Nat :=
  (List.range 8).find? fun n => s.lead n == n && s.loopMode n != 0 && s.bit (SLC_L_PORTS n) p

/-- A loop in AUTO drives port p. -/
def State.autoDrives (s : State) (p : Nat) : Bool :=
  match s.driver p with
  | some n => s.loopMode n == 2
  | none => false

/-- A trip is latched for loop n (R433). -/
def State.tripped (s : State) (n : Nat) : Bool := s.bit PRT_TRIPPED n

/-- SLC_L_STAT.STATE of loop n (R384, R402, R410). -/
def State.loopState (s : State) (n : Nat) : Nat :=
  if s.loopMode n = 0 then 0 else if (s.loop n).moored then 3 else s.loopMode n

/-! ### Banks (R386, R403, R410) -/

/-- The address of word `off` of loop n's slot of a bank. -/
def bankAt (n : Nat) (bankB : Bool) (off : Nat) : Nat := SLC_BANK (192 * (n + 8 * b2n bankB)) + off

/-- A word of loop n's active bank. -/
def State.bankW (s : State) (n off : Nat) : Nat := s.regN (bankAt n (s.loop n).bank off)

/-- The loop and the bank a bank-slot offset belongs to, and its place in the slot. -/
def bankOf (off : Nat) : Option (Nat × Bool × Nat) :=
  if SLC_BANK 0 ≤ off ∧ off < SLC_BANK 3072 then
    let k := (off - SLC_BANK 0) / 0x300
    some (k % 8, 8 ≤ k, (off - SLC_BANK 0) % 0x300)
  else none

/-- The assigned bits of a bank word, as written (R410): NSTAGES 7 becomes 6, the reserved slot word stays 0. -/
def bankCoerce (place w : Nat) : Nat :=
  if place < 0x78 then (if place % 20 = 0 then bits w 0 20 + bits w 24 6 * 2 ^ 24 else bits w 0 20)
  else if place = 0x78 then bits w 0 20 + min 6 (bits w 20 3) * 2 ^ 20 + bits w 24 6 * 2 ^ 24
  else if place = 0x7C then 0
  else w

/-- A bank word may be written directly: its bank is inactive and no swap of the loop is pending (R403). -/
def State.bankFree (s : State) (n : Nat) (bankB : Bool) : Bool := (s.loop n).bank != bankB && !(s.loop n).swap

/-- Write a word of loop n's inactive bank, as a Damisk command does (R403). -/
def State.bankSet (s : State) (n off w : Nat) : State := s.setRegN (bankAt n (!(s.loop n).bank) off) w
def State.bankSpare (s : State) (n off : Nat) : Nat := s.regN (bankAt n (!(s.loop n).bank) off)

/-- A signed 16-bit table entry i of the table at `base` of the active bank (R389, R390). -/
def State.tabEntry (s : State) (n base i : Nat) : Int := toSigned 16 (bits (s.bankW n (base + 4 * (i / 2))) (16 * (i % 2)) 16)

/-! ### Coefficients (R386, R392) -/

/-- A decimal number times 2^k, rounded half away from zero. -/
def scaleDec (d : Dec) (k : Int) : Int :=
  let num := d.man * (if 0 ≤ d.exp10 then 10 ^ d.exp10.toNat else 1) * (if 0 ≤ k then 2 ^ k.toNat else 1)
  let den := (if 0 ≤ d.exp10 then 1 else 10 ^ (-d.exp10).toNat) * (if 0 ≤ k then 1 else 2 ^ (-k).toNat)
  roundDiv num den

/-- The smallest shared exponent, from `e` on, for which all mantissas fit, and the mantissas (R392). -/
def normGo (ds : List Dec) : Nat → Int → Option (Int × List Int)
  | 0, _ => none
  | f + 1, e =>
    let ms := ds.map fun d => scaleDec d (18 - e)
    if ms.all fun m => m.natAbs ≤ 524287 then some (e, ms) else normGo ds f (e + 1)

/-- Normalised mantissas and their shared exponent (R392). -/
def normalise (ds : List Dec) : Option (Int × List Int) :=
  if ds.all fun d => d.man == 0 then some (0, ds.map fun _ => 0) else normGo ds 64 (-32)

/-- The mantissa of an a coefficient (R392). -/
def normA (d : Dec) : Option Int :=
  let m := scaleDec d 18
  if -524288 ≤ m ∧ m ≤ 524287 then some m else none

/-! ### The cascade law (R385 to R391) -/

/-- Saturation to 56 bits. -/
def sat56 (x : Int) : Int := clampInt (-(2 ^ 55)) (2 ^ 55 - 1) x

/-- x × 2^e, a right shift rounded to nearest with ties away from zero. -/
def shiftE (x e : Int) : Int := if 0 ≤ e then x * 2 ^ e.toNat else roundDiv x (2 ^ (-e).toNat)

/-- One stage (R387): y, the new states, and whether a step saturated. -/
def stageStep (b0 b1 b2 a1 a2 e u : Int) (x : StageSt) : Int × StageSt × Bool :=
  let q := shiftE (b0 * u + b1 * x.u1 + b2 * x.u2) e
  let acc := sat56 q - a1 * x.y1 - a2 * x.y2
  let y := roundDiv (sat56 acc) (2 ^ 18)
  let ys := clampInt (-8388608) 8388607 y
  (ys, ⟨u, x.u1, ys, x.y1⟩, sat56 q != q || sat56 acc != acc || ys != y)

/-- Stage k of loop n with the active bank. -/
def State.stage (s : State) (n k : Nat) (u : Int) (x : StageSt) : Int × StageSt × Bool :=
  let m := fun j => toSigned 20 (bits (s.bankW n (20 * k + 4 * j)) 0 20)
  stageStep (m 0) (m 1) (m 2) (m 3) (m 4) (toSigned 6 (bits (s.bankW n (20 * k)) 24 6)) u x

/-- The stages in use, in series: the output, the new states and SAT. -/
def State.cascade (s : State) (n : Nat) : List Nat → Int → Vector StageSt 6 → Bool → Bool → Int × Vector StageSt 6 × Bool
  | [], y, v, sat, any => (if any then y else 0, v, sat)
  | k :: t, u, v, sat, _ =>
    let r := s.stage n k u (vget v k)
    s.cascade n t r.1 (vset v k r.2.1) (sat || r.2.2) true

/-- NSTAGES of loop n. -/
def State.nstages (s : State) (n : Nat) : Nat := min 6 (bits (s.bankW n 0x78) 20 3)

/-- T_C of loop n (R397). -/
def State.compTime (s : State) (n : Nat) : Nat := if s.bit (SLC_L_CFG n) 0 then 2 else 4 + 5 * s.nstages n

/-- The integrator step ΔI (R388) and SAT. -/
def State.deltaI (s : State) (n : Nat) (e : Int) : Int × Bool :=
  let w := s.bankW n 0x78
  let d := shiftE (toSigned 20 (bits w 0 20) * e) (toSigned 6 (bits w 24 6) + 6)
  (sat56 d, sat56 d != d)

/-- ILO and IHI scaled (R388). -/
def State.iClamp (s : State) (n : Nat) (x : Int) : Int :=
  clampInt (s.sfld (SLC_L_ILO n) 0 24 * 2 ^ 24) (s.sfld (SLC_L_IHI n) 0 24 * 2 ^ 24) x

/-- I16 (R388). -/
def i16 (iraw : Int) : Int := roundDiv iraw (2 ^ 24)

/-- The deadband term (R389). -/
def State.deadband (s : State) (n : Nat) (sp : Int) : Int :=
  let v := (sp + 32768).toNat
  let j := v / 1024
  let t := s.tabEntry n 0x80
  if j ≥ 63 then 16 * t 63
  else 16 * t j + roundDiv (16 * (t (j + 1) - t j) * ((v % 1024 : Nat) : Int)) 1024

/-- OUT limited to OUTMIN..OUTMAX (R391). -/
def State.outClamp (s : State) (n : Nat) (x : Int) : Int := clampInt (s.sfld (SLC_L_OUTMIN n) 0 20) (s.sfld (SLC_L_OUTMAX n) 0 20) x

/-- The setpoint in force (R385). -/
def State.spNow (s : State) (n : Nat) : Int :=
  let x := (s.loop n).lst
  let sp := if x.st = 0 then s.sfld (SLC_L_SETP n) 0 16 else x.sp
  clampInt (-32768) 32767 (sp + if s.bit (SLC_L_CFG n) 9 then s.slc.share else 0)

/-- The last delivered tide sample of INCH, in 1/16 code (R385, R400); where none has been delivered it is free (log 6). -/
def State.sampleOf (s : State) (ch : Nat) : Int × State :=
  if s.regN (BRT_MONCNT ch) = 0 then
    (clampInt (-524288) 524280 (Config.freeInt s.free), { s with free := s.free + 1 })
  else (s.sfld (BRT_MON ch) 0 20, s)

/-- INCH of loop n. -/
def State.inch (s : State) (n : Nat) : Nat := s.fld (SLC_L_CFG n) 4 3

/-- The error e (R385). -/
def State.loopErr (s : State) (n : Nat) (x : Int) : Int :=
  if s.bit (SLC_L_CFG n) 2 then x - 16 * s.spNow n else 16 * s.spNow n - x

/-- The phase position φ at tide cycle W − 3 (R390), none where the source is bad, `ago` cycles after the sampling edge. -/
def State.phase (s : State) (n ports ago : Nat) : Option Nat :=
  match s.fld (SLC_L_CFG n) 12 3 with
  | 1 =>
    match (List.range 8).find? fun p => bits ports p 1 == 1 && s.fld (SLP_P_CFG p) 0 2 == 2 with
    | some p =>
      let per := max 1 (s.fld (SLP_P_PWM p) 0 12)
      some (256 * (((vget s.slip.ports p).cnt + ago * per - ago) % per) / per)
    | none => none
  | k =>
    let l := k - 2
    let x := s.lane l
    if 2 ≤ k && s.tlyState l == 1 && s.tlyMode l == 2 && x.period != 0 then
      match x.accepted with
      | some te =>
        let ts := (s.now.toNat : Int) - ago * (5 * 65536)
        some ((Int.fdiv (256 * toSigned 72 (((ts - te.toNat) % 2 ^ 72).toNat)) x.period) % 256).toNat
      | none => none
    else none

/-- The result of a loop's law in one tide. -/
structure LawRes where
  out : Int
  stages : Vector StageSt 6
  iraw : Int
  high : Bool
  /-- y_N, the deadband and the ripple term, for a preset. -/
  terms : Int
  sat : Bool
  clamp : Bool
  outsat : Bool
  phbad : Bool

/-- The preset of R394 to a target. -/
def State.preset (s : State) (n : Nat) (target : Int) (r : LawRes) : LawRes :=
  let v := (16 * target - r.terms) * 2 ^ 24
  { r with iraw := s.iClamp n v, clamp := s.iClamp n v != v }

/-- The cascade law of loop n on the error e, without its integrator step (R387, R389, R390). -/
def State.lawBase (s : State) (n ports : Nat) (e : Int) : LawRes :=
  let x := s.loop n
  let c := s.cascade n (List.range (s.nstages n)) e x.stages false false
  let src := s.fld (SLC_L_CFG n) 12 3
  let ph := x.phi.getD (s.phase n ports 3)
  let rip := if src = 0 then 0 else 16 * s.tabEntry n 0x100 (ph.getD 0)
  { out := 0, stages := c.2.1, iraw := x.iraw, high := x.high, terms := c.1 + s.deadband n (s.spNow n) + rip, sat := c.2.2,
    clamp := false, outsat := false, phbad := src != 0 && ph.isNone }

/-- OUT of the cascade law (R391). -/
def State.lawOut (s : State) (n : Nat) (r : LawRes) : LawRes :=
  let o := roundDiv (r.terms + i16 r.iraw) 16
  { r with out := s.outClamp n o, outsat := s.outClamp n o != o }

/-- The last OUT written (R395, R404). -/
def State.lastOut (s : State) (n : Nat) : Int := s.sfld (SLC_L_OUT n) 0 20

/-- The law of loop n in an AUTO tide (R387 to R393, R404). -/
def State.lawAuto (s : State) (n ports : Nat) (e : Int) : LawRes :=
  let x := s.loop n
  let lo := s.sfld (SLC_L_OUTMIN n) 0 20
  let hi := s.sfld (SLC_L_OUTMAX n) 0 20
  if s.bit (SLC_L_CFG n) 0 then
    let band : Int := 16 * s.fld (SLC_L_BAND n) 0 15
    let high := if e > band then true else if e < -band then false
      else if x.auto then x.high else s.lastOut n ≥ Int.fdiv (lo + hi) 2
    { out := if high then hi else lo, stages := x.stages, iraw := x.iraw, high := high, terms := 0, sat := false,
      clamp := false, outsat := false, phbad := false }
  else
    let r := s.lawBase n ports e
    if x.swapped && s.bit (SLC_L_CFG n) 10 then s.lawOut n (s.preset n (s.lastOut n) r)
    else
      let d := s.deltaI n e
      s.lawOut n { r with iraw := s.iClamp n (x.iraw + d.1), sat := r.sat || d.2 }

/-- The law of loop n in a MANUAL tide that writes T (R394). -/
def State.lawManual (s : State) (n ports : Nat) (e target : Int) : LawRes :=
  let x := s.loop n
  let t := s.outClamp n target
  if s.bit (SLC_L_CFG n) 0 || !x.got then
    { out := t, stages := x.stages, iraw := x.iraw, high := x.high, terms := 0, sat := false, clamp := false,
      outsat := false, phbad := false }
  else { s.preset n t (s.lawBase n ports e) with out := t }

/-! ### One tide of a loop (R397 to R401) -/

/-- The write cycle of a loop or pair (R398). -/
def State.writeCycle (s : State) (n : Nat) : Nat :=
  if s.bit (SLC_L_CFG n) 1 then max 10 (5 + (s.unit n).foldl (fun m k => max m (s.compTime k)) 0)
  else s.fld (SLC_L_TIME n) 0 10

/-- A field of a register shows a value from the next RCLK edge on (R397). -/
def State.showNext (s : State) (off lo w v : Nat) : State :=
  { s with slc := { s.slc with shown := s.slc.shown ++ [(off, lo, w, v)] } }

/-- The registers show what the writes of the last edge have left (R397). -/
def State.slcShow (s : State) : State :=
  s.slc.shown.foldl (fun s x => s.setFld x.1 x.2.1 x.2.2.1 x.2.2.2) { s with slc := { s.slc with shown := [] } }

/-- A loop takes the results of the tide: its states now, its status and registers on the next edge (R387, R397, R410). -/
def State.takeLaw (s : State) (n : Nat) (r : LawRes) (e : Int) (ran auto : Bool) : State :=
  let s := s.modLoop n fun x =>
    { x with stages := r.stages, iraw := r.iraw, high := r.high, auto := auto, swapped := x.swapped && !ran }
  let s := s.cond r.sat fun s => (s.flag SLC_EVT (24 + n)).count (SLC_L_SAT n) 1
  let s := s.cond ran fun s =>
    (s.showNext (SLC_L_INT n) 0 32 (ofSigned 24 (i16 r.iraw))).showNext (SLC_L_ERR n) 0 32 (ofSigned 24 e)
  s.showNext (SLC_L_STAT n) 2 6
    (b2n r.high * 2 + b2n (auto && !(s.loop n).got && ran) * 4 + b2n r.clamp * 8 + b2n r.outsat * 16 + b2n r.phbad * 32)

/-- The samples a loop's law needs in this tide, and its error. -/
def State.errNow (s : State) (n : Nat) : Int × State :=
  let r := s.sampleOf (s.inch n)
  (r.2.loopErr n r.1, r.2)

/-- A tide sample of a loop of the unit is missing. -/
def State.unitMissing (s : State) (n : Nat) : Bool := (s.unit n).any fun k => !(s.loop k).got

/-- A moored loop, or one whose trip was cleared in this tide, writes nothing (R402). -/
def State.mayWrite (s : State) (n : Nat) : Bool := (s.unit n).all fun k => !(s.loop k).moored && !(s.loop k).after

/-- The loop or pair of lead n computes its tide (R387 to R400): the OUT it writes, where it writes one. -/
def State.loopTide (s : State) (n : Nat) : Option Int × State :=
  let ls := s.unit n
  let mode := (s.loop n).mode
  let ports := s.fld (SLC_L_PORTS n) 0 8
  let s := ls.foldl (fun s k => s.modLoop k fun x => { x with done := true }) s
  if mode = 2 && s.bit (SLC_L_CFG n) 1 && s.unitMissing n then
    (none, ls.foldl (fun s k => s.showNext (SLC_L_STAT k) 2 6 (b2n (s.loop k).high * 2)) s)
  else
    let go := fun (acc : List (Nat × Int × LawRes) × State) (k : Nat) =>
      let r := acc.2.errNow k
      let law := if mode = 2 then r.2.lawAuto k ports r.1 else r.2.lawManual k ports r.1 (s.loop n).man
      (acc.1 ++ [(k, r.1, law)], r.2)
    let acc := ls.foldl go ([], s)
    let s := acc.2
    let outs := acc.1.map fun x => x.2.2.out
    let best := outs.foldl min (outs.headD 0)
    let sel := (acc.1.find? fun x => x.2.2.out == best).map (·.1)
    let s := acc.1.foldl (fun s x =>
      let k := x.1
      let other := mode == 2 && ls.length == 2 && sel != some k && !s.bit (SLC_L_CFG k) 0
      let r := if other then s.preset k best x.2.2 else x.2.2
      let ran := mode == 2 || (s.loop k).got
      (s.takeLaw k r x.2.1 ran (mode == 2)).showNext (SLC_L_STAT k) 2 1
        (b2n (ls.length == 2 && (if mode = 2 then sel == some k else k == n)))) s
    if s.mayWrite n then
      (some best, ls.foldl (fun s k =>
        (s.showNext (SLC_L_OUT k) 0 32 (ofSigned 20 best)).showNext (SLC_L_STAT k) 16 10 (s.writeCycle n)) s)
    else (none, s)

/-- What loop n takes at tide cycle 0 (R397, R402): the mode and MANOUT of the tide, and whether its sample came. -/
def State.loopEdge (s : State) (n : Nat) : State :=
  let got := (vget s.brt.chans (s.inch n)).win.isSome
  let s := s.modLoop n fun x =>
    { x with mode := s.loopMode n, man := s.sfld (SLC_L_MANOUT (s.lead n)) 0 20, got := got, done := false,
             after := false, auto := x.auto && s.loopMode n != 0, phi := none }
  { s with slc := { s.slc with runs := vset s.slc.runs n (s.fld (SLC_L_STAT n) 8 8) } }

/-- What loop n does at tide cycle 1 (R397, R400, R401): SP is formed, the missing run updated, MISS flagged, and SAMPLE is due. A
sample that is missing because its window did not close in a shortened tide leaves MISSRUN as it was (R65). -/
def State.loopFirst (s : State) (n : Nat) : State :=
  let x := s.loop n
  let s := s.cond (x.mode != 0) (·.setRegN (SLC_L_SPNOW n) (ofSigned 16 (s.spNow n)))
  if x.mode ≠ 2 ∨ x.got then s.setFld (SLC_L_STAT n) 8 8 0
  else
    let short := s.slc.short
    let s := s.cond (!short) (·.countFld (SLC_L_STAT n) 8 8 1)
    let s := if s.bit (SLC_L_CFG (s.lead n)) 1 then (s.flag SLC_EVT n).count (SLC_L_MISSED n) 1
      else (s.flag SLC_EVT (8 + n)).count (SLC_L_STALE n) 1
    let s := s.raise (72 + n)
    if !short && s.fld SLC_MOOR_AFTER 0 8 ≤ s.fld (SLC_L_STAT n) 8 8 && !s.tripped n then
      (s.unit n).foldl (fun s k => { s with prt := { s.prt with due := vmod s.prt.due k (· ||| 128) } }) s
    else s

/-- Loop n uses the ripple table in this tide and has not written. -/
def State.ripples (s : State) (n : Nat) : Bool :=
  (s.loop n).mode != 0 && !(s.loop n).done && !s.bit (SLC_L_CFG n) 0 && s.fld (SLC_L_CFG n) 12 3 != 0

/-- φ of loop n is sampled on the edge of tide cycle W − 3 (R390). -/
def State.phiTake (s : State) (n : Nat) : State :=
  if s.ripples n && s.tide.cycle + 3 == s.writeCycle (s.lead n) then
    s.modLoop n fun x => { x with phi := some (s.phase n (s.fld (SLC_L_PORTS (s.lead n)) 0 8) 0) }
  else s

/-- What the Sluice does on an RCLK edge that is no tide edge (R397). -/
def State.slcDue (s : State) : State :=
  if !s.on .ctrl then s
  else foldS State.phiTake (List.range 8) (s.cond (s.tide.cycle = 1) (foldS State.loopFirst (List.range 8)))

/-- The Sluice has nothing to do on the coming edges of the tide. -/
def State.slcQuiet (s : State) : Bool :=
  s.slc.shown.isEmpty && (!s.on .ctrl || (List.range 8).all fun n =>
    (s.tide.cycle != 0 || ((s.loop n).mode == 0 && s.fld (SLC_L_STAT n) 8 8 == 0)) &&
    (!s.ripples n || s.writeCycle (s.lead n) ≤ s.tide.cycle + 3))

/-- A shortened tide ends: it leaves MISSRUN as it was (R401), and a loop in AUTO that had not written counts it as missed
(R65, R400). -/
def State.loopShort (s : State) (n : Nat) : State :=
  let x := s.loop n
  let s := s.cond (s.on .ctrl && x.mode == 2) (·.setFld (SLC_L_STAT n) 8 8 (vget s.slc.runs n))
  if s.on .ctrl && x.mode == 2 && !x.done && !(s.bit (SLC_L_CFG (s.lead n)) 1 && s.unitMissing n) then
    (s.flag SLC_EVT n).count (SLC_L_MISSED n) 1
  else s

/-! ### Swaps (R404) -/

/-- Swap loop n's banks, once per boundary (R122, R404). -/
def State.swapBank (s : State) (n : Nat) : State :=
  if (s.loop n).swapNow then s
  else s.modLoop n fun x => { x with bank := !x.bank, swapNow := true, swapped := true }

/-- Stage swaps of the loops of a mask (R404). -/
def State.stageSwap (s : State) (m : Nat) : State :=
  (maskBits 8 m).foldl (fun s n => s.modLoop n fun x => { x with swap := true }) s

/-- The pending swaps take effect at tide cycle 0 (R404, R412). -/
def State.swapEdge (s : State) : State :=
  foldS (fun s n => if (s.loop n).swap then (s.modLoop n fun x => { x with swap := false }).swapBank n else s) (List.range 8) s

/-! ### Lists (R405 to R407) -/

/-- Apply entry i of the list memory to loop n. -/
def State.listApply (s : State) (n i : Nat) : State :=
  s.modList n fun x =>
    { x with idx := i, sp := s.sfld (SLC_LIST i) 0 16, left := s.fld (SLC_LIST i) 16 16, now := true, due := false }

/-- A list runs (R406). -/
def State.listRun (s : State) (n : Nat) : State :=
  (s.modList n fun x => { x with st := 1, passes := 0 }).listApply n (s.fld (SLC_L_LIST n) 0 12)

/-- A list goes to HOLD (R406). -/
def State.listHold (s : State) (n : Nat) : State :=
  s.modList n fun x => if x.st = 1 then { x with st := 2, due := false, step := false } else x

/-- The next entry applies, or the list ends (R406). -/
def State.listNext (s : State) (n : Nat) : State :=
  let x := (s.loop n).lst
  if x.st ≠ 1 then s
  else if x.idx < s.fld (SLC_L_LIST n) 16 12 then s.listApply n (x.idx + 1)
  else
    let s := s.modList n fun x => { x with passes := x.passes + 1 }
    let rep := s.fld (SLC_L_REPEAT n) 0 16
    if rep ≠ 0 && rep ≤ x.passes + 1 then
      let s := s.modList n fun x => { x with st := 2, left := 0, due := false, step := false }
      ((s.flag SLC_EVT (16 + n)).raise 7).notify .list 5 [.word ("L" ++ toString n)]
    else s.listApply n (s.fld (SLC_L_LIST n) 0 12)

/-- The list of loop n at a tide edge (R406, R412): a staged STEP applies the next entry; an entry whose dwell ends makes
its successor due, and one boundary steps a list once. The edge of a shortened tide leaves a STEP staged (R65). -/
def State.listEdge (short : Bool) (s : State) (n : Nat) : State :=
  let x := (s.loop n).lst
  if x.st ≠ 1 then s.modList n fun x => { x with step := false, now := false }
  else
    let left := if x.now then x.left else x.left - 1
    let ends := !x.now && x.left == 1
    let s := s.modList n fun x => { x with left := left, due := x.due || ends, step := x.step && short }
    if x.step && !short then s.listNext n else s

/-- A STEP staged for the running loops of a mask; the loops that are not RUNNING (R406). -/
def State.stageStep (s : State) (m : Nat) : List Nat × State :=
  ((maskBits 8 m).filter fun n => (s.loop n).lst.st != 1,
   (maskBits 8 m).foldl (fun s n => s.modList n fun x => if x.st = 1 then { x with step := true } else x) s)

/-- LISTSTAT of loop n (R410). -/
def State.listStat (s : State) (n : Nat) : Nat :=
  let x := (s.loop n).lst
  x.idx + x.st * 2 ^ 12 + x.left * 2 ^ 16

/-- SLC_STAT (R410). -/
def State.slcStat (s : State) : Nat :=
  (List.range 8).foldl (fun a n =>
    a + b2n (s.loop n).bank * 2 ^ n + b2n (s.loopMode n == 2) * 2 ^ (8 + n) + b2n (s.loopState n == 3) * 2 ^ (16 + n) +
      b2n ((s.loop n).lst.st == 1) * 2 ^ (24 + n)) 0

/-! ### Mode changes (R395, R408) -/

/-- The checks of a MODE change of loop n to v (R29, R396, R402, R408, R568). -/
def State.modeCheck (s : State) (n v : Nat) : Except Nat Unit := do
  let ls := s.unit n
  need (v != 3) 105
  if v = 2 then
    needDoms s (.ctrl :: (ls.flatMap fun k =>
      (routeBerths s.route (s.inch k)).map berthDom ++ (if s.bit (SLC_L_CFG k) 9 then [.emica] else [])))
    need (s.lha == 3) 401
  else if v = 1 then needA s .ctrl
  need (!ls.any fun k => s.tripped k) 204
  need (s.lead n == n) 203
  if v ≠ 0 then
    let ports := s.fld (SLC_L_PORTS n) 0 8
    need (!(List.range 8).any fun k =>
      s.lead k == k && k != n && s.loopMode k != 0 && (s.fld (SLC_L_PORTS k) 0 8 &&& ports) != 0) 203
    need ((maskBits 8 ports).all fun p => s.fld (SLP_P_CFG p) 0 2 == 1 || s.fld (SLP_P_CFG p) 0 2 == 2) 203
    if v = 2 then
      need (ports != 0) 203
      need (ls.all fun k => !(routeBerths s.route (s.inch k)).isEmpty) 203
      let a := s.fld (SLC_L_TIME n) 0 10
      let b := s.fld (SLC_L_TIME n) 16 10
      need (40 ≤ a && a + 10 ≤ s.fld SYS_TIDE_LEN 0 10 && 40 ≤ b && b + 10 ≤ s.fld SYS_TIDE_LEN 0 10) 203

/-- What a MODE change of loop n does beside its field, from the state `s0` before it (R395, R428). -/
def State.modeEffect (s0 s : State) (n : Nat) : State :=
  let was := s0.loopMode n
  let is := s.loopMode n
  let s := if is = 2 ∧ was ≠ 2 then (s.unit n).foldl (fun s k => s.modLoop k fun x => { x with since := s.tide.number }) s else s
  if was = 2 ∧ is = 1 ∧ (s.loop n).manNow = false then s.setRegN (SLC_L_MANOUT n) (ofSigned 20 (s.lastOut n)) else s

/-- A loop is moored at the mooring instant (R402). -/
def State.moorLoop (s : State) (n : Nat) : State :=
  if s.loopMode n = 0 then s
  else
    let s := if s.lead n = n then s.setFld (SLC_L_MODE n) 0 2 1 else s
    let s := s.setRegN (SLC_L_MANOUT n) (s.fld (SLC_L_SAFE n) 0 20)
    (s.modLoop n fun x => { x with moored := true, after := false }).listHold n

/-- The trip of loop n is cleared: it writes from the next tide on (R402). -/
def State.unmoorLoop (s : State) (n : Nat) : State :=
  s.modLoop n fun x => { x with moored := false, after := x.after || x.moored }

/-- The Sluice when CTRL enters ON (R410): configuration, banks, the list memory and the moored marking are kept. -/
def State.sluiceOn (s : State) : State :=
  foldS (fun s n =>
    let x := s.loop n
    let s := s.modLoop n fun _ =>
      { LoopSt.reset with bank := x.bank, moored := x.moored, mode := s.loopMode n, man := s.sfld (SLC_L_MANOUT (s.lead n)) 0 20 }
    foldS (fun s off => s.setRegN off 0)
      [SLC_L_STAT n, SLC_L_OUT n, SLC_L_INT n, SLC_L_ERR n, SLC_L_SPNOW n, SLC_L_MISSED n, SLC_L_STALE n, SLC_L_SAT n] s)
    (List.range 8) (s.setRegN SLC_EVT 0)

end Sys2Proof.Machine
end

