-- ==== Sys2Proof/WellFormed.lean ====
section
/-! DEFINITION. The argument ranges of the Damisk forms (R556 and the tables R561 to R572), by argument
position. A unit with an argument outside its range is refused in the parse stage with ER 105 (R88); the rows
that are not Damisk forms carry operands of fixed width and have no such check. -/

namespace Sys2Proof

/-- A natural argument within lo..hi. -/
def inN (lo hi x : Nat) : Bool := lo ≤ x && x ≤ hi

/-- A signed argument within lo..hi. -/
def inZ (lo hi x : Int) : Bool := lo ≤ x && x ≤ hi

/-- An omitted argument, or one within lo..hi. -/
def optN (lo hi : Nat) : Option Nat → Bool
  | none => true
  | some x => inN lo hi x

/-- An omitted signed argument, or one within lo..hi. -/
def optZ (lo hi : Int) : Option Int → Bool
  | none => true
  | some x => inZ lo hi x

/-- The position of the first argument whose test fails; the list gives tests in argument order. -/
def firstBad : List (Nat × Bool) → Option Nat
  | [] => none
  | (k, ok) :: t => if ok then firstBad t else some k

/-- The position of the first object number not below `bound`, in a list of at most eight objects that starts
at position `pos` (R557). A ninth object is beyond the list. -/
def badObj (bound : Nat) : Nat → List Nat → Option Nat
  | _, [] => none
  | pos, x :: t => if x < bound && pos ≤ 8 then badObj bound (pos + 1) t else some pos

/-- The same for a list or ALL. -/
def badSel (bound : Nat) : Sel → Option Nat
  | .all => none
  | .list [] => some 1
  | .list ns => badObj bound 1 ns

/-- Whether a Warehouse object exists (R557): H0..H7, M0, M1. -/
def WObj.ok : WObj → Bool
  | .hist h => h < 8
  | .map m => m < 2

/-- The range of INDEX for a pin function (R128). -/
def pinIndexMax : Nat → Option Nat
  | 0 => some 0 | 1 => some 0 | 2 => some 0 | 3 => some 1 | 4 => some 1 | 5 => some 1 | 6 => some 1
  | 7 => some 17 | 8 => some 15 | 9 => some 1 | 10 => some 1 | 11 => some 0 | 12 => some 3
  | _ => none

/-- Whether pin n can carry function f (R128). -/
def pinCanCarry (f n : Nat) : Bool :=
  if f = 3 ∨ f = 5 then n < 4 else if f = 6 then n < 8 else if f = 8 then n ≥ 16 else n < 32

/-- A pin assignment in range (R130, first case): the function exists on the pin and INDEX is in range. -/
def pinFuncOk (n f idx : Nat) : Bool :=
  match pinIndexMax f with
  | some m => idx ≤ m && pinCanCarry f n
  | none => false

/-- The event codes of R116 that are not reserved. -/
def yardCodeOk (c : Nat) : Bool := c ≤ 27 || (32 ≤ c && c ≤ 79)

/-- The Pilot source codes of R228 that are not reserved. -/
def pilotCodeOk (c : Nat) : Bool := c ≤ 25

/-- The timed sources of R228: COMP, TRIGIN and EFIRE. -/
def pilotTimed (c : Nat) : Bool := (1 ≤ c && c ≤ 8) || (17 ≤ c && c ≤ 19)

/-- The sources the EFIRE driver may take (R248): any code but EFIRE, YARD and SOFT. -/
def efireSrcOk (c : Nat) : Bool := pilotCodeOk c && c != 19 && c != 24 && c != 25

/-- The qualifier sources (R242): COMP, DIG and TRIGIN. -/
def qualSrcOk (c : Nat) : Bool := 1 ≤ c && c ≤ 18

/-- The position of the first argument of a Damisk unit that lies outside its range; none for a unit whose
arguments are all in range, and for every other row (R556, R561 to R572). -/
def checkArgs : Instr → Option Nat
  | .sysTide _ n => firstBad [(1, inN 50 800 n)]
  | .sysGuard _ e => firstBad [(1, inN 0 0xFFFFFFFF e)]
  | .sysUart _ b _ => firstBad [(1, inN 9600 12000000 b)]
  | .sysNotify _ m => firstBad [(1, inN 0 0x7F m)]
  | .timeSet _ s ns => firstBad [(1, inN 0 (2 ^ 48 - 1) s), (2, inN 0 999999999 ns)]
  | .timeAdj _ t => firstBad [(1, inZ (-2147483647) 2147483647 t)]
  | .timePpslim _ t _ => firstBad [(1, inN 0 65535 t)]
  | .reg _ off v => firstBad [(1, inN 0 0x3FFFC off && off % 4 == 0), (2, inN 0 0xFFFFFFFF v)]
  | .regQuery _ off => firstBad [(1, inN 0 0x3FFFC off && off % 4 == 0)]
  | .clkAclk _ f => firstBad [(1, inN 0x200000000000 0x500000000000 f)]
  | .clkFcw _ f => firstBad [(1, inN 0x200000000000 0x500000000000 f)]
  | .clkBw _ _ n => firstBad [(2, inN 0 3 n)]
  | .clkLockwin _ _ n => firstBad [(2, inN 1 255 n)]
  | .clkPhlim _ _ n => firstBad [(2, inN 1 63 n)]
  | .clkSync _ _ _ _ m _ => firstBad [(4, optN 0 15 m)]
  | .pwrOff _ d => firstBad [(1, d != .aon)]
  | .berthRoute _ n m => firstBad [(1, inN 0 7 n), (2, inN 0 0xFF m)]
  | .berthRouteQuery _ n => firstBad [(1, inN 0 7 n)]
  | .berthMap _ v => firstBad [(1, inN 0 0xFFFFFFFF v)]
  | .berthTrim _ b v => firstBad [(1, inN 0 7 b), (2, inN 0 65535 v)]
  | .berthTrimQuery _ b => firstBad [(1, inN 0 7 b)]
  | .berthCalofs _ b v => firstBad [(1, inN 0 7 b), (2, inZ (-32768) 32767 v)]
  | .berthCalgain _ b v => firstBad [(1, inN 0 7 b), (2, inZ (-32768) 32767 v)]
  | .berthMonQuery _ n => firstBad [(1, inN 0 7 n)]
  | .berthSnapQuery _ n => firstBad [(1, inN 0 7 n)]
  | .berthMonchk _ n _ => firstBad [(1, inN 0 7 n)]
  | .berthMonstream _ m => firstBad [(1, inN 0 0xFF m)]
  | .berthOvrQuery _ b => firstBad [(1, inN 0 7 b)]
  | .pilotComp _ n th h _ => firstBad [(1, inN 0 7 n), (2, inN 0 4095 th), (3, optN 0 255 h)]
  | .pilotCompQuery _ n => firstBad [(1, inN 0 7 n)]
  | .pilotDly _ src v => firstBad [(1, inN 1 8 src || src == 17 || src == 18), (2, inZ (-524287) 524287 v)]
  | .pilotDlyQuery _ src => firstBad [(1, inN 1 8 src || src == 17 || src == 18)]
  | .pilotTrigin _ j th _ => firstBad [(1, inN 0 1 j), (2, inN 0 4095 th)]
  | .pilotDig _ d ch _ dir t1 t2 h _ =>
    firstBad [(1, inN 0 7 d), (2, inN 0 7 ch), (4, inN 0 2 dir), (5, inZ (-32768) 32767 t1),
      (6, optZ (-32768) 32767 t2), (7, optN 0 4095 h)]
  | .pilotWidth _ d c w1 w2 =>
    firstBad [(1, inN 0 7 d), (2, inN 0 3 c), (3, inN 0 4294967295 w1), (4, optN 0 4294967295 w2)]
  | .pilotSpan _ d n => firstBad [(1, inN 0 7 d), (2, inN 1 255 n)]
  | .pilotEng _ g _ a b w =>
    firstBad [(1, inN 0 7 g), (3, pilotCodeOk a), (4, b.all pilotCodeOk), (5, optN 1 4294967295 w)]
  | .pilotEngQuery _ g => firstBad [(1, inN 0 7 g)]
  | .pilotRef _ g ch => firstBad [(1, inN 0 7 g), (2, inN 0 7 ch)]
  | .pilotQual _ g src pol => firstBad [(1, inN 0 7 g), (2, src.all qualSrcOk), (3, optN 0 1 pol)]
  | .pilotHold _ g count v =>
    firstBad [(1, inN 0 7 g), (3, if count then inN 0 4294967295 v else inN 0 (2 ^ 40 - 1) v)]
  | .pilotOn _ g => firstBad [(1, inN 0 7 g)]
  | .pilotOff _ g => firstBad [(1, inN 0 7 g)]
  | .pilotEfire _ _ src grp w => firstBad [(2, src.all efireSrcOk), (3, optN 0 7 grp), (4, optN 4 255 w)]
  | .pilotTrigout _ j mode sel w =>
    firstBad [(1, inN 0 1 j),
      (3, match mode with
          | .off => sel.all pilotCodeOk
          | .accept => optN 0 7 sel
          | .raw => sel.all pilotTimed),
      (4, optN 1 65535 w)]
  | .pilotLastQuery _ g => firstBad [(1, inN 0 7 g)]
  | .pilotCountQuery _ g => firstBad [(1, inN 0 7 g)]
  | .trig _ gs => badSel 8 gs
  | .acqGroup _ g _ m => firstBad [(1, inN 0 7 g), (3, inN 0 0xFF m)]
  | .acqGroupQuery _ g => firstBad [(1, inN 0 7 g)]
  | .acqMem _ g _ b sz => firstBad [(1, inN 0 7 g), (3, inN 0 4294967295 b), (4, inN 0 4294967295 sz)]
  | .acqDisarm _ g => firstBad [(1, inN 0 7 g)]
  | .acqStatQuery _ g => firstBad [(1, inN 0 7 g)]
  | .acqDeadQuery _ g => firstBad [(1, inN 0 7 g)]
  | .arm _ gs => badSel 8 gs
  | .segLen _ g pre post =>
    firstBad [(1, inN 0 7 g), (2, inN 0 1048576 pre), (3, inN 0 4294967292 post),
      (3, 64 ≤ pre + post && (pre + post) % 4 == 0)]
  | .segOverlap _ g _ => firstBad [(1, inN 0 7 g)]
  | .segBuf _ g _ c => firstBad [(1, inN 0 7 g), (3, inN 0 4294967295 c)]
  | .segDir _ _ b len => firstBad [(2, inN 0 4294967295 b), (3, inN 1 16777216 len)]
  | .streamSrc _ g _ => firstBad [(1, inN 0 7 g)]
  | .streamBlock _ g l n => firstBad [(1, inN 0 7 g), (2, inN 1 14 l), (3, inN 2 15 n)]
  | .streamStart _ g => firstBad [(1, inN 0 7 g)]
  | .streamStop _ g => firstBad [(1, inN 0 7 g)]
  | .streamGapQuery _ g => firstBad [(1, inN 0 7 g)]
  | .wmarkSet _ g _ d => firstBad [(1, inN 0 7 g), (3, inN 2 16777216 d)]
  | .wmarkSetQuery _ g => firstBad [(1, inN 0 7 g)]
  | .whouseHist _ h src res _ => firstBad [(1, inN 0 7 h), (2, inN 0 11 src), (3, inN 6 16 res)]
  | .whouseGate _ h _ grp => firstBad [(1, inN 0 7 h), (3, optN 0 7 grp)]
  | .whouseTwin _ h ofs sh => firstBad [(1, inN 0 7 h), (2, inN 0 (2 ^ 48 - 1) ofs), (3, inN 0 47 sh)]
  | .whouseFlusht _ h t => firstBad [(1, inN 0 7 h), (2, inN 1 1000 t)]
  | .whouseMem _ o _ b => firstBad [(1, o.ok), (3, inN 0 4294967295 b)]
  | .whouseMap _ m g ch cols rows _ =>
    firstBad [(1, inN 0 1 m), (2, inN 0 7 g), (3, inN 0 7 ch), (4, inN 4 4096 cols && cols % 4 == 0),
      (5, [16, 32, 64, 128, 256, 512, 1024].contains rows)]
  | .whouseRate _ m r => firstBad [(1, inN 0 1 m), (2, inN 1 1000000 r)]
  | .whouseDecay _ m k => firstBad [(1, inN 0 1 m), (2, inN 0 65535 k)]
  | .whouseStart _ o _ => firstBad [(1, o.ok)]
  | .whouseStop _ o => firstBad [(1, o.ok)]
  | .whouseFlush _ h => firstBad [(1, inN 0 7 h)]
  | .whouseStatQuery _ o => firstBad [(1, o.ok)]
  | .dockCfg _ n _ _ r => firstBad [(1, inN 0 1 n), (4, inN 1 2 r)]
  | .dockCfgNone _ n => firstBad [(1, inN 0 1 n)]
  | .dockCfgQuery _ n => firstBad [(1, inN 0 1 n)]
  | .dockTim _ n cl cwl trcd trp twr trc tfaw trfc trrdl tccdl =>
    firstBad [(1, inN 0 1 n), (2, inN 0 63 cl), (3, inN 0 63 cwl), (4, inN 0 63 trcd), (5, inN 0 63 trp),
      (6, inN 0 63 twr), (7, inN 0 255 trc), (8, inN 0 255 tfaw), (9, inN 0 1023 trfc), (10, inN 0 15 trrdl),
      (11, inN 0 15 tccdl)]
  | .dockTrain _ n => firstBad [(1, inN 0 1 n)]
  | .dockFerry _ n u => firstBad [(1, inN 0 1 n), (2, inN 0 127 u)]
  | .dockCalQuery _ n => firstBad [(1, inN 0 1 n)]
  | .dockStatQuery _ n => firstBad [(1, inN 0 1 n)]
  | .dockErrQuery _ n => firstBad [(1, inN 0 1 n)]
  | .tallyIn _ l src _ => firstBad [(1, inN 0 3 l), (2, inN 0 10 src)]
  | .tallyMode _ l _ pt => firstBad [(1, inN 0 3 l), (3, optN 0 3 pt && pt != some l)]
  | .tallyHold _ l t => firstBad [(1, inN 0 3 l), (2, inN 0 16777215 t)]
  | .tallyGate _ l t => firstBad [(1, inN 0 3 l), (2, inN 1 10000000 t)]
  | .tallyStill _ l t => firstBad [(1, inN 0 3 l), (2, inN 1 65535 t)]
  | .tallyDly _ l v => firstBad [(1, inN 0 3 l), (2, inZ (-524287) 524287 v)]
  | .tallyEdgein _ j th h => firstBad [(1, inN 0 1 j), (2, inN 0 4095 th), (3, optN 0 255 h)]
  | .tallyStats _ l n _ => firstBad [(1, inN 0 3 l), (2, optN 1 4294967296 n)]
  | .tallyStart _ l => firstBad [(1, inN 0 3 l)]
  | .tallyStop _ l => firstBad [(1, inN 0 3 l)]
  | .tallyResQuery _ l => firstBad [(1, inN 0 3 l)]
  | .tallyReadQuery _ l => firstBad [(1, inN 0 3 l)]
  | .tallyStatQuery _ l => firstBad [(1, inN 0 3 l)]
  | .tallyCal _ m => firstBad [(1, optN 1 0x3F m)]
  | .knobCfg _ f st _ => firstBad [(1, inN 0 1023 f), (2, inN 1 65535 st)]
  | .knobPos _ v => firstBad [(1, inZ (-2147483648) 2147483647 v)]
  | .knobSvc _ _ l d => firstBad [(2, optN 0 7 l), (3, d.all fun x => x == 1 || x == 2 || x == 4)]
  | .knobLim _ mn mx => firstBad [(1, inZ (-32768) 32767 mn), (2, inZ (-32768) 32767 mx && mn ≤ mx)]
  | .knobAcc _ i t st => firstBad [(1, inN 0 7 i), (2, inN 0 65535 t), (3, inN 0 32767 st)]
  | .sluiceMode _ n _ => firstBad [(1, inN 0 7 n)]
  | .sluiceIn _ n ch _ => firstBad [(1, inN 0 7 n), (2, inN 0 7 ch)]
  | .sluiceShare _ n _ => firstBad [(1, inN 0 7 n)]
  | .sluiceLaw _ n _ b => firstBad [(1, inN 0 7 n), (3, optN 0 32767 b)]
  | .sluiceTiming _ n _ c => firstBad [(1, inN 0 7 n), (3, inN 40 790 c)]
  | .sluicePair _ n _ => firstBad [(1, inN 0 7 n && n % 2 == 0)]
  | .sluicePorts _ n m => firstBad [(1, inN 0 7 n), (2, inN 0 0xFF m)]
  | .sluicePhsrc _ n src => firstBad [(1, inN 0 7 n), (2, inN 0 5 src)]
  | .sluiceSwpreset _ n _ => firstBad [(1, inN 0 7 n)]
  | .sluiceSetp _ n c => firstBad [(1, inN 0 7 n), (2, inZ (-32768) 32767 c)]
  | .sluiceManout _ n v => firstBad [(1, inN 0 7 n), (2, inZ (-524288) 524287 v)]
  | .sluiceSafe _ n v => firstBad [(1, inN 0 7 n), (2, inZ (-524288) 524287 v)]
  | .sluiceOutlim _ n a b =>
    firstBad [(1, inN 0 7 n), (2, inZ (-524288) 524287 a), (3, inZ (-524288) 524287 b)]
  | .sluiceIlim _ n a b =>
    firstBad [(1, inN 0 7 n), (2, inZ (-8388608) 8388607 a), (3, inZ (-8388608) 8388607 b)]
  | .sluiceStages _ n k => firstBad [(1, inN 0 7 n), (2, inN 0 6 k)]
  | .sluiceCoef _ n k _ _ _ _ _ => firstBad [(1, inN 0 7 n), (2, inN 0 5 k)]
  | .sluiceCoefraw _ n k e m0 m1 m2 m3 m4 =>
    firstBad [(1, inN 0 7 n), (2, inN 0 5 k), (3, inZ (-32) 31 e), (4, inZ (-524288) 524287 m0),
      (5, inZ (-524288) 524287 m1), (6, inZ (-524288) 524287 m2), (7, inZ (-524288) 524287 m3),
      (8, inZ (-524288) 524287 m4)]
  | .sluiceKi _ n _ => firstBad [(1, inN 0 7 n)]
  | .sluiceDband _ n i v => firstBad [(1, inN 0 7 n), (2, inN 0 63 i), (3, inZ (-32768) 32767 v)]
  | .sluiceRipple _ n i v => firstBad [(1, inN 0 7 n), (2, inN 0 255 i), (3, inZ (-32768) 32767 v)]
  | .sluiceSwap _ ns => badSel 8 (.list ns)
  | .sluiceMoorafter _ n => firstBad [(1, inN 1 255 n)]
  | .sluiceStatQuery _ n => firstBad [(1, inN 0 7 n)]
  | .sluiceMissedQuery _ n => firstBad [(1, inN 0 7 n)]
  | .listEntry _ i sp d => firstBad [(1, inN 0 4095 i), (2, inZ (-32768) 32767 sp), (3, inN 0 65535 d)]
  | .listRange _ n a b r =>
    firstBad [(1, inN 0 7 n), (2, inN 0 4095 a), (3, inN 0 4095 b && a ≤ b), (4, optN 0 65535 r)]
  | .listRun _ n => firstBad [(1, inN 0 7 n)]
  | .listStop _ n => firstBad [(1, inN 0 7 n)]
  | .listStep _ n => firstBad [(1, inN 0 7 n)]
  | .listStatQuery _ n => firstBad [(1, inN 0 7 n)]
  | .slipMode _ k _ => firstBad [(1, inN 0 7 k)]
  | .slipBus _ d _ _ c => firstBad [(1, inN 1 255 d), (4, optN 10 799 c)]
  | .slipFrame _ k len vb vp pf _ _ =>
    firstBad [(1, inN 0 7 k), (2, inN 8 24 len), (3, inN 8 20 vb), (4, vp + vb ≤ len), (5, inN 0 0xFFFFFF pf)]
  | .slipPwm _ k per ph hs _ dt =>
    firstBad [(1, inN 0 7 k), (2, inN 16 4095 per), (3, ph < per), (4, inN 0 7 hs),
      (6, dt.all fun x => inN 0 1023 x.1), (7, dt.all fun x => inN 0 1023 x.2)]
  | .slipSafe _ k v => firstBad [(1, inN 0 7 k), (2, inZ (-524288) 524287 v)]
  | .slipValue _ k v => firstBad [(1, inN 0 7 k), (2, inZ (-524288) 524287 v)]
  | .slipStatQuery _ k => firstBad [(1, inN 0 7 k)]
  | .protChan _ n v i => firstBad [(1, inN 0 7 n), (2, inN 0 7 v), (3, inN 0 7 i)]
  | .protLimit _ n k v =>
    firstBad [(1, inN 0 7 n), (3, match k with
      | .op => optZ 0 2147483647 v
      | _ => optZ (-32768) 32767 v)]
  | .protPersist _ n k => firstBad [(1, inN 0 7 n), (2, inN 1 255 k)]
  | .protUvdly _ n k => firstBad [(1, inN 0 7 n), (2, inN 0 65535 k)]
  | .protOvrt _ n _ => firstBad [(1, inN 0 7 n)]
  | .protFast _ n th _ m => firstBad [(1, inN 0 7 n), (2, inN 0 4095 th), (4, inN 0 0xFF m)]
  | .protFastOff _ n => firstBad [(1, inN 0 7 n)]
  | .protTripout _ j m => firstBad [(1, inN 0 1 j), (2, inN 0 0xFF m)]
  | .protMoor _ ns => badSel 8 (.list ns)
  | .protClear _ ns => badSel 8 ns
  | .bellEn _ s _ => firstBad [(1, inN 0 47 s)]
  | .bellTarget _ t _ c tm => firstBad [(1, inN 0 3 t), (3, optN 1 64 c), (4, optN 0 65535 tm)]
  | .bellTargetQuery _ t => firstBad [(1, inN 0 3 t)]
  | .bellVec _ s v => firstBad [(1, inN 0 47 s), (2, inN 0 7 v)]
  | .bellClaimQuery _ t => firstBad [(1, inN 0 3 t)]
  | .bellComplete _ t s => firstBad [(1, inN 0 3 t), (2, inN 0 63 s)]
  | .ferryRing _ r _ sz g => firstBad [(1, inN 0 7 r), (3, inN 4 15 sz), (4, optN 0 0xFF g)]
  | .ferryBase _ r d c =>
    firstBad [(1, inN 0 7 r), (2, inN 0 (2 ^ 64 - 32) d && d % 32 == 0), (3, inN 0 (2 ^ 64 - 32) c && c % 32 == 0)]
  | .ferryMod _ r e h => firstBad [(1, inN 0 7 r), (2, inN 0 255 e), (3, inN 0 255 h)]
  | .ferryStart _ r => firstBad [(1, inN 0 7 r)]
  | .ferryStop _ r => firstBad [(1, inN 0 7 r)]
  | .ferryResume _ r => firstBad [(1, optN 0 7 r)]
  | .ferryPost _ r n => firstBad [(1, inN 0 7 r), (2, inN 1 32768 n)]
  | .ferryStatQuery _ r => firstBad [(1, inN 0 7 r)]
  | .ferryBar2 _ _ b => firstBad [(2, inN 0 4294967295 b)]
  | .ferryAbrec _ a => firstBad [(1, inN 0 (2 ^ 64 - 32) a && a % 32 == 0)]
  | .emicaRole _ _ slot => firstBad [(2, optN 1 7 slot)]
  | .emicaMembers _ m => firstBad [(1, inN 1 0xFF m)]
  | .emicaShare _ ch _ => firstBad [(1, inN 0 7 ch)]
  | .emicaGain _ ks c => firstBad [(1, inN 0 256 ks), (2, inN 0 32767 c)]
  | .emicaEarm _ m => firstBad [(1, inN 0 0xFF m)]
  | .emicaCal _ v => firstBad [(1, inZ (-2147483648) 2147483647 v)]
  | .emicaValQuery _ j => firstBad [(1, inN 0 7 j)]
  | .emicaAbsQuery _ j => firstBad [(1, inN 0 7 j)]
  | .storeSave _ r => firstBad [(1, inN 1 21 r)]
  | .storeRecall _ r tr => firstBad [(1, inN 0 21 r), (2, !tr || r == 1)]
  | .storeVerify _ r => firstBad [(1, optN 0 21 r)]
  | .storeRawQuery _ a => firstBad [(1, inN 0 0xFFFF a)]
  | .pinFunc _ n f idx pk =>
    firstBad [(1, inN 0 31 n), (2, pinCanCarry f n && (pinIndexMax f).isSome), (3, pinFuncOk n f idx), (4, optN 0 3 pk)]
  | .pinInv _ n _ => firstBad [(1, inN 0 31 n)]
  | .pinFuncQuery _ n => firstBad [(1, inN 0 31 n)]
  | .pinGpo _ n l => firstBad [(1, inN 0 31 n), (2, inN 0 1 l)]
  | .pinLevelQuery _ n => firstBad [(1, inN 0 31 n)]
  | .yardRoute _ k src task tgt _ =>
    firstBad [(1, inN 0 31 k), (2, yardCodeOk src), (3, inN 0 7 task), (4, inN 0 0xFFFF tgt)]
  | .yardRouteQuery _ k => firstBad [(1, inN 0 31 k)]
  | .yardOff _ k => firstBad [(1, inN 0 31 k)]
  | .yardPulse _ j => firstBad [(1, inN 0 7 j)]
  | .yardBell _ j src => firstBad [(1, inN 0 7 j), (2, yardCodeOk src)]
  | .yardLogmask _ src _ => firstBad [(1, yardCodeOk src)]
  | .yardCoincQuery _ t => firstBad [(1, inN 0 7 t)]
  | .yardIgnQuery _ t => firstBad [(1, inN 0 7 t)]
  | _ => none

/-- A well-formed command: every argument within the range the spec gives it. -/
def WellFormed (i : Instr) : Bool := (checkArgs i).isNone

end Sys2Proof
end

