-- ==== Sys2Proof/Machine/Parse.lean ====
section
/-! DEFINITION. The Damisk grammar (R82 to R87, R107, R554, R557): units, headers and their keywords, numbers, words,
and the readers an argument list is made of. -/

namespace Sys2Proof.Machine

/-! ### Characters and numbers -/

/-- A letter, and a character in upper case. -/
def isLetter (b : Byte) : Bool := (65 ≤ b.toNat && b.toNat ≤ 90) || (97 ≤ b.toNat && b.toNat ≤ 122)
def upper (b : Byte) : Byte := if 97 ≤ b.toNat && b.toNat ≤ 122 then b - 32 else b

/-- The value of a hexadecimal digit. -/
def hexVal (b : Byte) : Option Nat :=
  if isDigit b then some (b.toNat - 48)
  else if 65 ≤ b.toNat && b.toNat ≤ 70 then some (b.toNat - 55)
  else if 97 ≤ b.toNat && b.toNat ≤ 102 then some (b.toNat - 87)
  else none

/-- Digits of a base with single "_" between them: their number and value. `us` tells that a "_" may stand next. -/
def rawDigits (base : Nat) : List Byte → Bool → Nat → Nat → Option (Nat × Nat)
  | [], us, n, v => if us then some (n, v) else none
  | b :: t, us, n, v =>
    if b == 0x5F then (if us then rawDigits base t false n v else none)
    else match hexVal b with
      | some d => if d < base then rawDigits base t true (n + 1) (v * base + d) else none
      | none => none

/-- The power of ten of a suffix (R85). -/
def suffixExp (b : Byte) : Option Int :=
  if b == 0x70 then some (-12) else if b == 0x6E then some (-9) else if b == 0x75 then some (-6)
  else if b == 0x6D then some (-3) else if b == 0x6B then some 3 else if b == 0x4D then some 6
  else if b == 0x47 then some 9 else none

/-- An unsigned decimal number (R85). -/
def decTok (cs : List Byte) : Option Dec :=
  let ip := cs.takeWhile isDigit
  let r := cs.dropWhile isDigit
  let (fp, r) := match r with
    | 0x2E#8 :: t => (t.takeWhile isDigit, t.dropWhile isDigit)
    | _ => ([], r)
  let ds := ip ++ fp
  if ds.isEmpty || 15 < ds.length then none
  else
    let e : Int := -(fp.length : Int)
    match r with
    | [] => some ⟨digitsVal ds, e⟩
    | [c] => (suffixExp c).map fun x => ⟨digitsVal ds, e + x⟩
    | _ => none

/-- An argument as it stands in the line. -/
inductive Tok where
  /-- A word, in upper case. -/
  | word (cs : List Byte)
  | str (cs : List Byte)
  /-- A decimal number. -/
  | dec (d : Dec)
  /-- A hexadecimal or binary number. -/
  | raw (v : Nat)
  /-- Nothing of the grammar. -/
  | bad
  deriving DecidableEq, Repr

/-- A number (R85). -/
def numTok (cs : List Byte) : Tok :=
  let plain := fun cs => match decTok cs with
    | some d => Tok.dec d
    | none => .bad
  match cs with
  | 0x2B#8 :: t => plain t
  | 0x2D#8 :: t => match decTok t with
    | some d => .dec ⟨-d.man, d.exp10⟩
    | none => .bad
  | 0x30#8 :: c :: t =>
    if c == 0x78 || c == 0x58 then
      match rawDigits 16 t false 0 0 with
      | some (n, v) => if n ≤ 18 then .raw v else .bad
      | none => .bad
    else if c == 0x62 || c == 0x42 then
      match rawDigits 2 t false 0 0 with
      | some (n, v) => if n ≤ 72 then .raw v else .bad
      | none => .bad
    else plain cs
  | _ => plain cs

/-- Classify the characters of an argument (R82). -/
def tokOf (cs : List Byte) : Tok :=
  match cs with
  | [] => .bad
  | c :: t =>
    if c == 0x22 then
      if t.getLast? == some 0x22 && (t.dropLast.all fun b => b != 0x22 && 0x20 ≤ b.toNat && b.toNat < 0x7F) && t.length ≤ 64
      then .str t.dropLast else .bad
    else if isLetter c then
      if cs.length ≤ 16 && cs.all (fun b => isLetter b || isDigit b || b == 0x5F) then .word (cs.map upper) else .bad
    else numTok cs

/-! ### Splitting (R82) -/

/-- Split at a character outside strings. -/
def splitOut (sep : Byte) : List Byte → Bool → List Byte → List (List Byte)
  | [], _, cur => [cur.reverse]
  | b :: t, q, cur =>
    if b == sep && !q then cur.reverse :: splitOut sep t q []
    else splitOut sep t (if b == 0x22 then !q else q) (b :: cur)

/-- Without spaces at either end. -/
def trim (cs : List Byte) : List Byte :=
  ((cs.dropWhile (· == 0x20)).reverse.dropWhile (· == 0x20)).reverse

/-! ### Keywords and enumerated words (R84) -/

/-- A keyword or word of letters only may be abbreviated; one that ends in a digit is an object name, which may not. -/
def numbered (cs : List Byte) : Bool :=
  match cs.getLast? with
  | some b => isDigit b
  | none => false

/-- Resolve a word, given in upper case, against candidates (R84): the word itself, or an abbreviation of three or more
letters that only one candidate begins with; `part` tells whether a numbered candidate may be abbreviated. -/
def resolve {α : Type} (part : Bool) (cands : List (List Byte × α)) (k : List Byte) : Option α :=
  match cands.find? (·.1 == k) with
  | some (_, v) => some v
  | none =>
    match cands.filter fun c => 3 ≤ k.length && k.isPrefixOf c.1 with
    | [(c, v)] => if numbered c && !part then none else some v
    | _ => none

/-- The first candidate of the object family a numbered name belongs to: the same letters before its number (R84). -/
def familyOf {α : Type} (cands : List (List Byte × α)) (k : List Byte) : Option α :=
  let stem := fun (c : List Byte) => (c.reverse.dropWhile isDigit).reverse
  if numbered k then (cands.find? fun c => numbered c.1 && stem c.1 == stem k).map (·.2) else none

/-! ### Argument readers -/

/-- What is left of an argument list: the position of the next argument, the arguments, and the first one read that lies
outside its range. -/
structure Args where
  pos : Nat
  toks : List Tok
  late : Option Nat
  deriving DecidableEq, Repr

/-- A reader of one argument: it fails with the code of a bad form, and notes a value outside its range, which counts only
once the form of the whole unit has been found good (R88). -/
abbrev Read (α : Type) := StateT Bool (Except Nat) α

/-- A bad form, and a value outside its range, in whose place v is read on with. -/
def badForm {α : Type} (code : Nat) : Read α := fun _ => .error code
def outOf {α : Type} (v : α) : Read α := fun _ => .ok (v, true)

/-- A reader of arguments; it fails with a code and a position. -/
abbrev Rd (α : Type) := StateT Args (Except (Nat × Nat)) α

/-- A required argument (R87). -/
def arg {α : Type} (f : Tok → Read α) : Rd α := fun a =>
  match a.toks with
  | [] => .error (104, a.pos)
  | t :: r => match f t false with
    | .ok (v, out) => .ok (v, ⟨a.pos + 1, r, a.late <|> (if out then some a.pos else none)⟩)
    | .error e => .error (e, a.pos)

/-- An argument that may be omitted from the end of the list (R87). -/
def opt {α : Type} (f : Tok → Read α) : Rd (Option α) := fun a =>
  match a.toks with
  | [] => .ok (none, a)
  | _ => (arg fun t => some <$> f t) a

/-- Every argument that is left (R557). -/
def many {α : Type} (f : Tok → Read α) : Nat → Rd (List α)
  | 0 => fun a => .ok ([], a)
  | n + 1 => fun a => match a.toks with
    | [] => .ok ([], a)
    | _ => (do
        let x ← arg f
        let xs ← many f n
        pure (x :: xs)) a

/-- An integer times ten to a power, times n / d, where that is an integer. -/
def decInt (d : Dec) : Read Int :=
  if 0 ≤ d.exp10 then pure (d.man * 10 ^ d.exp10.toNat)
  else
    let q : Int := 10 ^ (-d.exp10).toNat
    if d.man % q = 0 then pure (d.man / q) else badForm 104

/-- A count below 0 is out of range. -/
def notNeg (i : Int) : Read Nat := if i < 0 then outOf 0 else pure i.toNat

/-- A raw bit pattern of a signed field of w bits; a wider one is out of range (R86). -/
def rawInt (w v : Nat) : Read Int := if v < 2 ^ w then pure (toSigned w v) else outOf 0

/-- An unsigned integer argument (R86). -/
def nat (t : Tok) : Read Nat :=
  match t with
  | .dec d => do notNeg (← decInt d)
  | .raw v => pure v
  | _ => badForm 104

/-- A signed integer argument of a field of w bits (R86). -/
def int (w : Nat) (t : Tok) : Read Int :=
  match t with
  | .dec d => decInt d
  | .raw v => rawInt w v
  | _ => badForm 104

/-- An argument that carries a unit: its value times n / d is the count of its LSB (R86). -/
def unitI (n d w : Nat) (t : Tok) : Read Int :=
  match t with
  | .dec x =>
    pure (if 0 ≤ x.exp10 then roundDiv (x.man * 10 ^ x.exp10.toNat * n) d else roundDiv (x.man * n) (d * 10 ^ (-x.exp10).toNat))
  | .raw v => rawInt w v
  | _ => badForm 104

/-- The same for an unsigned one. -/
def unitN (n d : Nat) (t : Tok) : Read Nat :=
  match t with
  | .raw v => pure v
  | _ => do notNeg (← unitI n d 1 t)

/-- A coefficient: a decimal number taken as a real value (R392). -/
def real (t : Tok) : Read Dec :=
  match t with
  | .dec d => pure d
  | _ => badForm 104

/-- An enumerated word (R84, R87); a name whose number lies beyond its family of objects is out of range. -/
def word {α : Type} (ws : List (String × α)) (t : Tok) : Read α :=
  match t with
  | .word k =>
    let cands := ws.map fun x => (asc x.1, x.2)
    match resolve false cands k with
    | some v => pure v
    | none => match familyOf cands k with
      | some v => outOf v
      | none => badForm 101
  | _ => badForm 104

/-- The same for words that name no objects, whatever digits they end in. -/
def plainWord {α : Type} (ws : List (String × α)) (t : Tok) : Read α :=
  match t with
  | .word k => match resolve false (ws.map fun x => (asc x.1, x.2)) k with
    | some v => pure v
    | none => badForm 101
  | _ => badForm 104

/-- An object name: letters and a number, in which leading zeros stand as they do in a number (R84, R557, log 9). -/
def obj (pre : String) (t : Tok) : Read Nat :=
  match t with
  | .word k =>
    let p := asc pre
    let d := k.drop p.length
    if p.isPrefixOf k && !d.isEmpty && d.all isDigit then pure (digitsVal d) else badForm 101
  | _ => badForm 104

/-- One of two readings: a word of a list, or else something else. -/
def wordOr {α : Type} (ws : List (String × α)) (f : Tok → Read α) (t : Tok) : Read α :=
  match t with
  | .word _ => word ws t
  | _ => f t

/-- A number out of a few (R85): others are out of range. -/
def oneOf {α : Type} (vs : List (Nat × α)) (t : Tok) : Read α := do
  let n ← nat t
  match vs.find? (·.1 == n), vs with
  | some (_, v), _ => pure v
  | none, (_, v) :: _ => outOf v
  | none, [] => badForm 105

/-- The names of a family, numbered from 0, with values from `base` on. -/
def family (pre : String) (n base : Nat) : List (String × Nat) :=
  (List.range n).map fun i => (pre ++ toString i, base + i)

/-- A list of numbers, or ALL. -/
def selArg (f : Tok → Read Nat) : Rd Sel := do
  let x ← arg (wordOr [("ALL", none)] fun t => some <$> f t)
  match x with
  | none => pure .all
  | some n =>
    let r ← many f 7
    pure (.list (n :: r))

/-- A list of loops, or ALL. -/
def selLoops : Rd Sel := fun a =>
  match a.toks with
  | .word k :: _ =>
    if (obj "L" (.word k) false).isOk then (do
      let r ← many (obj "L") 8
      pure (Sel.list r)) a
    else (do
      let _ ← arg (word [("ALL", ())])
      pure Sel.all) a
  | _ => (arg fun _ => badForm 104) a

/-- One or more loops. -/
def loopList : Rd (List Nat) := do
  let x ← arg (obj "L")
  let r ← many (obj "L") 7
  pure (x :: r)

/-! ### Forms (R554) -/

/-- A form: its header, whether it is a query, and the reader of its arguments for a port. -/
structure Form where
  path : List String
  query : Bool
  read : Fin 3 → Rd LineUnit

/-- A command form, a query form, and one of the eight queries that are units of their own. -/
def cmd (path : List String) (read : Fin 3 → Rd Instr) : Form := ⟨path, false, fun p => LineUnit.row <$> read p⟩
def qry (path : List String) (read : Fin 3 → Rd Instr) : Form := ⟨path, true, fun p => LineUnit.row <$> read p⟩
def yrd (path : List String) (read : Rd YardQ) : Form := ⟨path, true, fun _ => LineUnit.yard <$> read⟩

/-- The forms whose next keyword a keyword resolves to. A keyword is 1 to 12 letters (R82); BAR2, which R570 lists, has a
digit, and is taken where a keyword equals it, as the first step of R84 has it (log 9). -/
def narrow (fs : List (List (List Byte) × Form)) (k : List Byte) : Except Nat (List (List (List Byte) × Form)) :=
  let k := k.map upper
  let heads := (fs.filterMap fun f => f.1.head?).eraseDups
  if heads.contains k || (!k.isEmpty && k.length ≤ 12 && k.all isLetter) then
    match resolve true (heads.map fun x => (x, x)) k with
    | some h => .ok ((fs.filter fun f => f.1.head? == some h).map fun f => (f.1.drop 1, f.2))
    | none => .error 101
  else .error 101

/-- Follow the keywords of a header. -/
def follow : List (List Byte) → List (List (List Byte) × Form) → Except Nat (List (List (List Byte) × Form))
  | [], fs => .ok fs
  | k :: ks, fs => do
    let fs ← narrow fs k
    follow ks fs

/-- The form a header names (R82, R84). -/
def findForm (forms : List Form) (hdr : List Byte) : Except Nat Form := do
  let q := hdr.getLast? == some 0x3F
  let h := if q then hdr.dropLast else hdr
  let fs ← follow (splitOut 0x3A h false []) (forms.map fun f => (f.path.map asc, f))
  match fs.find? fun f => f.1.isEmpty && f.2.query == q with
  | some (_, f) => .ok f
  | none => .error 101

/-- The first argument of a unit out of its range (R86, R392). -/
def argsBad (i : Instr) : Option Nat :=
  match checkArgs i with
  | some k => some k
  | none => match i with
    | .sluiceCoef _ _ _ b0 b1 b2 a1 a2 =>
      firstBad [(3, (normalise [b0, b1, b2]).isSome), (6, (normA a1).isSome), (7, (normA a2).isSome)]
    | .sluiceKi _ _ ki => firstBad [(2, (normalise [ki]).isSome)]
    | _ => none

/-- The same for a unit of a line. -/
def LineUnit.bad : LineUnit → Option Nat
  | .row i => argsBad i
  | .yard (.func n) => firstBad [(1, inN 0 31 n)]
  | .yard (.level n) => firstBad [(1, inN 0 31 n)]
  | .yard (.coinc t) => firstBad [(1, inN 0 7 t)]
  | .yard (.ign t) => firstBad [(1, inN 0 7 t)]
  | .yard _ => none

/-- The first of two arguments out of range. -/
def firstOf : Option Nat → Option Nat → Option Nat
  | some a, some b => some (min a b)
  | a, b => a <|> b

/-- Parse one unit: its command, or a code and an argument position (R84, R86, R87); the form of every argument is judged
before the range of any (R88). -/
def parseUnit (forms : List Form) (p : Fin 3) (cs : List Byte) : Except (Nat × Nat) LineUnit :=
  let cs := trim cs
  let hdr := cs.takeWhile (· != 0x20)
  let rest := trim (cs.dropWhile (· != 0x20))
  match findForm forms hdr with
  | .error e => .error (e, 0)
  | .ok f =>
    let toks := if rest.isEmpty then [] else (splitOut 0x2C rest false []).map fun a => tokOf (trim a)
    match f.read p ⟨1, toks, none⟩ with
    | .error e => .error e
    | .ok (i, a) =>
      if !a.toks.isEmpty then .error (104, a.pos)
      else match firstOf a.late i.bad with
        | some k => .error (105, k)
        | none => .ok i

/-- What a line is. -/
inductive Parsed where
  /-- Refused: code, unit and argument (R92); an untagged response where its tag is malformed (R107). -/
  | err (code unit arg : Nat) (tagged : Bool)
  /-- Only a tag (R83). -/
  | bare
  | units (us : List LineUnit)
  deriving DecidableEq, Repr

/-- Parse units in order; the leftmost failing one gives the error (R88). -/
def parseUnits (forms : List Form) (p : Fin 3) : Nat → List (List Byte) → Except (Nat × Nat × Nat) (List LineUnit)
  | _, [] => .ok []
  | k, c :: t => match parseUnit forms p c with
    | .error (e, a) => .error (e, k, a)
    | .ok i => do
      let r ← parseUnits forms p (k + 1) t
      .ok (i :: r)

/-- Parse a line: its tag, and what it is (R82, R83, R88, R107). -/
def parseLine (forms : List Form) (p : Fin 3) (cs : List Byte) : Option Nat × Parsed :=
  match readTag cs with
  | .bad => (none, .err 104 0 0 false)
  | .none rest => (none, go rest)
  | .tag n rest => (some n, if (trim rest).isEmpty then .bare else go rest)
where
  go (rest : List Byte) : Parsed :=
    let us := splitOut 0x3B rest false []
    if 16 < us.length then .err 103 0 0 true
    else match parseUnits forms p 1 us with
      | .error (e, u, a) => .err e u a true
      | .ok is => .units is

end Sys2Proof.Machine
end

