-- ==== Sys2Proof/Machine/Forms.lean ====
section
/-! DEFINITION. The forms of the Damisk command reference (R561 to R572): each header and its arguments. -/

namespace Sys2Proof.Machine

/-- Words several forms share. -/
def onOff : List (String × Bool) := [("ON", true), ("OFF", false)]
def edges : List (String × Edge3) := [("RISE", .rise), ("FALL", .fall), ("BOTH", .both)]
def riseFall : List (String × Bool) := [("RISE", false), ("FALL", true)]
def synths : List (String × Synth) := [("LHA", .lha), ("LHS", .lhs)]
def memWords : List (String × Mem) := [("DOCK0", .dock0), ("DOCK1", .dock1), ("QBUF", .qbuf)]

/-- The domain names (R172). -/
def domWords : List (String × Dom) :=
  ([.aon, .ctrl, .lhs, .lha, .tally, .dock, .berth01, .berth23, .berth45, .berth67, .acq, .host, .emica] : List Dom).map
    fun d => (domName d, d)
where
  domName : Dom → String
    | .aon => "AON" | .ctrl => "CTRL" | .lhs => "LHS" | .lha => "LHA" | .tally => "TALLY" | .dock => "DOCK"
    | .berth01 => "BERTH01" | .berth23 => "BERTH23" | .berth45 => "BERTH45" | .berth67 => "BERTH67" | .acq => "ACQ"
    | .host => "HOST" | .emica => "EMICA"

/-- The Pilot source names (R228). -/
def pltSrcs : List (String × Nat) :=
  [("NONE", 0)] ++ family "COMP" 8 1 ++ family "DIG" 8 9 ++ family "TRIGIN" 2 17 ++ [("EFIRE", 19)] ++
    family "TALLY" 4 20 ++ [("YARD", 24), ("SOFT", 25)]

/-- The Yard event names (R116). -/
def yardSrcs : List (String × Nat) :=
  [("NONE", 0), ("TIDE", 1), ("TRIP", 2), ("TRIGACC", 3), ("EFIRE", 4), ("ACQDONE", 5), ("PPS", 6), ("LISTEND", 7)] ++
    family "COMP" 8 8 ++ family "SEG" 8 16 ++ family "TLY" 4 24 ++ family "MF" 32 32 ++ family "SOFT" 8 64 ++
    family "MISS" 8 72

/-- The Yard task names (R120), pin function names (R128), Tally source names (R360) and store records (R536). -/
def tasks : List (String × Nat) :=
  [("ARM", 0), ("FIRE", 1), ("START", 2), ("STOP", 3), ("SNAPSHOT", 4), ("SWAP", 5), ("MOOR", 6), ("STEP", 7)]
def pinFuncs : List (String × Nat) :=
  [("PARK", 0), ("YIN", 1), ("GPO", 2), ("TRIGIN", 3), ("TRIGOUT", 4), ("EDGEIN", 5), ("ENC", 6), ("SPIDAC", 7),
    ("PWM", 8), ("TRIP", 9), ("INT", 10), ("PPS", 11), ("UART", 12)]
def tlySrcs : List (String × Nat) := [("NONE", 0)] ++ family "COMP" 8 1 ++ family "EDGEIN" 2 9
def records : List (String × Nat) :=
  [("IDENT", 0), ("BERTH", 1), ("PILOT", 2), ("TALLY", 3), ("COEF", 4), ("LIST", 5)] ++ family "SETUP" 16 6

/-- A Bell target, and a Warehouse object (R557). -/
def bellTgts : List (String × Nat) := [("INT0", 0), ("INT1", 1), ("MSIA", 2), ("MSIB", 3)]
def wobj (t : Tok) : Read WObj :=
  match obj "H" t false with
  | .ok (h, _) => pure (.hist h)
  | .error _ => .map <$> obj "M" t

/-- The SYS, TIME and REG forms (R561). -/
def formsSys : List Form := [
  qry ["SYS", "ID"] fun p => pure (.sysIdQuery p),
  qry ["SYS", "STEP"] fun p => pure (.sysStepQuery p),
  cmd ["SYS", "TIDE"] fun p => return .sysTide p (← arg nat),
  qry ["SYS", "TIDE"] fun p => pure (.sysTideQuery p),
  qry ["SYS", "TIDENUM"] fun p => pure (.sysTidenumQuery p),
  qry ["SYS", "EPOCH"] fun p => pure (.sysEpochQuery p),
  cmd ["SYS", "GUARD"] fun p => return .sysGuard p (← arg nat),
  qry ["SYS", "CONFLICT"] fun p => pure (.sysConflictQuery p),
  cmd ["SYS", "UART"] fun p => return .sysUart p (← arg nat) (← opt (word [("RTS", true), ("NORTS", false)])),
  cmd ["SYS", "ECHO"] fun p => return .sysEcho p (← arg (word onOff)),
  cmd ["SYS", "NOTIFY"] fun p => return .sysNotify p (← arg nat),
  qry ["SYS", "ERR"] fun p => pure (.sysErrQuery p),
  cmd ["SYS", "RESET"] fun p => pure (.sysReset p),
  qry ["TIME"] fun p => pure (.timeQuery p),
  cmd ["TIME", "SET"] fun p => return .timeSet p (← arg nat) ((← opt nat).getD 0),
  cmd ["TIME", "CANCEL"] fun p => pure (.timeCancel p),
  cmd ["TIME", "ADJ"] fun p => return .timeAdj p (← arg (unitI (10 ^ 9) 1 32)),
  cmd ["TIME", "PPS"] fun p => return .timePps p (← arg (word onOff)) (← opt (word riseFall)),
  cmd ["TIME", "PPSLIM"] fun p =>
    return .timePpslim p (← arg (unitN (10 ^ 6) 1)) (← opt (word [("STEP", true), ("NOSTEP", false)])),
  qry ["TIME", "PPS"] fun p => pure (.timePpsQuery p),
  qry ["TIME", "STAMP"] fun p => pure (.timeStampQuery p),
  cmd ["REG"] fun p => return .reg p (← arg nat) (← arg nat),
  qry ["REG"] fun p => return .regQuery p (← arg nat),
  cmd ["ABORT"] fun p => pure (.abort p)]

/-- The CLK and PWR forms (R562). -/
def formsClk : List Form := [
  cmd ["CLK", "ACLK"] fun p => return .clkAclk p (← arg (unitN (2 ^ 44) (10 ^ 8))),
  qry ["CLK", "ACLK"] fun p => pure (.clkAclkQuery p),
  cmd ["CLK", "FCW"] fun p => return .clkFcw p (← arg nat),
  cmd ["CLK", "BW"] fun p => return .clkBw p (← arg (word synths)) (← arg nat),
  cmd ["CLK", "LOCKWIN"] fun p => return .clkLockwin p (← arg (word synths)) (← arg nat),
  cmd ["CLK", "PHLIM"] fun p => return .clkPhlim p (← arg (word synths)) (← arg nat),
  cmd ["CLK", "AUTORES"] fun p => return .clkAutores p (← arg (word synths)) (← arg (word onOff)),
  cmd ["CLK", "RESUME"] fun p => return .clkResume p (← arg (word synths)),
  cmd ["CLK", "DDR"] fun p => return .clkDdr p (← arg (oneOf [(3200, .d3200), (2666, .d2666), (1600, .d1600)])),
  cmd ["CLK", "SYNC"] fun p =>
    return .clkSync p (← arg (word onOff)) (← opt (word [("PIN", false), ("ESYNC", true)])) (← opt (word riseFall))
      (← opt nat) (← opt (word [("ONCE", false), ("CONT", true)])),
  qry ["CLK", "STAT"] fun p => pure (.clkStatQuery p),
  qry ["CLK", "COUNT"] fun p => return .clkCountQuery p (← arg (word synths)),
  cmd ["PWR", "ON"] fun p => return .pwrOn p (← arg (word domWords)),
  cmd ["PWR", "OFF"] fun p => return .pwrOff p (← arg (word domWords)),
  qry ["PWR", "STATE"] fun p => return .pwrStateQuery p (← opt (word domWords)),
  qry ["PWR", "DISC"] fun p => return .pwrDiscQuery p (← arg (word domWords)),
  qry ["PWR", "CAUSE"] fun p => pure (.pwrCauseQuery p),
  cmd ["PWR", "PERST"] fun p => return .pwrPerst p (← arg (word [("UNIT", false), ("HOST", true)]))]

/-- The BERTH forms (R563). -/
def formsBerth : List Form := [
  cmd ["BERTH", "ROUTE"] fun p => return .berthRoute p (← arg (obj "AIN")) (← arg nat),
  qry ["BERTH", "ROUTE"] fun p => return .berthRouteQuery p (← arg (obj "AIN")),
  cmd ["BERTH", "MAP"] fun p => return .berthMap p (← arg nat),
  qry ["BERTH", "MAP"] fun p => pure (.berthMapQuery p),
  cmd ["BERTH", "CAL"] fun p =>
    return .berthCal p (← arg (word [("RUN", true), ("FREEZE", false)]))
      (← arg (word [("SKEW", .skew), ("GAIN", .gain), ("OFFSET", .offset), ("ALL", .all)])),
  qry ["BERTH", "CAL"] fun p => pure (.berthCalQuery p),
  cmd ["BERTH", "BGCLEAR"] fun p => pure (.berthBgclear p),
  cmd ["BERTH", "TRIM"] fun p => return .berthTrim p (← arg nat) (← arg nat),
  qry ["BERTH", "TRIM"] fun p => return .berthTrimQuery p (← arg nat),
  cmd ["BERTH", "CALOFS"] fun p => return .berthCalofs p (← arg nat) (← arg (int 16)),
  cmd ["BERTH", "CALGAIN"] fun p => return .berthCalgain p (← arg nat) (← arg (int 16)),
  qry ["BERTH", "MON"] fun p => return .berthMonQuery p (← arg (obj "AIN")),
  qry ["BERTH", "SNAP"] fun p => return .berthSnapQuery p (← arg (obj "AIN")),
  cmd ["BERTH", "MONCHK"] fun p => return .berthMonchk p (← arg (obj "AIN")) (← arg (word onOff)),
  cmd ["BERTH", "MONSTREAM"] fun p => return .berthMonstream p (← arg nat),
  qry ["BERTH", "OVR"] fun p => return .berthOvrQuery p (← arg nat),
  qry ["BERTH", "STAT"] fun p => pure (.berthStatQuery p)]

/-- The PILOT and TRIG forms (R564). -/
def formsPilot : List Form := [
  cmd ["PILOT", "COMP"] fun p => return .pilotComp p (← arg (obj "AIN")) (← arg nat) (← opt nat) (← opt (word edges)),
  qry ["PILOT", "COMP"] fun p => return .pilotCompQuery p (← arg (obj "AIN")),
  cmd ["PILOT", "DLY"] fun p => return .pilotDly p (← arg (word (family "COMP" 8 1 ++ family "TRIGIN" 2 17))) (← arg (int 20)),
  qry ["PILOT", "DLY"] fun p => return .pilotDlyQuery p (← arg (word (family "COMP" 8 1 ++ family "TRIGIN" 2 17))),
  cmd ["PILOT", "TRIGIN"] fun p => return .pilotTrigin p (← arg nat) (← arg nat) (← opt (word edges)),
  cmd ["PILOT", "DIG"] fun p =>
    return .pilotDig p (← arg nat) (← arg (obj "AIN"))
      (← arg (word [("LEVEL", .level), ("WINDOW", .window), ("SLOPE", .slope), ("WIDTH", .width), ("RUNT", .runt)]))
      (← arg nat) (← arg (int 16)) (← opt (int 16)) (← opt nat) (← opt (word onOff)),
  cmd ["PILOT", "WIDTH"] fun p => return .pilotWidth p (← arg nat) (← arg nat) (← arg nat) (← opt nat),
  cmd ["PILOT", "SPAN"] fun p => return .pilotSpan p (← arg nat) (← arg nat),
  cmd ["PILOT", "ENG"] fun p =>
    return .pilotEng p (← arg nat) (← arg (word [("A", false), ("AB", true)])) (← arg (word pltSrcs)) (← opt (word pltSrcs))
      (← opt nat),
  qry ["PILOT", "ENG"] fun p => return .pilotEngQuery p (← arg nat),
  cmd ["PILOT", "REF"] fun p => return .pilotRef p (← arg nat) (← arg (obj "AIN")),
  cmd ["PILOT", "QUAL"] fun p =>
    return .pilotQual p (← arg nat)
      (← arg (word (("OFF", none) :: (family "COMP" 8 1 ++ family "DIG" 8 9 ++ family "TRIGIN" 2 17).map fun x => (x.1, some x.2))))
      (← opt nat),
  cmd ["PILOT", "HOLD"] fun p => do
    let g ← arg nat
    let c ← arg (word [("TIME", false), ("COUNT", true)])
    return .pilotHold p g c (← arg (if c then nat else unitN (10 ^ 9) 2)),
  cmd ["PILOT", "ON"] fun p => return .pilotOn p (← arg nat),
  cmd ["PILOT", "OFF"] fun p => return .pilotOff p (← arg nat),
  cmd ["PILOT", "EFIRE"] fun p =>
    return .pilotEfire p (← arg (word onOff)) (← opt (word pltSrcs)) (← opt nat) (← opt nat),
  cmd ["PILOT", "TRIGOUT"] fun p => do
    let j ← arg nat
    let m ← arg (word [("OFF", TrigoutMode.off), ("ACCEPT", .accept), ("RAW", .raw)])
    let sel := match m with
      | .off => wordOr pltSrcs nat
      | .accept => nat
      | .raw => word pltSrcs
    return .pilotTrigout p j m (← opt sel) (← opt nat),
  qry ["PILOT", "LAST"] fun p => return .pilotLastQuery p (← arg nat),
  qry ["PILOT", "COUNT"] fun p => return .pilotCountQuery p (← arg nat),
  cmd ["TRIG"] fun p => return .trig p (← selArg nat)]

/-- The ACQ, ARM, SEG, STREAM and WMARK forms (R565). -/
def formsAcq : List Form := [
  cmd ["ACQ", "GROUP"] fun p =>
    return .acqGroup p (← arg nat) (← arg (word [("SEGMENT", false), ("STREAM", true)])) (← arg nat),
  qry ["ACQ", "GROUP"] fun p => return .acqGroupQuery p (← arg nat),
  cmd ["ACQ", "MEM"] fun p => return .acqMem p (← arg nat) (← arg (word memWords)) (← arg nat) (← arg nat),
  cmd ["ACQ", "DISARM"] fun p => return .acqDisarm p (← arg nat),
  qry ["ACQ", "STAT"] fun p => return .acqStatQuery p (← arg nat),
  qry ["ACQ", "DEAD"] fun p => return .acqDeadQuery p (← arg nat),
  cmd ["ARM"] fun p => return .arm p (← selArg nat),
  cmd ["SEG", "LEN"] fun p => return .segLen p (← arg nat) (← arg nat) (← arg nat),
  cmd ["SEG", "OVERLAP"] fun p => return .segOverlap p (← arg nat) (← arg (word onOff)),
  cmd ["SEG", "BUF"] fun p => return .segBuf p (← arg nat) (← arg (word [("LINEAR", false), ("RING", true)])) (← arg nat),
  cmd ["SEG", "DIR"] fun p => return .segDir p (← arg (word memWords)) (← arg nat) (← arg nat),
  qry ["SEG", "DIR"] fun p => pure (.segDirQuery p),
  qry ["SEG", "SEQ"] fun p => pure (.segSeqQuery p),
  cmd ["STREAM", "SRC"] fun p => return .streamSrc p (← arg nat) (← arg (word [("RAW", false), ("WMARK", true)])),
  cmd ["STREAM", "BLOCK"] fun p => return .streamBlock p (← arg nat) (← arg nat) (← arg nat),
  cmd ["STREAM", "START"] fun p => return .streamStart p (← arg nat),
  cmd ["STREAM", "STOP"] fun p => return .streamStop p (← arg nat),
  qry ["STREAM", "GAP"] fun p => return .streamGapQuery p (← arg nat),
  cmd ["WMARK", "SET"] fun p =>
    return .wmarkSet p (← arg nat) (← arg (word [("MINMAX", .minmax), ("MEAN", .mean), ("PICK", .pick)])) (← arg nat),
  qry ["WMARK", "SET"] fun p => return .wmarkSetQuery p (← arg nat)]

/-- The WHOUSE and DOCK forms (R565, R566). -/
def formsWhs : List Form := [
  cmd ["WHOUSE", "HIST"] fun p =>
    return .whouseHist p (← arg (obj "H")) (← arg (word (family "AIN" 8 0 ++ family "TLY" 4 8))) (← arg nat) (← opt (word onOff)),
  cmd ["WHOUSE", "GATE"] fun p =>
    return .whouseGate p (← arg (obj "H")) (← arg (word [("FREE", false), ("SEG", true)])) (← opt nat),
  cmd ["WHOUSE", "TWIN"] fun p =>
    return .whouseTwin p (← arg (obj "H")) (← arg (unitN (10 ^ 9 * 65536) 2)) (← arg nat),
  cmd ["WHOUSE", "FLUSHT"] fun p => return .whouseFlusht p (← arg (obj "H")) (← arg (unitN 1000 1)),
  cmd ["WHOUSE", "MEM"] fun p => return .whouseMem p (← arg wobj) (← arg (word memWords)) (← arg nat),
  cmd ["WHOUSE", "MAP"] fun p =>
    return .whouseMap p (← arg (obj "M")) (← arg nat) (← arg (obj "AIN")) (← arg nat) (← arg nat) (← opt (word onOff)),
  cmd ["WHOUSE", "RATE"] fun p => return .whouseRate p (← arg (obj "M")) (← arg nat),
  cmd ["WHOUSE", "DECAY"] fun p => return .whouseDecay p (← arg (obj "M")) (← arg nat),
  cmd ["WHOUSE", "START"] fun p => return .whouseStart p (← arg wobj) (← opt (word [("CLEAR", ())])).isSome,
  cmd ["WHOUSE", "STOP"] fun p => return .whouseStop p (← arg wobj),
  cmd ["WHOUSE", "FLUSH"] fun p => return .whouseFlush p (← arg (obj "H")),
  qry ["WHOUSE", "STAT"] fun p => return .whouseStatQuery p (← arg wobj),
  qry ["WHOUSE", "BINS"] fun p => pure (.whouseBinsQuery p),
  cmd ["DOCK", "CFG"] fun p => do
    let n ← arg nat
    match ← arg (plainWord [("X8", some false), ("X16", some true), ("NONE", none)]) with
    | none => return .dockCfgNone p n
    | some x => return .dockCfg p n x (← arg (oneOf [(4000000000, false), (8000000000, true)])) (← arg nat),
  qry ["DOCK", "CFG"] fun p => return .dockCfgQuery p (← arg nat),
  cmd ["DOCK", "TIM"] fun p =>
    return .dockTim p (← arg nat) (← arg nat) (← arg nat) (← arg nat) (← arg nat) (← arg nat) (← arg nat) (← arg nat)
      (← arg nat) (← arg nat) (← arg nat),
  cmd ["DOCK", "TRAIN"] fun p => return .dockTrain p (← arg nat),
  cmd ["DOCK", "FERRY"] fun p => return .dockFerry p (← arg nat) (← arg nat),
  qry ["DOCK", "CAL"] fun p => return .dockCalQuery p (← arg nat),
  qry ["DOCK", "REFUSE"] fun p => pure (.dockRefuseQuery p),
  qry ["DOCK", "STAT"] fun p => return .dockStatQuery p (← arg nat),
  qry ["DOCK", "ERR"] fun p => return .dockErrQuery p (← arg nat)]

/-- The TALLY and KNOB forms (R567). -/
def formsTally : List Form := [
  cmd ["TALLY", "IN"] fun p => return .tallyIn p (← arg nat) (← arg (word tlySrcs)) (← opt (word edges)),
  cmd ["TALLY", "MODE"] fun p =>
    return .tallyMode p (← arg nat)
      (← arg (word [("STAMP", .stamp), ("INTERVAL", .interval), ("PERIOD", .period), ("WIDTH", .width), ("FREQ", .freq),
        ("DIFF", .diff)])) (← opt nat),
  cmd ["TALLY", "HOLD"] fun p => return .tallyHold p (← arg nat) (← arg (unitN (10 ^ 9) 2)),
  cmd ["TALLY", "GATE"] fun p => return .tallyGate p (← arg nat) (← arg (unitN (10 ^ 6) 1)),
  cmd ["TALLY", "STILL"] fun p => return .tallyStill p (← arg nat) (← arg (unitN 1000 1)),
  cmd ["TALLY", "DLY"] fun p => return .tallyDly p (← arg nat) (← arg (int 20)),
  cmd ["TALLY", "EDGEIN"] fun p => return .tallyEdgein p (← arg nat) (← arg nat) (← opt nat),
  cmd ["TALLY", "STATS"] fun p =>
    return .tallyStats p (← arg nat) (← arg (wordOr [("OFF", none)] fun t => some <$> nat t))
      (← opt (word [("BLOCK", false), ("CONT", true)])),
  cmd ["TALLY", "START"] fun p => return .tallyStart p (← arg nat),
  cmd ["TALLY", "STOP"] fun p => return .tallyStop p (← arg nat),
  qry ["TALLY", "RES"] fun p => return .tallyResQuery p (← arg nat),
  qry ["TALLY", "READ"] fun p => return .tallyReadQuery p (← arg nat),
  qry ["TALLY", "STAT"] fun p => return .tallyStatQuery p (← arg nat),
  cmd ["TALLY", "CAL"] fun p => return .tallyCal p (← arg (wordOr [("ALL", none)] fun t => some <$> nat t)),
  qry ["TALLY", "CAL"] fun p => pure (.tallyCalQuery p),
  cmd ["KNOB", "CFG"] fun p =>
    return .knobCfg p (← arg (unitN (10 ^ 6) 1)) (← arg (unitN 1000 1))
      ((← opt (word [("INV", true), ("NORM", false)])).getD false),
  qry ["KNOB", "POS"] fun p => pure (.knobPosQuery p),
  cmd ["KNOB", "POS"] fun p => return .knobPos p (← arg (int 32)),
  cmd ["KNOB", "SVC"] fun p => return .knobSvc p (← arg (word onOff)) (← opt (obj "L")) (← opt nat),
  cmd ["KNOB", "LIM"] fun p => return .knobLim p (← arg (int 16)) (← arg (int 16)),
  cmd ["KNOB", "ACC"] fun p => return .knobAcc p (← arg nat) (← arg nat) (← arg nat)]

/-- The SLUICE forms (R568). -/
def formsSluice : List Form := [
  cmd ["SLUICE", "MODE"] fun p =>
    return .sluiceMode p (← arg (obj "L")) (← arg (word [("OFF", .off), ("MAN", .man), ("AUTO", .auto)])),
  cmd ["SLUICE", "IN"] fun p =>
    return .sluiceIn p (← arg (obj "L")) (← arg (obj "AIN")) ((← opt (word [("POS", false), ("NEG", true)])).getD false),
  cmd ["SLUICE", "SHARE"] fun p => return .sluiceShare p (← arg (obj "L")) (← arg (word onOff)),
  cmd ["SLUICE", "LAW"] fun p =>
    return .sluiceLaw p (← arg (obj "L")) (← arg (word [("CASCADE", false), ("HYST", true)])) (← opt nat),
  cmd ["SLUICE", "TIMING"] fun p =>
    return .sluiceTiming p (← arg (obj "L")) (← arg (word [("FIXED", false), ("DEADLINE", true)])) (← arg nat),
  cmd ["SLUICE", "PAIR"] fun p => return .sluicePair p (← arg (obj "L")) (← arg (word onOff)),
  cmd ["SLUICE", "PORTS"] fun p => return .sluicePorts p (← arg (obj "L")) (← arg nat),
  cmd ["SLUICE", "PHSRC"] fun p =>
    return .sluicePhsrc p (← arg (obj "L")) (← arg (word ([("NONE", 0), ("PWM", 1)] ++ family "TLY" 4 2))),
  cmd ["SLUICE", "SWPRESET"] fun p => return .sluiceSwpreset p (← arg (obj "L")) (← arg (word onOff)),
  cmd ["SLUICE", "SETP"] fun p => return .sluiceSetp p (← arg (obj "L")) (← arg (int 16)),
  cmd ["SLUICE", "MANOUT"] fun p => return .sluiceManout p (← arg (obj "L")) (← arg (int 20)),
  cmd ["SLUICE", "SAFE"] fun p => return .sluiceSafe p (← arg (obj "L")) (← arg (int 20)),
  cmd ["SLUICE", "OUTLIM"] fun p => return .sluiceOutlim p (← arg (obj "L")) (← arg (int 20)) (← arg (int 20)),
  cmd ["SLUICE", "ILIM"] fun p => return .sluiceIlim p (← arg (obj "L")) (← arg (int 24)) (← arg (int 24)),
  cmd ["SLUICE", "STAGES"] fun p => return .sluiceStages p (← arg (obj "L")) (← arg nat),
  cmd ["SLUICE", "COEF"] fun p =>
    return .sluiceCoef p (← arg (obj "L")) (← arg nat) (← arg real) (← arg real) (← arg real) (← arg real) (← arg real),
  cmd ["SLUICE", "COEFRAW"] fun p =>
    return .sluiceCoefraw p (← arg (obj "L")) (← arg nat) (← arg (int 6)) (← arg (int 20)) (← arg (int 20)) (← arg (int 20))
      (← arg (int 20)) (← arg (int 20)),
  cmd ["SLUICE", "KI"] fun p => return .sluiceKi p (← arg (obj "L")) (← arg real),
  cmd ["SLUICE", "DBAND"] fun p => return .sluiceDband p (← arg (obj "L")) (← arg nat) (← arg (int 16)),
  cmd ["SLUICE", "RIPPLE"] fun p => return .sluiceRipple p (← arg (obj "L")) (← arg nat) (← arg (int 16)),
  cmd ["SLUICE", "SWAP"] fun p => return .sluiceSwap p (← loopList),
  cmd ["SLUICE", "MOORAFTER"] fun p => return .sluiceMoorafter p (← arg nat),
  qry ["SLUICE", "STAT"] fun p => return .sluiceStatQuery p (← arg (obj "L")),
  qry ["SLUICE", "MISSED"] fun p => return .sluiceMissedQuery p (← arg (obj "L"))]

/-- The LIST, SLIP and PROT forms (R568, R569). -/
def formsSlip : List Form := [
  cmd ["LIST", "ENTRY"] fun p => return .listEntry p (← arg nat) (← arg (int 16)) (← arg nat),
  cmd ["LIST", "RANGE"] fun p => return .listRange p (← arg (obj "L")) (← arg nat) (← arg nat) (← opt nat),
  cmd ["LIST", "RUN"] fun p => return .listRun p (← arg (obj "L")),
  cmd ["LIST", "STOP"] fun p => return .listStop p (← arg (obj "L")),
  cmd ["LIST", "STEP"] fun p => return .listStep p (← arg (obj "L")),
  qry ["LIST", "STAT"] fun p => return .listStatQuery p (← arg (obj "L")),
  cmd ["SLIP", "MODE"] fun p =>
    return .slipMode p (← arg nat) (← arg (word [("OFF", .off), ("SPIDAC", .spidac), ("HRPWM", .hrpwm)])),
  cmd ["SLIP", "BUS"] fun p =>
    return .slipBus p (← arg nat) (← arg (oneOf [(0, false), (3, true)]))
      (← arg (word [("NONE", .none), ("AFTER", .after), ("CYCLE", .cycle)])) (← opt nat),
  cmd ["SLIP", "FRAME"] fun p =>
    return .slipFrame p (← arg nat) (← arg nat) (← arg nat) (← arg nat) (← arg nat)
      (← opt (word [("SIGNED", true), ("UNSIGNED", false)])) (← opt (word [("LDAC", true), ("NOLDAC", false)])),
  cmd ["SLIP", "PWM"] fun p => do
    let k ← arg nat
    let per ← arg nat
    let ph ← arg nat
    let hs ← arg nat
    let b ← opt (word [("OFF", .off), ("COMP", .comp), ("SAME", .same)])
    match ← opt nat with
    | none => return .slipPwm p k per ph hs b none
    | some r => return .slipPwm p k per ph hs b (some (r, ← arg nat)),
  cmd ["SLIP", "SAFE"] fun p => return .slipSafe p (← arg nat) (← arg (int 20)),
  cmd ["SLIP", "VALUE"] fun p => return .slipValue p (← arg nat) (← arg (int 20)),
  qry ["SLIP", "STAT"] fun p => return .slipStatQuery p (← arg nat),
  cmd ["PROT", "CHAN"] fun p => return .protChan p (← arg (obj "L")) (← arg (obj "AIN")) (← arg (obj "AIN")),
  cmd ["PROT", "LIMIT"] fun p => do
    let n ← arg (obj "L")
    let k ← arg (word [("OV", LimitKind.ov), ("UV", .uv), ("OCHI", .ochi), ("OCLO", .oclo), ("OP", .op)])
    return .protLimit p n k (← arg (wordOr [("OFF", none)] fun t => some <$> int (if k = .op then 32 else 16) t)),
  cmd ["PROT", "PERSIST"] fun p => return .protPersist p (← arg (obj "L")) (← arg nat),
  cmd ["PROT", "UVDLY"] fun p => return .protUvdly p (← arg (obj "L")) (← arg nat),
  cmd ["PROT", "OVRT"] fun p => return .protOvrt p (← arg (obj "L")) (← arg (word onOff)),
  cmd ["PROT", "FAST"] fun p => do
    let n ← arg (obj "AIN")
    match ← arg (wordOr [("OFF", none)] fun t => some <$> nat t) with
    | none => return .protFastOff p n
    | some th => return .protFast p n th (← arg (word [("ABOVE", false), ("BELOW", true)])) (← arg nat),
  cmd ["PROT", "TRIPOUT"] fun p => return .protTripout p (← arg nat) (← arg nat),
  cmd ["PROT", "MOOR"] fun p => return .protMoor p (← loopList),
  cmd ["PROT", "CLEAR"] fun p => return .protClear p (← selLoops),
  qry ["PROT", "STAT"] fun p => pure (.protStatQuery p)]

/-- The BELL and FERRY forms (R570). -/
def formsBell : List Form := [
  cmd ["BELL", "EN"] fun p => return .bellEn p (← arg nat) (← arg (word onOff)),
  qry ["BELL", "EN"] fun p => pure (.bellEnQuery p),
  cmd ["BELL", "TARGET"] fun p => return .bellTarget p (← arg (word bellTgts)) (← arg (word onOff)) (← opt nat) (← opt nat),
  qry ["BELL", "TARGET"] fun p => return .bellTargetQuery p (← arg (word bellTgts)),
  cmd ["BELL", "VEC"] fun p => return .bellVec p (← arg nat) (← arg nat),
  qry ["BELL", "CLAIM"] fun p => return .bellClaimQuery p (← arg (word bellTgts)),
  cmd ["BELL", "COMPLETE"] fun p => return .bellComplete p (← arg (word bellTgts)) (← arg nat),
  qry ["BELL", "STAT"] fun p => pure (.bellStatQuery p),
  qry ["BELL", "BAD"] fun p => pure (.bellBadQuery p),
  cmd ["FERRY", "RING"] fun p =>
    return .ferryRing p (← arg nat)
      (← arg (word [("STREAM", .stream), ("MARK", .mark), ("MONITOR", .monitor), ("READ", .read), ("WRITE", .write)]))
      (← arg nat) (← opt nat),
  cmd ["FERRY", "BASE"] fun p => return .ferryBase p (← arg nat) (← arg nat) (← arg nat),
  cmd ["FERRY", "MOD"] fun p => return .ferryMod p (← arg nat) (← arg nat) (← arg nat),
  cmd ["FERRY", "START"] fun p => return .ferryStart p (← arg nat),
  cmd ["FERRY", "STOP"] fun p => return .ferryStop p (← arg nat),
  cmd ["FERRY", "RESUME"] fun p => return .ferryResume p (← arg (wordOr [("ALL", none)] fun t => some <$> nat t)),
  cmd ["FERRY", "POST"] fun p => return .ferryPost p (← arg nat) (← arg nat),
  qry ["FERRY", "STAT"] fun p => return .ferryStatQuery p (← arg nat),
  cmd ["FERRY", "BAR2"] fun p => return .ferryBar2 p (← arg (word memWords)) (← arg nat),
  cmd ["FERRY", "ABREC"] fun p => return .ferryAbrec p (← arg nat),
  qry ["FERRY", "LINK"] fun p => pure (.ferryLinkQuery p)]

/-- The EMICA and STORE forms (R571, R572). -/
def formsEmica : List Form := [
  cmd ["EMICA", "ROLE"] fun p => do
    let role ← arg (word [("OFF", RigRole.off), ("MASTER", .master), ("MEMBER", .member)])
    if role = .member then return .emicaRole p role (some (← arg nat))
    else return .emicaRole p role (← opt nat),
  cmd ["EMICA", "MEMBERS"] fun p => return .emicaMembers p (← arg nat),
  cmd ["EMICA", "SHARE"] fun p => return .emicaShare p (← arg (obj "AIN")) (← arg (word onOff)),
  cmd ["EMICA", "GAIN"] fun p => return .emicaGain p (← arg nat) (← arg nat),
  cmd ["EMICA", "MOOR"] fun p => return .emicaMoor p (← arg (word onOff)),
  cmd ["EMICA", "CALRX"] fun p => return .emicaCalrx p (← arg (word onOff)),
  cmd ["EMICA", "EARM"] fun p => return .emicaEarm p (← arg nat),
  cmd ["EMICA", "ALIGN"] fun p => pure (.emicaAlign p),
  cmd ["EMICA", "ARM"] fun p => pure (.emicaArm p),
  cmd ["EMICA", "CALFIRE"] fun p => pure (.emicaCalfire p),
  cmd ["EMICA", "CAL"] fun p => return .emicaCal p (← arg (int 32)),
  qry ["EMICA", "CAL"] fun p => pure (.emicaCalQuery p),
  cmd ["EMICA", "SHCLR"] fun p => pure (.emicaShclr p),
  qry ["EMICA", "STAT"] fun p => pure (.emicaStatQuery p),
  qry ["EMICA", "VAL"] fun p => return .emicaValQuery p (← arg nat),
  qry ["EMICA", "ABS"] fun p => return .emicaAbsQuery p (← arg nat),
  qry ["EMICA", "RIGOFS"] fun p => pure (.emicaRigofsQuery p),
  cmd ["STORE", "SAVE"] fun p => return .storeSave p (← arg (word records)),
  cmd ["STORE", "RECALL"] fun p => return .storeRecall p (← arg (word records)) (← opt (word [("TRIM", ())])).isSome,
  cmd ["STORE", "APPLY"] fun p => pure (.storeApply p),
  cmd ["STORE", "VERIFY"] fun p =>
    return .storeVerify p (← arg (word (("ALL", none) :: records.map fun x => (x.1, some x.2)))),
  qry ["STORE", "STAT"] fun p => pure (.storeStatQuery p),
  qry ["STORE", "IDENT"] fun p => pure (.storeIdentQuery p),
  qry ["STORE", "RAW"] fun p => return .storeRawQuery p (← arg nat)]

/-- The PIN and YARD forms (R572). -/
def formsYard : List Form := [
  cmd ["PIN", "FUNC"] fun p =>
    return .pinFunc p (← arg (obj "MF")) (← arg (word pinFuncs)) ((← opt nat).getD 0) (← opt nat),
  cmd ["PIN", "INV"] fun p => return .pinInv p (← arg (obj "MF")) (← arg (word onOff)),
  yrd ["PIN", "FUNC"] do return .func (← arg (obj "MF")),
  cmd ["PIN", "GPO"] fun p => return .pinGpo p (← arg (obj "MF")) (← arg nat),
  yrd ["PIN", "LEVEL"] do return .level (← arg (obj "MF")),
  cmd ["YARD", "ROUTE"] fun p =>
    return .yardRoute p (← arg nat) (← arg (word yardSrcs)) (← arg (word tasks)) (← arg nat)
      ((← opt (word edges)).getD .rise),
  qry ["YARD", "ROUTE"] fun p => return .yardRouteQuery p (← arg nat),
  cmd ["YARD", "OFF"] fun p => return .yardOff p (← arg nat),
  cmd ["YARD", "PULSE"] fun p => return .yardPulse p (← arg nat),
  cmd ["YARD", "BELL"] fun p => return .yardBell p (← arg nat) (← arg (word yardSrcs)),
  yrd ["YARD", "BELL"] (pure .bell),
  cmd ["YARD", "LOGMASK"] fun p => return .yardLogmask p (← arg (word yardSrcs)) (← arg (word onOff)),
  yrd ["YARD", "LOG"] (pure .log),
  yrd ["YARD", "COINC"] do return .coinc (← arg (word tasks)),
  yrd ["YARD", "IGN"] do return .ign (← arg (word tasks)),
  yrd ["YARD", "ABORTED"] (pure .aborted),
  yrd ["YARD", "SNAP"] (pure .snap)]

/-- Every form. -/
def forms : List Form :=
  formsSys ++ formsClk ++ formsBerth ++ formsPilot ++ formsAcq ++ formsWhs ++ formsTally ++ formsSluice ++ formsSlip ++
    formsBell ++ formsEmica ++ formsYard

/-- A line of ABORT alone takes an abort at its terminator (R100). -/
def abortLine (cs : List Byte) : Bool :=
  match (parseLine forms 0 cs).2 with
  | .units [.row (.abort _)] => true
  | _ => false

end Sys2Proof.Machine
end

