-- ==== Sys2Proof/Machine/Slipway.lean ====
section
/-! DEFINITION. The Slipway (R417 to R427, R436 to R438): the SPI-DAC bus, HRPWM ports, and how ports are held and
released. -/

namespace Sys2Proof.Machine

/-- Port p and its update. -/
def State.slipPort (s : State) (p : Nat) : SlipPort := vget s.slip.ports p
def State.modSlip (s : State) (f : SlipSt → SlipSt) : State := { s with slip := f s.slip }
def State.modPort (s : State) (p : Nat) (f : SlipPort → SlipPort) : State :=
  s.modSlip fun x => { x with ports := vmod x.ports p f }

/-- The mode of port p (R417). -/
def State.portMode (s : State) (p : Nat) : Nat := s.fld (SLP_P_CFG p) 0 2

/-- Capstan is in lock without a hard fault (R438). -/
def State.capOk (s : State) : Bool := s.bit CLK_CAP_STAT 0 && !s.bit CLK_CAP_STAT 8

/-! ### SPI-DAC frames (R419 to R423) -/

/-- The value v of R420, its frame word, and whether it was clamped. -/
def State.frameOf (s : State) (p : Nat) (out : Int) : Nat × Nat × Bool :=
  let len := s.fld (SLP_P_CFG p) 8 5
  let vb := s.fld (SLP_P_CFG p) 16 5
  let vp := s.fld (SLP_P_CFG p) 21 5
  let v := if s.bit (SLP_P_CFG p) 26 then clampInt (-(2 ^ (vb - 1))) (2 ^ (vb - 1) - 1) out else clampInt 0 (2 ^ vb - 1) out
  (ofSigned vb v, putBits (s.fld (SLP_P_FMT p) 0 24) vp vb (ofSigned vb v) % 2 ^ len, v != out)

/-- The RCLK edges up to an instant of the time base that has not passed. -/
def State.edgesTo (s : State) (t : BitVec 56) : Nat :=
  let d := (t - s.tide.tb).toNat
  if 2 ^ 55 ≤ d then 0 else (d + 4) / 5

/-- T_SCK in RCLK cycles (R419). -/
def State.tSck (s : State) : Nat := 2 * s.fld SLP_CFG 0 8

/-- The frames in progress. -/
def State.inFlight (s : State) : Bool := (List.range 8).any fun p => (s.slipPort p).frame.isSome

/-- The RCLK edges to the instant from which the bus is free (R421). -/
def State.busTail (s : State) : Nat :=
  match s.slip.bus with
  | some (t, n) => (5 * n - (s.tide.tb - t).toNat + 4) / 5
  | none => 0

/-- The bus is free (R421). -/
def State.busFree (s : State) : Bool := !s.inFlight && s.busTail == 0

/-- A group of frames has started on this edge (R422). -/
def State.groupNow (s : State) : Bool :=
  match s.slip.bus with
  | some (t, _) => t == s.tide.tb
  | none => false

/-- Start the frame of port p for a value (R420, R421), with the frames that start on this edge (R422). -/
def State.startFrame (s : State) (safe : Bool) (p : Nat) (out : Int) : State :=
  let f := s.frameOf p out
  let mode := s.fld SLP_CFG 9 2
  let after := (safe && mode != 0) || (mode == 1 && s.bit (SLP_P_CFG p) 27)
  let len := s.fld (SLP_P_CFG p) 8 5
  let busy := match s.slip.bus with
    | some (t, n) => if t == s.tide.tb then n else 0
    | none => 0
  let s := (s.setFld (SLP_P_STAT p) 0 20 f.1).setBit (SLP_P_STAT p) 25 f.2.2
  (s.modPort p fun x => { x with frame := some (f.2.1, after), ends := s.tide.tb + BitVec.ofNat 56 (5 * ((len + 1) * s.tSck)) }).modSlip
    fun x => { x with bus := some (s.tide.tb, max busy ((len + 2) * s.tSck)) }

/-- Port p has a SAFE frame, or a value, that waits for the bus. -/
def State.portWaits (s : State) (p : Nat) : Bool :=
  s.portMode p == 1 && ((s.slipPort p).safe || (s.slipPort p).pend.isSome)

/-- The frames that wait start together, SAFE frames ahead of every pending one (R422, R436). -/
def State.startGroup (s : State) : State :=
  let ps := (List.range 8).filter s.portWaits
  if ps.any fun p => (s.slipPort p).safe then
    foldS (fun s p =>
      if (s.slipPort p).safe then
        (s.modPort p fun x => { x with safe := false }).startFrame true p (s.sfld (SLP_P_SAFE p) 0 20)
      else s) ps s
  else
    foldS (fun s p =>
      match (s.slipPort p).pend with
      | some v => (s.modPort p fun x => { x with pend := none }).startFrame false p v
      | none => s) ps s

/-- What waits starts where the bus is free (R422). -/
def State.startFrames (s : State) : State := if s.on .ctrl && s.busFree then s.startGroup else s

/-- What is requested on this edge starts on it where the bus is free, or with the frames that have just started (R422). -/
def State.startNow (s : State) : State := if s.on .ctrl && (s.busFree || s.groupNow) then s.startGroup else s

/-- A port requests a frame (R422): a value that replaces an unsent one counts as late. -/
def State.reqFrame (s : State) (p : Nat) (out : Int) : State :=
  ((s.cond (s.slipPort p).pend.isSome (·.count (SLP_P_LATE p) 1)).modPort p fun x => { x with pend := some out }).startNow

/-- One LDAC pulse (R423). -/
def State.ldacPulse (s : State) : State :=
  s.modSlip fun x => { x with pulses := x.pulses + 1, ended := false, late := false, pulse := none }

/-- The pulse that follows a group comes on its edge (R423). -/
def State.ldacDue (s : State) : State :=
  match s.slip.pulse with
  | some t => s.cond (s.edgesTo t = 0) (·.ldacPulse)
  | none => s

/-- The frame of port p ends (R421, R423): 1 T_SCK after the last one of its group comes the pulse that waits for it. -/
def State.endFrame (s : State) (p : Nat) : State :=
  match (s.slipPort p).frame with
  | none => s
  | some (_, after) =>
    let s := s.modPort p fun x => { x with frame := none }
    let s := s.modSlip fun x => { x with group := x.group || after, ended := x.ended || (s.bit (SLP_P_CFG p) 27 && s.fld SLP_CFG 9 2 == 2) }
    if s.inFlight then s
    else
      let due := s.tide.tb + BitVec.ofNat 56 (5 * s.tSck)
      s.modSlip fun x => { x with group := false, pulse := if x.group || x.late then some due else x.pulse }

/-- LDAC_CYC in CYCLE mode (R423). -/
def State.ldacCycle (s : State) : State :=
  if !s.on .ctrl || s.fld SLP_CFG 9 2 != 2 || !s.slip.ended then s
  else if s.inFlight then (s.modSlip fun x => { x with late := true }).count SLP_LDAC_LATE 1
  else s.ldacPulse

/-! ### HRPWM (R424 to R427) -/

/-- PER of port p. -/
def State.per (s : State) (p : Nat) : Nat := max 1 (s.fld (SLP_P_PWM p) 0 12)

/-- H for a value (R425). -/
def State.pwmH (s : State) (p : Nat) (out : Int) : Nat :=
  (clampInt 0 (128 * s.per p) (asr out (s.fld (SLP_P_PWM2 p) 4 3))).toNat

/-- The value for the next period is taken (R426); an undriven port uses SLP_P_VALUE (R417). -/
def State.pwmSample (s : State) (p : Nat) : State :=
  let und := (s.driver p).isNone
  let out := if und then s.sfld (SLP_P_VALUE p) 0 20 else (s.slipPort p).out
  s.modPort p fun x => { x with out := out, next := s.pwmH p out, nextFresh := und || x.fresh, sampleAt := some s.tide.tb }

/-- A period starts (R425, R437, R438). -/
def State.pwmStart (s : State) (p : Nat) : State :=
  let s := s.modPort p fun x =>
    { x with cnt := 0, high := x.next, wait := x.wait && !x.nextFresh, cap := x.cap && !s.capOk }
  s.setFld (SLP_P_STAT p) 0 20 (s.slipPort p).high

/-- The period counter restarts (R424): a period cut short counts as late (R426). -/
def State.pwmRestart (s : State) (cut : Bool) (p : Nat) : State :=
  let s := s.cond (cut && (s.slipPort p).run && (s.slipPort p).cnt != 0) (·.count (SLP_P_LATE p) 1)
  let s := s.pwmSample p
  let c := (s.per p - s.fld (SLP_P_PWM p) 16 12) % s.per p
  (s.modPort p fun x => { x with cnt := c, high := 0, run := c == 0 }).setFld (SLP_P_STAT p) 0 20 0

/-- A fast trip that has not latched yet has parked the pins of port p (R430, R436). -/
def State.fastParks (s : State) (p : Nat) : Bool :=
  match s.driver p with
  | some d => s.prt.wait.any fun x => (s.unit d).any fun n => bits x.2.2 n 1 == 1
  | none => false

/-- The pins of HRPWM port p are in their park states (R417, R430, R436 to R438). -/
def State.pwmParked (s : State) (p : Nat) : Bool :=
  let x := s.slipPort p
  !s.on .ctrl || s.portMode p != 2 || x.held || x.wait || x.cap || s.fastParks p

/-- Capstan out of lock parks every HRPWM port at once (R438). -/
def State.capPark (s : State) : State :=
  foldS (fun s p => if s.portMode p == 2 then s.modPort p fun x => { x with cap := true } else s) (List.range 8) s

/-- The RCLK edges to the next edge on which port p takes a value, and to the next one on which a period starts (R424, R426). -/
def State.toSample (s : State) (p : Nat) : Nat := (2 * s.per p - 8 - (s.slipPort p).cnt % s.per p) % s.per p
def State.toPeriod (s : State) (p : Nat) : Nat := (s.per p - (s.slipPort p).cnt % s.per p) % s.per p

/-- n RCLK cycles pass for the period counters (R424): a counter that comes to 0 begins a period. -/
def State.pwmAdvance (s : State) (n : Nat) : State :=
  if s.tide.rclk && s.on .ctrl then
    foldS (fun s p =>
      if s.portMode p == 2 then
        s.modPort p fun x => { x with cnt := (x.cnt + n) % s.per p, run := x.run || s.per p ≤ x.cnt + n }
      else s) (List.range 8) s
  else s

/-! ### Loop writes, mooring and release (R417, R436, R437) -/

/-- A loop writes OUT to a port (R417); a held port takes no write (R436). One on the edge that takes the value is taken (R426). -/
def State.portWrite (s : State) (out : Int) (p : Nat) : State :=
  if (s.slipPort p).held then s
  else match s.portMode p with
    | 1 => s.reqFrame p out
    | 2 =>
      let t := s.modPort p fun x => { x with out := out, fresh := true }
      t.cond ((s.slipPort p).sampleAt == some s.tide.tb) (·.pwmSample p)
    | _ => s

/-- Hold port p at the mooring instant (R436); a write of the same edge is discarded (R441), also where its frame has begun. -/
def State.holdPort (s : State) (p : Nat) : State :=
  if (s.slipPort p).held then s
  else s.modPort p fun x =>
    { x with held := true, wait := false, pend := none, safe := s.portMode p == 1, frame := if s.groupNow then none else x.frame }

/-- Release the ports that no tripped loop drives (R437). -/
def State.releasePorts (s : State) : State :=
  foldS (fun s p =>
    let trip := match s.driver p with
      | some n => (s.unit n).any s.tripped
      | none => false
    if (s.slipPort p).held && !trip then
      s.modPort p fun x =>
        { x with held := false, wait := s.portMode p == 2 && (s.driver p).isSome, fresh := false, nextFresh := false }
    else s) (List.range 8) s

/-- SLP_P_STAT of port p (R439). -/
def State.portStat (s : State) (p : Nat) : Nat :=
  s.fld (SLP_P_STAT p) 0 20 + b2n (s.slipPort p).held * 2 ^ 24 + b2n (s.bit (SLP_P_STAT p) 25) * 2 ^ 25 +
    (match s.driver p with
     | some n => n * 2 ^ 28 + 2 ^ 31
     | none => 0)

/-- SLP_STAT (R439). -/
def State.slipStat (s : State) : Nat :=
  b2n (!s.busFree) + (List.range 8).foldl (fun a p => a + b2n (s.slipPort p).held * 2 ^ (8 + p)) 0

/-! ### Changes (R418, R424) -/

/-- A loop in AUTO drives an SPIDAC port. -/
def State.autoSpidac (s : State) : Bool := (List.range 8).any fun p => s.portMode p == 1 && s.autoDrives p

/-- The checks of SLP_CFG (R34, R418, R423, R439, R569). -/
def State.slipCfgCheck (s : State) (w : Nat) : Except Nat Unit := do
  need (!s.autoSpidac) 203
  need (bits w 0 8 != 0 && bits w 9 2 != 3) 105
  need (bits w 9 2 != 2 || (10 ≤ bits w 16 10 && bits w 16 10 < s.fld SYS_TIDE_LEN 0 10)) (argErr 4)

/-- The range checks of SLP_P_CFG (R418). -/
def slipCfgOk (w : Nat) : Bool :=
  bits w 0 2 != 3 && 8 ≤ bits w 8 5 && bits w 8 5 ≤ 24 && 8 ≤ bits w 16 5 && bits w 16 5 ≤ 20 &&
    bits w 21 5 + bits w 16 5 ≤ bits w 8 5

/-- The range checks of SLP_P_PWM and SLP_P_PWM2 (R418). -/
def slipPwmOk (w : Nat) : Bool := 16 ≤ bits w 0 12 && bits w 16 12 < bits w 0 12
def slipPwm2Ok (w : Nat) : Bool := bits w 0 2 != 3

/-- What a MODE change of port p does, from the mode it had (R417, R424, R438). -/
def State.portModeEffect (s : State) (was p : Nat) : State :=
  let is := s.portMode p
  if was = is then s
  else
    let s := s.modPort p fun x =>
      { x with pend := none, safe := false, frame := if was = 1 then none else x.frame, wait := false, value := false,
               cap := !s.capOk, fresh := false }
    if is = 2 then s.pwmRestart false p else s

/-- The Slipway when CTRL enters ON (R439, R447): an HRPWM port kept across the OFF restarts. -/
def State.slipwayOn (s : State) : State :=
  let s := s.setRegN SLP_LDAC_LATE 0
  let s := s.modSlip fun x => { x with ended := false, late := false, group := false, bus := none, pulse := none }
  foldS (fun s p =>
    let s := (s.setRegN (SLP_P_STAT p) 0).setRegN (SLP_P_LATE p) 0
    let s := s.modPort p fun x => { SlipPort.reset with held := x.held, out := x.out, cap := !s.capOk }
    if s.portMode p == 2 then s.pwmRestart false p else s) (List.range 8) s

/-- Frames and periods in progress are cut as CTRL enters DRAINING: their number (R181, R445). -/
def State.slipwayCut (s : State) : Nat × State :=
  let n := (List.range 8).foldl (fun a p =>
    a + b2n (s.slipPort p).frame.isSome + b2n (s.portMode p == 2 && (s.slipPort p).run)) 0
  (n, foldS (fun s p => s.modPort p fun x => { x with frame := none, pend := none, safe := false, high := 0, cnt := 0, run := false }) (List.range 8)
    (s.modSlip fun x => { x with ended := false, late := false, group := false, bus := none, pulse := none }))

end Sys2Proof.Machine
end

