-- ==== Sys2Proof/Machine/Protection.lean ====
section
/-! DEFINITION. Protection (R428 to R435, R441, R442): digital limits, the fast trip, the trip latch and its clearing. -/

namespace Sys2Proof.Machine

def State.modPrt (s : State) (f : PrtSt → PrtSt) : State := { s with prt := f s.prt }

/-! ### The trip latch (R432, R433, R435) -/

/-- TRIP j asserts (R430, R435). -/
def State.tripPin (s : State) (j : Nat) : Bool :=
  let m := s.prt.wait.foldl (fun m x => m ||| x.2.2) (s.fld PRT_TRIPPED 0 8)
  s.on .ctrl && (m &&& s.fld (PRT_TRIPOUT j) 0 8) != 0

/-- Cause bits join a loop's cause, with the comparator of a fast trip (R432, R433). -/
def State.orCause (s : State) (n bitsMask : Nat) (ch : Option Nat) : State :=
  let old := s.fld (PRT_L_CAUSE n) 0 13
  let s := match ch with
    | some c => if bits old 6 1 = 0 ∧ bits bitsMask 6 1 = 1 then s.setFld (PRT_L_CAUSE n) 16 3 c else s
    | none => s
  s.setFld (PRT_L_CAUSE n) 0 13 (old ||| bitsMask)

/-- A trip latches for a loop that is not tripped (R433). -/
def State.setTrip (s : State) (n : Nat) : State :=
  let s := (s.flag PRT_TRIPPED n).setRegN (PRT_L_CAUSE n) 0
  let s := s.setReg72 (PRT_L_TS_Q0 n) s.now
  let s := s.setReg64 (PRT_L_TIDE_LO n) (PRT_L_TIDE_HI n) s.tide.number.toNat
  (s.flag PRT_EVT n).count PRT_TRIP_CNT 1

/-- Latch a trip with the given causes for the loops listed, on one edge (R402, R433, R436): each loop newly tripped
latches its pair partner too. No trip latches unless CTRL is ON (R192). -/
def State.latchTrip (s : State) (l : List (Nat × Nat)) (ch : Option Nat) : State :=
  let l := l.filter fun x => x.2 != 0
  if !s.on .ctrl || l.isEmpty then s
  else
    let new := (l.map (·.1)).filter fun n => !s.tripped n
    let mates := (new.filterMap s.partner).filter fun n => !s.tripped n
    let all := (List.range 8).filter fun n => new.contains n || mates.contains n
    let ports := (List.range 8).filter fun p =>
      match s.driver p with
      | some d => (s.unit d).any all.contains
      | none => false
    let s := foldS State.setTrip all s
    let s := l.foldl (fun s x => s.orCause x.1 x.2 ch) s
    let s := (new.filterMap s.partner).foldl (fun s n => s.orCause n 4096 none) s
    let s := (foldS State.holdPort ports s).startNow
    let s := foldS State.moorLoop all s
    if all.isEmpty then s else (s.raise 2).notify .trip 0 [.hex 2 (s.fld PRT_TRIPPED 0 8)] (256 - s.fld PRT_TRIPPED 0 8)

/-- A trip with one cause for the loops of a mask. -/
def State.tripMask (s : State) (m cause : Nat) (ch : Option Nat) : State :=
  s.latchTrip ((maskBits 8 m).map fun n => (n, 2 ^ cause)) ch

/-! ### Digital limits (R428, R429) -/

/-- The tide sample of a channel, where it was delivered: MEAN and OVR. -/
def State.tideSample (s : State) (ch : Nat) : Option (Int × Bool) := (vget s.brt.chans ch).win.map fun x => (x.1, x.2.1)

/-- The causes violated by loop n in this tide; none where a needed sample is missing (R428, R429). -/
def State.violations (s : State) (n : Nat) : Option Nat :=
  let en := s.fld (PRT_L_CFG n) 8 6
  let e := fun i => bits en i 1 == 1
  let uv := e 1 && s.loopMode n == 2 && s.fld (PRT_L_UVDLY n) 0 16 ≤ (s.tide.number - (s.loop (s.lead n)).since).toNat
  let v := s.tideSample (s.fld (PRT_L_CFG n) 0 3)
  let i := s.tideSample (s.fld (PRT_L_CFG n) 4 3)
  let needV := e 0 || uv || e 4 || e 5
  let needI := e 2 || e 3 || e 4 || e 5
  if (needV && v.isNone) || (needI && i.isNone) then none
  else
    let vm := (v.getD (0, false)).1
    let im := (i.getD (0, false)).1
    let op : Int := 256 * s.fld (PRT_L_OP n) 0 31
    let ovr := (v.getD (0, false)).2 || (i.getD (0, false)).2
    some (b2n (e 0 && vm > 16 * s.sfld (PRT_L_V n) 0 16) + b2n (uv && vm < 16 * s.sfld (PRT_L_V n) 16 16) * 2 +
      b2n (e 2 && im > 16 * s.sfld (PRT_L_I n) 0 16) * 4 + b2n (e 3 && im < 16 * s.sfld (PRT_L_I n) 16 16) * 8 +
      b2n (e 4 && ((vm * im).natAbs : Int) > op) * 16 + b2n (e 5 && ovr) * 32)

/-- The limit sets are evaluated (R429). -/
def State.evalLimits (s : State) : State :=
  if !s.on .ctrl then s
  else
    let s := s.modPrt fun x => { x with saved := some x.viol }
    foldS (fun s n =>
      match s.violations n with
      | none => s
      | some 0 => s.modPrt fun x => { x with viol := vset x.viol n 0 }
      | some c =>
        let k := satAdd 255 (vget s.prt.viol n) 1
        let s := s.modPrt fun x => { x with viol := vset x.viol n k }
        if s.fld (PRT_L_CFG n) 16 8 ≤ k then s.modPrt fun x => { x with due := vmod x.due n (· ||| c) } else s) (List.range 8) s

/-- Loop n regulates with the share correction: SHARE set and in AUTO (R515, R518). -/
def State.shares (s : State) (n : Nat) : Bool := s.bit (SLC_L_CFG n) 9 && s.loopMode n == 2

/-- The trips found in this tide latch at cycle 9 (R401, R429, R518). -/
def State.latchDue (s : State) : State :=
  let l := (List.range 8).map fun n => (n, vget s.prt.due n ||| (if s.prt.rig && s.shares n then 1024 else 0))
  (s.latchTrip l none).modPrt fun x => { x with due := .replicate 8 0, rig := false }

/-! ### Fast trip (R430, R431) -/

/-- A fast trip of comparator c reaches its loops: it latches n RCLK edges later, and until then parks the pins of their HRPWM
ports and asserts TRIP (R430). -/
def State.fastTrip (s : State) (n c : Nat) : State :=
  let m := s.fld (PRT_FAST c) 16 8
  if m = 0 || !s.on .ctrl then s else s.modPrt fun x => { x with wait := x.wait ++ [(n, c, m)] }

/-- The fast trips due on this edge latch (R430). -/
def State.fastLatch (s : State) : State :=
  let l := s.prt.wait.filter (·.1 == 0)
  l.foldl (fun s x => s.tripMask x.2.2 6 (some x.2.1)) (s.modPrt fun x => { x with wait := x.wait.filter (·.1 != 0) })

/-- One RCLK edge passes for the fast trips that wait. -/
def State.fastCount (s : State) : State :=
  s.modPrt fun x => { x with wait := x.wait.map fun y => (y.1 - 1, y.2) }

/-- Comparator c enters its tripping state (R430): a crossing within a cycle latches on the fourth edge after the one that
began it, the first at least 30 ns later. -/
def State.fastEnter (s : State) (c : Nat) : State :=
  (s.modPrt fun x => { x with fast := x.fast ||| BitVec.ofNat 8 (2 ^ c) }).fastTrip 4 c

/-- Comparator c leaves its tripping state (R430). -/
def State.fastLeave (s : State) (c : Nat) : State :=
  s.modPrt fun x => { x with fast := x.fast &&& ~~~(BitVec.ofNat 8 (2 ^ c)) }

/-- A comparator is in its tripping state. -/
def State.fastHigh (s : State) (c : Nat) : Bool := bits s.prt.fast.toNat c 1 == 1

/-- The fast trips that waited for RCLK latch (R430). -/
def State.fastReturn (s : State) : State :=
  (s.modPrt fun x => { x with wait := x.wait.map fun y => (0, y.2) }).fastLatch

/-- What a commit of PRT_FAST_c does, from the word it had (R430, R431): a new threshold or direction is judged anew
by the comparator; LOOPS becoming non-zero while it is in its tripping state is a crossing. -/
def State.fastEffect (s : State) (was c : Nat) : State :=
  let is := s.regN (PRT_FAST c)
  if bits was 0 13 ≠ bits is 0 13 then s.fastLeave c
  else if bits was 16 8 = 0 && bits is 16 8 != 0 && s.fastHigh c then s.fastTrip 3 c
  else s

/-! ### CLEAR and MOOR (R434, R442) -/

/-- Clear the trips of the loops of a mask and of their partners (R434, R437). -/
def State.clearTrips (s : State) (m : Nat) : State :=
  let named := (maskBits 8 m).filter s.tripped
  let all := (List.range 8).filter fun n => named.contains n || ((named.filterMap s.partner).contains n && s.tripped n)
  if all.isEmpty then s
  else
    let s := foldS (fun s n => ((s.setBit PRT_TRIPPED n false).setFld (PRT_L_CAUSE n) 0 13 0).unmoorLoop n) all s
    let still := (List.range 8).filter fun c => s.fastHigh c
    let s := still.foldl (fun s c => s.tripMask (s.fld (PRT_FAST c) 16 8 &&& maskOf all) 6 (some c)) s
    s.releasePorts

/-- Loops for which a MOOR has been taken on this edge, and those for which the Yard has delivered one (R136, R442). -/
def State.softNow (s : State) : Nat := if s.prt.softAt = s.tide.tb then s.prt.soft else 0
def State.yardNow (s : State) : Nat := if s.prt.softAt = s.tide.tb then s.prt.yard else 0

/-- Note the MOORs of this edge: of commands, and of the Yard. -/
def State.noteMoor (s : State) (soft yard : Nat) : State :=
  s.modPrt fun x => { x with soft := s.softNow ||| soft, yard := s.yardNow ||| yard, softAt := s.tide.tb }

/-- A MOOR of a mask of loops (R434, R442). -/
def State.moorCmd (s : State) (m : Nat) : State := (s.tripMask m 11 none).noteMoor m 0

/-- A CLEAR of a mask of loops: one for which a MOOR was taken on the same edge is left tripped with cause SOFT (R442), and one
for which the Yard delivered a MOOR with cause YARD (R136). The trip that a MOOR latched stays; an older one clears, and a
new one latches. -/
def State.clearCmd (s : State) (m : Nat) : State :=
  let named := m ||| maskOf ((maskBits 8 m).filterMap s.partner)
  let soft := s.softNow &&& named
  let yard := s.yardNow &&& named
  let stay := (maskBits 8 (soft ||| yard)).filter fun n => s.tripped n && s.reg72 (PRT_L_TS_Q0 n) == s.now
  let keep := maskOf (stay ++ stay.filterMap s.partner)
  let s := s.clearTrips (m &&& (0xFF ^^^ keep))
  let s := foldS (fun s n => s.setFld (PRT_L_CAUSE n) 0 13 (2048 * bits soft n 1 + 256 * bits yard n 1)) stay s
  s.latchTrip ((maskBits 8 (soft ||| yard)).map fun n => (n, 2048 * bits soft n 1 + 256 * bits yard n 1)) none

/-- PRT_CMD on arrival (R434, R442): CLEAR, then MOOR. -/
def State.prtCmd (s : State) (clear moor : Nat) : State := (s.clearCmd clear).moorCmd moor

/-- A Yard MOOR delivery: whether a loop of it was already tripped (R120, R123). -/
def State.yardMoor (s : State) (m : Nat) : Bool × State :=
  ((maskBits 8 m).any s.tripped || !s.on .ctrl,
    (s.tripMask (maskOf ((maskBits 8 m).filter fun n => !s.tripped n)) 8 none).noteMoor 0 m)

/-- The CAPSTAN trip (R154): the loops whose ports are in HRPWM mode. -/
def State.capTrip (s : State) : State :=
  let ls := ((List.range 8).filter fun p => s.portMode p == 2).filterMap s.driver
  s.tripMask (maskOf ls) 9 none

/-- The protection when CTRL enters ON (R430, R439). -/
def State.protectionOn (s : State) : State :=
  let s := s.setRegN PRT_TRIP_CNT 0
  let s := s.modPrt fun x =>
    { x with viol := .replicate 8 0, saved := none, due := .replicate 8 0, wait := [], soft := 0, yard := 0, rig := false }
  ((List.range 8).filter fun c => s.fastHigh c).foldl (fun s c => s.fastTrip 3 c) s

/-- The protection as CTRL enters DRAINING (R181, R192). -/
def State.protectionStop (s : State) : State :=
  s.modPrt fun x => { x with due := .replicate 8 0, wait := [], saved := none, rig := false }

end Sys2Proof.Machine
end

