-- ==== Sys2Proof/Machine/Emica.lean ====
section
/-! DEFINITION. The Emica rig (R506 to R534): the share exchange, the correction, slot states, and the alignment, arm and
calibration pulses. -/

namespace Sys2Proof.Machine

def State.modEmc (s : State) (f : EmcSt → EmcSt) : State := { s with emc := f s.emc }

/-- ROLE: 0 OFF, 1 MASTER, 2 MEMBER; the own slot; EMC_MEMBERS (R509). -/
def State.role (s : State) : Nat := s.fld EMC_CFG 0 2
def State.ownSlot (s : State) : Nat := if s.role = 2 then s.fld EMC_CFG 4 3 else 0
def State.members (s : State) : List Nat := maskBits 8 (s.fld EMC_MEMBERS 0 8)

/-- The rig size N (R509). -/
def State.rigSize (s : State) : Nat := (s.members.foldl max 0) + 1

/-- A configuration of ROLE, SLOT and EMC_MEMBERS holds together (R36, R509). -/
def State.rigOk (s : State) : Bool :=
  10 * s.rigSize + 18 ≤ s.regN SYS_TIDE_LEN && s.bit EMC_MEMBERS 0 && s.bit EMC_MEMBERS s.ownSlot &&
  !(s.role == 2 && s.fld EMC_CFG 4 3 == 0)

/-- Any loop with SHARE set is in AUTO (R509). -/
def State.anyShare (s : State) : Bool := (List.range 8).any s.shares

/-- The exchange runs: EMICA ON, or DRAINING in the tide the OFF request committed (R181). -/
def State.emcRuns (s : State) : Bool := s.on .emica || (s.dom .emica == 3 && s.pwr.edges[12] == 0)

/-- EMC_STAT.STATE (R511): 0 OFF, 1 LISTEN, 2 RUNNING. -/
def State.emcState (s : State) : Nat := s.fld EMC_STAT 0 2

/-- The rig mapping of stamps (R522): EMC_RIGOFS = CLK_SYNC_TS + EMC_CAL. -/
def State.rigOfs (s : State) : State :=
  s.setReg72 EMC_RIGOFS_Q0 (BitVec.ofNat 72 (((s.reg72 CLK_SYNC_TS_Q0).toNat + toSigned 32 (s.regN EMC_CAL)) % 2 ^ 72).toNat)

/-- What a commit of ROLE or EMC_MEMBERS does (R517, R531): every slot of the rig starts WAITING. -/
def State.rigRestart (s : State) : State :=
  let s := s.modEmc fun x => { x with slots := .replicate 8 RigSlot.reset, poll := false, sent := none }
  let s := s.setRegN EMC_SLOTS (if s.role = 0 then 0 else s.fld EMC_MEMBERS 0 8 * 2 ^ 16)
  s.setFld EMC_STAT 0 2 (if s.role = 1 then 2 else if s.role = 2 then 1 else 0)

/-! ### The exchange (R512 to R516) -/

/-- The share frame of this tide (R513, R515): SHARE, FLAG, PAR and STOP as 17 bits, the first sent highest. -/
def State.shareFrame (s : State) : Nat :=
  let ones := fun x => (maskBits 15 x).length % 2
  let x :=
    match s.tideSample (s.fld EMC_CFG 9 3) with
    | some (mean, _) =>
      if s.bit EMC_CFG 8 && s.anyShare then ofSigned 14 (clampInt (-8192) 8191 (roundDiv mean 64)) * 2 + 1 else 0
    | none => 0
  x * 4 + ones x * 2

/-- The unit sends its frame in slot j (R512). -/
def State.sendFrame (s : State) : State := s.modEmc fun x => { x with sent := some s.shareFrame }

/-- The master sends its poll (R512). -/
def State.pollSend (s : State) : State := if s.emcRuns && s.role == 1 then s.sendFrame else s

/-- A polled member sends in its slot (R512). -/
def State.slotSend (s : State) : State := if s.emcRuns && s.role == 2 && s.emc.poll then s.sendFrame else s

/-- A frame is valid when STOP reads 0 and the parity is even (R514). -/
def frameOk (w : Nat) : Bool := bits w 0 1 == 0 && (maskBits 17 w).length % 2 == 0

/-- A frame is received in slot j (R514, R532, R533); none is found without Capstan lock. -/
def State.frameRecv (s : State) (j w : Nat) : State :=
  if !s.emcRuns || s.role == 0 || !s.bit CLK_CAP_STAT 0 then s
  else
    let s := match s.emc.sent with
      | some x => s.cond (j == s.ownSlot && x != w) (·.flag EMC_EVT 9)
      | none => s
    if frameOk w then
      s.modEmc fun x =>
        { x with slots := vmod x.slots j fun y => { y with got := some (bits w 3 14 + bits w 2 1 * 2 ^ 14) },
                 poll := x.poll || j == 0 }
    else s.count EMC_PARERR 1

/-- One tide of slot j, present or absent (R517). -/
def RigSlot.tide (x : RigSlot) (present : Bool) : RigSlot :=
  if x.st = 1 then
    if present then { x with run := 0 }
    else if 2 ≤ x.run then { x with st := 2, run := 0 } else { x with run := x.run + 1 }
  else if !present then { x with run := 0 }
  else if 7 ≤ x.run then { x with st := 1, run := 0 } else { x with run := x.run + 1 }

/-- Slot j's tide is judged (R517, R518, R530). -/
def State.slotTide (s : State) (j : Nat) : State :=
  let x := vget s.emc.slots j
  let y := x.tide x.got.isSome
  let s := s.modEmc fun e => { e with slots := vset e.slots j y }
  let s := s.cond x.got.isNone (·.count (EMC_ABS j) 1)
  if x.st = 1 ∧ y.st = 2 then
    let s := (s.flag EMC_EVT j).notify .rig 2 [.dec j]
    s.cond (s.bit EMC_CFG 12) (·.modPrt fun p => { p with rig := true })
  else s

/-- The slots as EMC_SLOTS and EMC_VAL show them (R526). -/
def State.slotRegs (s : State) : State :=
  let s := foldS (fun s j =>
    s.setRegN (EMC_VAL j) (match (vget s.emc.slots j).got with
      | some v => v + 2 ^ 15
      | none => 0)) (List.range 8) s
  let at_ := fun (p : RigSlot → Bool) => maskOf (s.members.filter fun j => p (vget s.emc.slots j))
  s.setRegN EMC_SLOTS (maskOf ((List.range 8).filter fun j => (vget s.emc.slots j).got.isSome) +
    at_ (·.st == 2) * 2 ^ 8 + at_ (·.st == 0) * 2 ^ 16)

/-- Every slot of the rig ends its tide; what was received is then taken (R514, R517). -/
def State.slotsTide (s : State) : State := (foldS State.slotTide s.members s).slotRegs

/-- KS and CLAMP in 1/256 code (R516). -/
def State.clampRaw (s : State) : Int := 256 * (s.fld EMC_SHARE 16 15 : Int)

/-- The share integrator at the deadline (R516), with the frames of the tide. -/
def State.integrate (s : State) : State :=
  let own := s.ownSlot
  let vals : List Nat := (List.range 8).filterMap fun j =>
    if j = own then s.emc.sent.map fun w => bits w 3 14 + bits w 2 1 * 2 ^ 14 else (vget s.emc.slots j).got
  let flagged := vals.filter fun v => bits v 14 1 == 1
  let n := flagged.length
  let sum := flagged.foldl (fun a v => a + toSigned 14 v) (0 : Int)
  let ownFlag := match s.emc.sent with
    | some w => bits w 2 1 == 1
    | none => false
  let share := match s.emc.sent with
    | some w => toSigned 14 (bits w 3 14)
    | none => 0
  let hold := !ownFlag || n < 2 || s.members.any (fun j => (vget s.emc.slots j).st != 1) || (s.role == 2 && s.emcState == 1)
  let s := s.setBit EMC_STAT 2 hold
  if hold then s
  else
    let step := roundDiv (4 * (s.fld EMC_SHARE 0 9 : Int) * (sum - (n : Int) * share)) n
    s.setRegN EMC_CRAW (ofSigned 24 (clampInt (-s.clampRaw) s.clampRaw (s.sfld EMC_CRAW 0 24 + step)))

/-- The count of ECLK edges of a member's tide is judged (R508). -/
def State.eclkCount (s : State) (n : Nat) : State :=
  if s.role != 2 then s
  else
    let ok := s.tide.len ≤ n + 1 && n ≤ s.tide.len + 1
    let s := s.cond (s.bit EMC_STAT 3 && !ok) (·.flag EMC_EVT 8)
    s.setBit EMC_STAT 3 ok

/-- The response deadline (R514 to R517). -/
def State.deadline (s : State) (eclk : Nat) : State :=
  if !s.emcRuns || s.role == 0 || s.emc.judged then s
  else (((s.eclkCount eclk).slotsTide).integrate).modEmc fun x => { x with judged := true }

/-- A shortened tide is an absence of every slot (R65, R530), of the ones its deadline found present too. -/
def State.emcShort (s : State) : State :=
  if !s.emcRuns || s.role == 0 then s
  else
    let js := s.members.filter fun j => !s.emc.judged || (vget s.emc.slots j).got.isSome
    let s := s.modEmc fun x => { x with slots := x.slots.map fun y => { y with got := none } }
    (foldS State.slotTide js s).slotRegs

/-- The exchange at tide cycle 0: STATE, the correction delivered, and the pulses requested for this tide (R510, R511,
R516, R529). -/
def State.emcEdge (s : State) : State :=
  let s := s.cond (s.emcRuns && s.role == 2) (fun s => s.setFld EMC_STAT 0 2 (if s.emc.poll then 2 else 1))
  let s := s.cond s.emc.clear (·.setRegN EMC_CRAW 0)
  let s := s.setRegN EMC_CRAW (ofSigned 24 (clampInt (-s.clampRaw) s.clampRaw (s.sfld EMC_CRAW 0 24)))
  let corr := roundDiv (s.sfld EMC_CRAW 0 24) 256
  let s := s.setRegN EMC_CORR (ofSigned 16 corr)
  let s := { s with slc := { s.slc with share := if s.on .emica then corr else 0 } }
  s.modEmc fun x =>
    { x with slots := x.slots.map fun y => { y with got := none }
             poll := false, sent := none, clear := false, due := x.want, want := 0, drove := 0, judged := false }

/-! ### Pulses (R510, R520, R523) -/

/-- The checks of a pulse command: the unit is the master, and what each asks for beside it; 0 ALIGN, 1 ARM,
2 CALFIRE. -/
def State.pulseCheck (s : State) (k : Nat) : Except Nat Unit := do
  needA s .emica
  need (s.role == 1) 203
  need (if k = 0 then s.fld CLK_SYNC_CTRL 0 3 == 3
        else if k = 1 then s.emcState == 2
        else s.emcState == 2 && !s.anyArmed) 203

/-- A pulse is requested: it comes in the first tide that begins at or after the command. -/
def State.pulseReq (s : State) (k : Nat) : State :=
  s.modEmc fun x => if s.tide.cycle = 0 then { x with due := x.due ||| BitVec.ofNat 3 (2 ^ k) }
    else { x with want := x.want ||| BitVec.ofNat 3 (2 ^ k) }

/-- The master drives a pulse that is due (R510, R520, R523). -/
def State.pulse (s : State) (k : Nat) : State :=
  if s.emcRuns && s.role == 1 && s.emc.due.getLsbD k then
    s.modEmc fun x => { x with due := x.due &&& ~~~ BitVec.ofNat 3 (2 ^ k), drove := x.drove ||| BitVec.ofNat 3 (2 ^ k) }
  else s

/-- A SHCLR: C_raw becomes 0 at the next boundary, or at this one (R516, R529). -/
def State.shClear (s : State) : State :=
  if s.tide.cycle = 0 then
    let s := (s.setRegN EMC_CRAW 0).setRegN EMC_CORR 0
    { s with slc := { s.slc with share := 0 } }
  else s.modEmc fun x => { x with clear := true }

/-- EARM is registered: each group of EMC_EARM is armed, or counted where its arm is refused (R520, R528). -/
def State.earm (s : State) : State :=
  if !s.on .emica then s
  else foldS (fun s g =>
    if s.cmd.abort.isSome then s.count EMC_ARMREJ 1
    else match s.armCheck g with
      | .ok _ => s.arm g
      | .error _ => s.count EMC_ARMREJ 1) (maskBits 8 (s.fld EMC_EARM 0 8)) s

/-- A received EFIRE edge (R521, R523): the Pilot lane times it, the Yard registers it, and an open calibration takes
it within tide cycles 50 to 52. -/
def State.efireRecv (s : State) (e : LaneEdge) : State :=
  if !s.on .emica then s
  else
    let s := s.raise 4
    let edge := (s.reg72 TIM_EDGE_Q0).toNat / 65536
    let cyc := ((e.count + 2 ^ 56 - edge % 2 ^ 56) % 2 ^ 56) / 5
    let stamps := s.on .tally && s.lhs == 3 && !s.calBusy 4
    let s :=
      if s.bit EMC_CFG 13 && stamps && 50 ≤ cyc && cyc ≤ 52 then
        let (m, _) := s.capture 4 e 0
        let cal := toSigned 72 (m.t.toNat + 2 ^ 72 - (edge * 65536 + 50 * 5 * 65536) % 2 ^ 72)
        (((s.setRegN EMC_CAL (ofSigned 32 cal)).setBit EMC_CFG 13 false).flag EMC_STAT 4).rigOfs
      else s
    s.timedEvent 19 0 e

/-- The Emica when EMICA enters ON (R526): status and events take their reset values. -/
def State.emicaOn (s : State) : State :=
  let s := s.modEmc fun _ => EmcSt.reset
  let s := foldS (fun s r => s.setRegN r 0)
    ([EMC_STAT, EMC_EVT, EMC_SLOTS, EMC_CORR, EMC_CRAW, EMC_PARERR, EMC_ARMREJ] ++
      (List.range 8).map EMC_VAL ++ (List.range 8).map EMC_ABS) s
  s.rigRestart

end Sys2Proof.Machine
end

