-- ==== Sys2Proof/Machine/Bell.lean ====
section
/-! DEFINITION. The Bell (R448 to R470): source levels, the pending set, delivery, claim and completion. -/

namespace Sys2Proof.Machine

def State.modBell (s : State) (f : BellSt → BellSt) : State := { s with bell := f s.bell }
def State.modTgt (s : State) (t : Nat) (f : BellTgt → BellTgt) : State :=
  s.modBell fun x => { x with tgts := vmod x.tgts t f }
def State.tgt (s : State) (t : Nat) : BellTgt := vget s.bell.tgts t

/-- Some bits of a register are set. -/
def State.anyBit (s : State) (off lo w : Nat) : Bool := s.fld off lo w != 0

/-- The level of source n (R449). -/
def State.level (s : State) : Nat → Bool
  | 0 => s.anyBit PRT_EVT 0 8
  | 1 => s.anyBit CLK_STAT 8 3
  | 2 => s.anyBit EMC_EVT 0 10
  | 3 => s.anyBit SLC_EVT 0 16
  | 4 => s.regN DCK_FAULT != 0
  | 5 => s.bit BEL_SYS_EVT 0
  | 6 => s.anyBit FRY_FAULT 0 8
  | 7 => (s.regN TIM_STAT &&& 0x364) != 0
  | 24 => s.anyBit ACQ_EVT 0 8
  | 25 => s.anyBit ACQ_EVT 8 8
  | 26 => s.anyBit ACQ_EVT 16 8
  | 27 => s.regN WHS_EVT != 0
  | 32 => (s.regN KNB_EVT &&& s.regN KNB_EVTEN) != 0
  | 33 => s.anyBit TRL_EVT 0 2
  | 34 => s.on .host && 1 ≤ s.cmd.mbox.outLines
  | 35 => s.anyBit BRT_MON_STAT 0 8
  | 36 => s.anyBit SYS_CONFLICT 0 2
  | 37 => s.anyBit FRY_FAULT 8 8
  | 38 => s.regN PWR_DONE != 0 || s.regN PWR_FAIL != 0
  | 39 => s.regN PMX_SWITCHED != 0
  | n =>
    if 8 ≤ n ∧ n < 16 then s.bit (FRY_R_EVT (n - 8)) 0
    else if 16 ≤ n ∧ n < 24 then s.bit BRT_OVR_STAT (n - 16)
    else if 28 ≤ n ∧ n < 32 then
      (s.regN (TLY_L_EVT (n - 28)) &&& s.regN (TLY_L_EVTEN (n - 28))) != 0 || (n == 28 && s.regN TLY_CAL_STAT != 0)
    else if 40 ≤ n ∧ n < 48 then s.bit YRD_BELL_STAT (n - 40)
    else false

/-- The sources that are high. -/
def State.levels (s : State) : List Nat := (List.range 48).filter s.level

/-- A source is enabled (R463). -/
def State.belEnabled (s : State) (n : Nat) : Bool := s.bit (BEL_EN (n / 32)) (n % 32)

/-- The target a source is in service to (R450). -/
def State.server (s : State) (n : Nat) : Option Nat := (List.range 4).find? fun t => (s.tgt t).serving == some n

/-- The sources that are high, enabled and in nobody's service: PENDING from the next edge (R450, R457). -/
def State.waiting (s : State) : List Nat := s.levels.filter fun n => s.belEnabled n && (s.server n).isNone

/-- The pending set P, highest priority first (R450, R451). -/
def State.pendSet (s : State) : List Nat := s.waiting.filter fun n => bits s.bell.pend n 1 == 1

/-- The sources a claim on this edge may take, highest priority first: a source newly pending on it is not seen, and one
disabled on it is (R466, R467). -/
def State.claimSet (s : State) : List Nat := s.levels.filter fun n => bits s.bell.olds n 1 == 1 && (s.server n).isNone

/-- D, the unclaimed deliveries (R453). -/
def State.deliveries (s : State) : Nat := ((List.range 4).filter fun t => (s.tgt t).delivered).length

/-- MSI-X messages can be delivered to (R452, R462). -/
def State.msiOk (s : State) : Bool := s.on .host && s.bell.msixEnable && s.bell.busMaster && s.bit FRY_LINK 10

/-- A target is eligible, and free (R452). -/
def State.eligible (s : State) (t : Nat) : Bool := s.bit (BEL_TGT t) 0 && (t < 2 || s.msiOk)
def State.free_ (s : State) (t : Nat) : Bool := !(s.tgt t).delivered && (s.tgt t).serving.isNone

/-- The coalescing condition (R454). -/
def State.met (s : State) (t : Nat) : Bool :=
  max 1 (s.fld (BEL_TGT t) 8 7) ≤ s.pendSet.length || s.fld (BEL_TGT t) 16 16 ≤ (s.tgt t).timer

/-- The timer of a target counts (R454). -/
def State.timed (s : State) (t : Nat) : Bool := s.eligible t && s.free_ t && s.deliveries < s.pendSet.length

/-- The target of the next edge's delivery, as this edge leaves the Bell (R453): one freed on this edge is passed over. -/
def State.nextDue (s : State) : Option Nat :=
  if s.pendSet.length ≤ s.deliveries then none
  else ((List.range 4).map fun k => (s.bell.last + 1 + k) % 4).find? fun t =>
    s.eligible t && s.free_ t && s.met t && bits s.bell.freed t 1 == 0

/-- The coalescing timers at tide cycle 0 (R454). -/
def State.bellTimers (s : State) : State :=
  foldS (fun s t => s.modTgt t fun x => { x with timer := if s.timed t then satAdd 65535 x.timer 1 else 0 }) (List.range 4) s

/-- A vector is masked (R455). -/
def State.masked (s : State) (v : Nat) : Bool := s.bit (MSIX_TABLE (4 * v + 3)) 0

/-- A message cannot go now for D3hot or a mask (R455, R461). -/
def State.blocked (s : State) (m : Msi) : Bool := s.masked m.vec || s.bit FRY_LINK 9

/-- Messages are withdrawn (R455). -/
def State.dropMsgs (s : State) (p : Msi → Bool) : State :=
  let gone := s.bell.msgs.filter p
  let s := s.modBell fun x => { x with msgs := x.msgs.filter fun m => !p m }
  gone.foldl (fun s m => s.setBit (MSIX_PBA (m.vec / 32)) (m.vec % 32) false) s

/-- A delivery is withdrawn (R462, R463). -/
def State.withdraw (s : State) (t : Nat) : State :=
  (s.modTgt t fun x => { x with delivered := false, named := none }).dropMsgs fun m => m.tgt == t

/-- A delivery counts as claimed (R456): an INT pin stays until the next edge, a message still held is withdrawn (R455), and
one on its way is not. -/
def State.claimed (s : State) (t : Nat) : State :=
  let pin := t < 2 && (s.tgt t).delivered
  let s := s.modTgt t fun x => { x with delivered := false, named := none }
  (s.modBell fun x => { x with ints := if pin then x.ints ||| 2 ^ t else x.ints }).dropMsgs fun m => m.tgt == t && s.blocked m

/-- Target t becomes free on this edge (R453). -/
def State.freeTgt (s : State) (t : Nat) : State := s.modBell fun x => { x with freed := x.freed ||| 2 ^ t }

/-- The source a message names (R455): the first of P that no unclaimed delivery names. -/
def State.toName (s : State) : Option Nat :=
  s.pendSet.find? fun n => (List.range 4).all fun u => (s.tgt u).named != some n

/-- VEC of the source named; with none left to name the spec gives no vector, and it is a free value (log 6). -/
def State.vecOf (s : State) : Option Nat → Nat × State
  | some n => (s.fld (BEL_VEC (n / 8)) (4 * (n % 8)) 3, s)
  | none => ((Config.freeWord s.free).toNat % 8, { s with free := s.free + 1 })

/-- The delivery of this edge, where one is due and its target can still take it (R453, R455). -/
def State.deliver (s : State) : State :=
  match s.bell.due with
  | none => s
  | some t =>
    if !s.eligible t || !s.free_ t then s
    else
      let src := s.toName
      let s := s.modBell fun x => { x with last := t, due := none }
      if t < 2 then s.modTgt t fun x => { x with delivered := true, timer := 0 }
      else
        let s := s.modTgt t fun x => { x with delivered := true, named := src, timer := 0 }
        let r := s.vecOf src
        let vec := 8 * (t - 2) + r.1
        let s := r.2.modBell fun x => { x with msgs := x.msgs ++ [⟨t, vec⟩] }
        s.cond (s.masked vec) (·.setBit (MSIX_PBA (vec / 32)) (vec % 32) true)

/-- A message is sent; a link in L1 leaves it (R455, R461). -/
def State.msiGo (s : State) (m : Msi) : State :=
  let s := s.modBell fun x =>
    { x with msgs := x.msgs.erase m, sentVec := some m.vec, sentN := x.sentN + 1 }
  (s.setBit (MSIX_PBA (m.vec / 32)) (m.vec % 32) (s.bell.msgs.any (·.vec == m.vec))).wake

/-- The oldest message that can be sent is sent (R455). -/
def State.msiSend (s : State) : State :=
  match s.bell.msgs.find? fun m => !s.blocked m with
  | some m => s.cond s.msiOk (·.msiGo m)
  | none => s

/-- A vector is unmasked: its held message goes (R455). -/
def State.msiUnmask (s : State) (v : Nat) : State :=
  let s := s.setBit (MSIX_TABLE (4 * v + 3)) 0 false
  match s.bell.msgs.find? fun m => m.vec == v && !s.blocked m with
  | some m => s.cond s.msiOk (·.msiGo m)
  | none => s

/-- A claim by target t (R456, R466): the claim word. -/
def State.claim (s : State) (t : Nat) : Word × State :=
  match (s.tgt t).serving with
  | some n => (BitVec.ofNat 32 n, s)
  | none =>
    let p := s.claimSet
    let had := (s.tgt t).delivered
    let s := s.claimed t
    match p with
    | [] => (0, s.cond had (·.freeTgt t))
    | n :: _ => (BitVec.ofNat 32 (n + 2 ^ 31), s.modTgt t fun x => { x with serving := some n })

/-- A completion of source n by target t (R457, R459). -/
def State.complete (s : State) (t n : Nat) : State :=
  if (s.tgt t).serving == some n then (s.modTgt t fun x => { x with serving := none }).freeTgt t
  else s.countFld BEL_BAD_COMPLETE 0 16 1

/-- BEL_TSTAT_t (R464). -/
def State.tstat (s : State) (t : Nat) : Nat :=
  let x := s.tgt t
  let st := if x.serving.isSome then 3 else if x.delivered then 2 else if s.timed t && !s.met t then 1 else 0
  st + b2n (s.bell.msgs.any fun m => m.tgt == t && s.blocked m) * 4 + (x.serving.getD 0) * 2 ^ 8 + x.timer * 2 ^ 16

/-- INT t is asserted, low before INV, until the edge after its claim (R455, R456). -/
def State.intLow (s : State) (t : Nat) : Bool := (s.tgt t).delivered || bits s.bell.ints t 1 == 1

/-- The Bell follows its targets (R462, R463): those no longer eligible lose their deliveries, an MSI-X one its service too. -/
def State.bellSettle (s : State) : State :=
  foldS (fun s t =>
    let s := s.cond (!s.eligible t && (s.tgt t).delivered) (·.withdraw t)
    s.cond (2 ≤ t && !s.msiOk) fun s => (s.modTgt t fun x => { x with serving := none }).dropMsgs fun m => m.tgt == t)
    (List.range 4) s

/-- The Bell as an edge leaves it for the next one (R448, R450, R453, R454, R466): levels are sampled, what waits is PENDING on
the next edge, its delivery is decided, a claimed INT pin is released, and a timer whose condition fails is 0. -/
def State.bellNext (s : State) : BellSt :=
  { s.bell with
    seen := maskOf s.levels, pend := maskOf s.waiting, olds := maskOf s.pendSet, due := s.nextDue, freed := 0, ints := 0
    tgts := .ofFn fun t => let x := s.tgt t; if s.timed t then x else { x with timer := 0 } }

/-- An edge ends for the Bell: a source in service that has risen on it counts as lost (R458, R467). -/
def State.bellEdge (s : State) : State :=
  let rises := s.levels.filter fun n => bits s.bell.seen n 1 == 0 && (s.server n).isSome
  { s.cond (!rises.isEmpty) (·.count BEL_LOST rises.length) with bell := s.bellNext }

/-- Nothing is due for the Bell but what stands. -/
def State.bellQuiet (s : State) : Bool := s.bellNext == s.bell

/-- RCLK returns: P is formed afresh from the levels (R469). -/
def State.bellBack (s : State) : State := s.modBell fun x => { x with pend := 0, olds := 0, due := none, freed := 0, ints := 0 }

end Sys2Proof.Machine
end

