-- ==== Sys2Proof/Machine/Tralor.lean ====
section
/-! DEFINITION. The Tralor store (R535 to R553): its array, records and copies, and save, recall and verify. -/

namespace Sys2Proof.Machine

def State.modStore (s : State) (f : StoreSt → StoreSt) : State := { s with store := f s.store }

/-! ### Records (R536 to R539) -/

/-- Where copy A of a record begins, and the distance to copy B (R536). -/
def copyAt (rec : Nat) (copyB : Bool) : Nat :=
  let b := b2n copyB
  match rec with
  | 0 => 0x0000 + 0x40 * b
  | 1 => 0x0080 + 0x20 * b
  | 2 => 0x00C0 + 0x20 * b
  | 3 => 0x0100 + 0x250 * b
  | 4 => 0x05A0 + 0x610 * b
  | 5 => 0x11C0 + 0x1010 * b
  | n => 0x3200 + 0xC00 * (n - 6) + 0x600 * b

/-- The payload length of a record other than a setup (R536). -/
def payloadLen (rec : Nat) : Nat :=
  match rec with
  | 0 => 8 | 1 => 16 | 2 => 18 | 3 => 577 | 4 => 1536 | 5 => 4096 | _ => 0

/-- The four bytes of a word, bits [7:0] first. -/
def wordBytes (w : Nat) : List Nat := (List.range 4).map fun i => bits w (8 * i) 8

/-- A header and its payload as one copy: word 3 holds the CRC of the others (R537). -/
def copyWords (rec gen tide : Nat) (payload : List Nat) : List Nat :=
  let w0 := rec + 2 ^ 8 + payload.length * 2 ^ 16
  let crc := crc32c (([w0, gen, tide] ++ payload).flatMap wordBytes)
  [w0, gen, tide, crc] ++ payload

/-- The IDENT payload as manufactured (R538); the serial number and the date code differ from part to part and are
free (log 6). -/
def identPayload : List Nat :=
  [resetNat SYS_ID, resetNat SYS_STEP, (Config.freeWord 0).toNat, (Config.freeWord 1).toNat,
    (Config.freeWord 2).toNat &&& 0xFFFF00FF, 0, 0, 0]

/-- What a word of the array holds that nothing has written: the IDENT copies as manufactured, and elsewhere 0, so
that every other record is empty as shipped (R538). -/
def storeDefault (a : Nat) : Word :=
  if a % 0x40 < 12 ∧ a < 0x80 then
    BitVec.ofNat 32 ((copyWords 0 (Config.freeWord 3).toNat (Config.freeWord 4).toNat identPayload).getD (a % 0x40) 0)
  else 0

/-- A word of the array; the reserved ones read zero (R535, R536). -/
def State.storeWord (s : State) (a : Nat) : Word := smGet storeDefault s.store.words (a % 65536)

/-- Write words of the array from an address on. -/
def State.storePut (s : State) : Nat → List Word → State
  | _, [] => s
  | a, w :: t => (s.modStore fun x => { x with words := smSet storeDefault x.words (a % 65536) w }).storePut (a + 1) t

/-- The words of a copy as its header tells them: 4 + LEN. -/
def State.copyOf (s : State) (rec : Nat) (copyB : Bool) : List Nat :=
  let a := copyAt rec copyB
  (List.range (4 + bits (s.storeWord a).toNat 16 16)).map fun i => (s.storeWord (a + i)).toNat

/-- A copy is empty, and valid (R537). -/
def State.copyEmpty (s : State) (rec : Nat) (copyB : Bool) : Bool := s.storeWord (copyAt rec copyB) == 0
def State.copyValid (s : State) (rec : Nat) (copyB : Bool) : Bool :=
  let w0 := (s.storeWord (copyAt rec copyB)).toNat
  let len := bits w0 16 16
  w0 != 0 && bits w0 0 8 == rec && bits w0 8 8 == 1 &&
  (if rec < 6 then len == payloadLen rec else len % 2 == 0 && len ≤ 1532) &&
  (let c := s.copyOf rec copyB
   crc32c ((c.take 3 ++ c.drop 4).flatMap wordBytes) == c.getD 3 0)

/-- GEN of a copy. -/
def State.copyGen (s : State) (rec : Nat) (copyB : Bool) : Nat := (s.storeWord (copyAt rec copyB + 1)).toNat

/-- Copy B is newer than copy A (R537). -/
def State.newerB (s : State) (rec : Nat) : Bool :=
  let d := (s.copyGen rec true + 2 ^ 32 - s.copyGen rec false) % 2 ^ 32
  1 ≤ d && d < 2 ^ 31

/-- The valid copy a record is used from: the newer of two (R537, R543). -/
def State.useCopy (s : State) (rec : Nat) : Option Bool :=
  match s.copyValid rec false, s.copyValid rec true with
  | true, true => some (s.newerB rec)
  | true, false => some false
  | false, true => some true
  | false, false => none

/-- The setup set of R539: every TA register but those of PWR, CMD, FRY and TRL, SLC_L_MODE, the banks and SLC_LIST. -/
def inSetup (off : Nat) : Bool :=
  !(0x2000 ≤ off && off < 0x4000) && !(0x22000 ≤ off && off < 0x28000) && !(0x2A000 ≤ off && off < 0x2C000) &&
  !(0x14100 ≤ off && off < 0x14500 && (off - 0x14100) % 128 == 4) && !(0x14800 ≤ off && off < 0x1C000)

/-- Every assigned offset of a row. -/
def RegRow.offs (r : RegRow) : List Nat := (List.range r.count).map fun i => r.base + r.stride * i

/-- Insertion of an offset into a rising list. -/
def insertOff (a : Nat) : List Nat → List Nat
  | [] => [a]
  | b :: t => if a ≤ b then a :: b :: t else b :: insertOff a t

/-- The setup registers in ascending offset order (R539). -/
def setupSet : List Nat :=
  let rows := (sysRows ++ clkRows ++ brtRows ++ pltRows ++ acqRows ++ whsRows ++ dckRows ++ tlyRows ++ slcRows ++ slpRows ++
    belRows ++ emcRows ++ yrdRows).filter fun r => r.ta != 0 && inSetup r.base
  ((rows.flatMap RegRow.offs).filter inSetup).foldr insertOff []

/-- The payload of a record as the fields stand (R538). -/
def State.payload (s : State) (rec : Nat) : List Nat :=
  match rec with
  | 0 => identPayload
  | 1 => ((List.range 8).map fun b => s.fld (BRT_OFS b) 0 16 + s.fld (BRT_GAIN b) 0 16 * 2 ^ 16) ++
      (List.range 8).map fun b => s.fld (BRT_TRIM b) 0 16
  | 2 => ((List.range 8).map fun n => s.fld (PLT_CMP_DLY n) 0 20) ++
      ((List.range 2).map fun j => s.fld (PLT_TRIGIN_DLY j) 0 20) ++ (List.range 8).map fun n => s.regN (TRL_CMPTRIM n)
  | 3 => (s.fld TLY_STAT 0 6) :: (List.range 6).flatMap fun l =>
      if s.bit TLY_STAT l then
        (List.range 96).map fun i => tblGet (s.lane l).table (2 * i) + tblGet (s.lane l).table (2 * i + 1) * 2 ^ 16
      else List.replicate 96 0
  | 4 => (List.range 8).flatMap fun n => (List.range 192).map fun j => if j = 31 then 0 else s.bankW n (4 * j)
  | 5 => (List.range 4096).map fun i => s.regN (SLC_LIST i)
  | _ => setupSet.flatMap fun o => [o, s.regN o]

/-! ### Operations (R541 to R548) -/

/-- OP of TRL_STAT: 1 save, 2 recall, 3 verify. -/
def opSave : Nat := 1
def opRecall : Nat := 2
def opVerify : Nat := 3

/-- An operation is accepted: TRL_STAT shows it. -/
def State.opBegin (s : State) (op rec : Nat) : State :=
  let s := ((s.setBit TRL_STAT 0 true).setFld TRL_STAT 1 2 op).setFld TRL_STAT 4 5 rec
  s.setFld TRL_STAT 9 3 0

/-- An operation ends with DONE, or with FAIL (R548). -/
def State.opEnd (s : State) (ok : Bool) : State :=
  let s := (s.modStore fun x => { x with op := .idle, endAt := some s.tide.tb }).setFld TRL_STAT 0 3 0
  (s.flag TRL_EVT (b2n (!ok))).notify .store 4 [if ok then .word "DONE" else .dec 403]

/-- The staging buffer is taken: a staged setup is lost (R546). -/
def State.bufTake (s : State) (ws : List Word) : State :=
  (s.modStore fun x => { x with buf := ws }).setBit TRL_STAT 12 false

/-- The domains a recall needs (R547). -/
def recallDoms (rec : Nat) : List Dom :=
  match rec with
  | 1 => [.berth01, .berth23, .berth45, .berth67]
  | 2 => [.ctrl] | 3 => [.tally] | 4 => [.ctrl] | 5 => [.ctrl] | _ => []

/-- The lanes the TALLY record a recall would use holds (R538). -/
def State.recordLanes (s : State) : List Nat :=
  match s.useCopy 3 with
  | some c => maskBits 6 (s.storeWord (copyAt 3 c + 4)).toNat
  | none => []

/-- No operation runs, nor has one ended on this edge (R551). -/
def State.storeFree (s : State) : Bool := s.store.op == .idle && s.store.endAt != some s.tide.tb

/-- The checks of an operation of the store (R547), in the order of R89. -/
def State.storeCheck (s : State) (op rec : Nat) : Except Nat Unit := do
  if op = opRecall then needDoms s (recallDoms rec) else .ok ()
  need (!(op == opRecall && s.bit TRL_BAD rec)) 403
  need (s.storeFree && !(op == opSave && rec == 0) &&
    !(op == opRecall && rec == 4 && (List.range 8).any fun n => (s.loop n).swap)) 203
  need (!(op == opRecall && rec == 3 && s.recordLanes.any fun l => s.calBusy l)) 303

/-- A save is accepted (R541): its snapshot is due at the boundary. -/
def State.saveStart (s : State) (rec : Nat) : State := (s.opBegin opSave rec).modStore fun x => { x with op := .saveWait rec }

/-- A recall is accepted (R543). -/
def State.recallStart (s : State) (rec : Nat) (trim : Bool) : State :=
  ((s.opBegin opRecall rec).bufTake []).modStore fun x => { x with op := .reading rec trim }

/-- A verify is accepted (R545): of one record, or of all. It leaves the staging buffer alone. -/
def State.verifyStart (s : State) (rec : Option Nat) : State :=
  (s.opBegin opVerify (rec.getD 0)).modStore fun x => { x with op := .verifying rec }

/-- A waiting save takes its snapshot at tide cycle 0, after every change of the boundary (R541, R551): the first copy
written is one that is not the newer valid one. -/
def State.saveSnap (s : State) : State :=
  match s.store.op with
  | .saveWait rec =>
    if s.tide.cycle != 0 then s
    else
      let use := s.useCopy rec
      let gen := match use with
        | some c => (s.copyGen rec c + 1) % 2 ^ 32
        | none => 1
      let ws := copyWords rec gen (s.tide.number.toNat % 2 ^ 32) (s.payload rec)
      let s := s.bufTake (ws.map (BitVec.ofNat 32))
      s.modStore fun x => { x with op := .saving rec (use == some false) false false }
  | _ => s

/-- The words a copy is left with where its write failed or was cut: free ones (log 6). -/
def State.freeWords (s : State) (n : Nat) : List Word × State :=
  ((List.range n).map fun i => Config.freeWord (s.free + i), { s with free := s.free + n })

/-- A copy has been written and read back (R541): whether the read-back found it good. TRL_GEN is the GEN of the copy last written
(R549). -/
def State.copyDone (s : State) (good : Bool) : State :=
  match s.store.op with
  | .saving rec copyB second retry =>
    if good then
      let s := (s.storePut (copyAt rec copyB) s.store.buf).setReg TRL_GEN (s.store.buf.getD 1 0)
      if second then (s.setBit TRL_BAD rec false).opEnd true
      else s.modStore fun x => { x with op := .saving rec (!copyB) true false }
    else
      let (ws, s) := s.freeWords s.store.buf.length
      let s := s.storePut (copyAt rec copyB) ws
      if retry then (s.setBit TRL_BAD rec true).opEnd false
      else s.modStore fun x => { x with op := .saving rec copyB second true }
  | _ => s

/-- A save in progress is cut by a reset (R542): the copy being written keeps its old words from a free place on. -/
def State.saveCut (s : State) : State :=
  match s.store.op with
  | .saving rec copyB _ _ =>
    let n := (Config.freeInt s.free).natAbs % (s.store.buf.length + 1)
    { (s.storePut (copyAt rec copyB) (s.store.buf.take n)) with free := s.free + 1 }
  | _ => s

/-- Both copies have been read and judged (R543): ONECOPY, EMPTY, BAD; the copy in use, if any. -/
def State.judge (s : State) (rec : Nat) : Option Bool × State :=
  let s1 := s.cond (s.copyValid rec false != s.copyValid rec true) (·.flag TRL_STAT 9)
  match s.useCopy rec with
  | some c => (some c, s1)
  | none =>
    if s.copyEmpty rec false && s.copyEmpty rec true then (none, s1.flag TRL_STAT 10) else (none, s1.setBit TRL_BAD rec true)

/-- A recall has read (R543): IDENT loads its registers, a setup is staged, any other record waits for its boundary. -/
def State.recallRead (s : State) : State :=
  match s.store.op with
  | .reading rec trim =>
    match s.judge rec with
    | (none, s) => s.opEnd false
    | (some c, s) =>
      let ws := s.copyOf rec c
      let s := s.setRegN TRL_GEN (s.copyGen rec c)
      let s := s.modStore fun x => { x with buf := ws.map (BitVec.ofNat 32) }
      if rec = 0 then (foldS (fun s i => s.setRegN (TRL_IDENT i) (ws.getD (4 + i) 0)) (List.range 8) s).opEnd true
      else if 6 ≤ rec then (((s.setBit TRL_STAT 12 true).setFld TRL_STAT 16 4 (rec - 6))).opEnd true
      else s.modStore fun x => { x with op := .applyWait rec trim }
  | _ => s

/-- A verify ends (R545). -/
def State.verifyDone (s : State) : State :=
  match s.store.op with
  | .verifying rec =>
    let s := foldS (fun s r =>
      match s.judge r with
      | (some _, s) => s.setBit TRL_BAD r false
      | (none, s) => s) (match rec with
        | some r => [r]
        | none => List.range 22) s
    s.opEnd true
  | _ => s

/-- A part of a recall is skipped (R544). -/
def State.skipPart (s : State) : State := (s.count TRL_SKIP 1).flag TRL_STAT 11

/-- The words of the staging buffer behind the header, as numbers. -/
def State.bufWord (s : State) (i : Nat) : Nat := (s.store.buf.getD (4 + i) 0).toNat

/-- Apply the part numbered k of a record (R544): per Berth, per lane, per loop, or as a whole. -/
def State.applyPart (s : State) (rec : Nat) (trim : Bool) (k : Nat) : State :=
  match rec with
  | 1 =>
    if !s.on (berthDom k) then s.skipPart
    else
      let w := s.bufWord k
      let s := (s.setFld (BRT_OFS k) 0 16 w).setFld (BRT_GAIN k) 0 16 (w / 2 ^ 16)
      if trim || !s.bit BRT_CAL_CTRL 0 then
        (s.setFld (BRT_TRIM k) 0 16 (s.bufWord (8 + k))).modBrt fun x => { x with skewPend := .replicate 8 none }
      else s
  | 2 =>
    if !s.on .ctrl then s.skipPart
    else
      let s := foldS (fun s n => (s.setFld (PLT_CMP_DLY n) 0 20 (s.bufWord n)).setFld (TRL_CMPTRIM n) 0 16 (s.bufWord (10 + n)))
        (List.range 8) s
      foldS (fun s j => s.setFld (PLT_TRIGIN_DLY j) 0 20 (s.bufWord (8 + j))) (List.range 2) s
  | 3 =>
    if bits (s.bufWord 0) k 1 = 0 then s
    else if !s.on .tally || s.calBusy k then s.skipPart
    else
      let ws := (List.range 96).flatMap fun i =>
        let w := s.bufWord (1 + 96 * k + i)
        [w % 2 ^ 16, w / 2 ^ 16]
      if (s.lane k).swap == some true then s.loadLost k else (s.modLane k fun x => { x with spare := tblOf ws }).tblLoad k
  | 4 =>
    if !s.on .ctrl || (s.loop k).swap then s.skipPart
    else foldS (fun s j => if j = 31 then s else s.bankSet k (4 * j) (bankCoerce (4 * j) (s.bufWord (192 * k + j)))) (List.range 192) s
  | _ =>
    if !s.on .ctrl then s.skipPart
    else foldS (fun s i => s.setRegN (SLC_LIST i) (s.bufWord i)) (List.range 4096) s

/-- The parts of a record. -/
def partsOf (rec : Nat) : Nat :=
  match rec with
  | 1 => 8 | 3 => 6 | 4 => 8 | _ => 1

/-- A recalled record is applied at the boundary, as one change (R44, R544). -/
def State.recallApply (s : State) : State :=
  match s.store.op with
  | .applyWait rec trim => ((foldS (fun s k => s.applyPart rec trim k) (List.range (partsOf rec)) s).bumpEpoch).opEnd true
  | _ => s

/-- A read of TRL_RAW_DATA (R549). -/
def State.rawRead (s : State) : Word × State :=
  let a := s.fld TRL_RAW_ADDR 0 16
  (s.storeWord a, s.setRegN TRL_RAW_ADDR ((a + 1) % 65536))

/-- The writes a staged setup holds, in ascending offset order (R546). -/
def State.setupWrites (s : State) : List (Nat × Word) :=
  (List.range ((s.store.buf.length - 4) / 2)).map fun m => (s.bufWord (2 * m), BitVec.ofNat 32 (s.bufWord (2 * m + 1)))

end Sys2Proof.Machine
end

