-- ==== Sys2Proof/Machine/Clock.lean ====
section
/-! DEFINITION. Clock synthesis (R140 to R171): lock, loss and resume of the Lighthouses, Capstan, SYNCIN, the reference
monitor, and what each does to the blocks. -/

namespace Sys2Proof.Machine

def State.modClk (s : State) (f : ClkSt → ClkSt) : State := { s with clk := f s.clk }

/-- A Lighthouse beside its registers, and its registers. -/
def State.synth (s : State) : Synth → SynthSt
  | .lha => s.clk.lha
  | .lhs => s.clk.lhs
def State.setSynth (s : State) (h : Synth) (x : SynthSt) : State :=
  s.modClk fun c => match h with
    | .lha => { c with lha := x }
    | .lhs => { c with lhs := x }
def synthStat : Synth → Nat
  | .lha => CLK_LHA_STAT
  | .lhs => CLK_LHS_STAT
def synthCfg : Synth → Nat
  | .lha => CLK_LHA_CFG
  | .lhs => CLK_LHS_CFG
def synthCount : Synth → Nat
  | .lha => CLK_LHA_COUNT
  | .lhs => CLK_LHS_COUNT
def synthDom : Synth → Dom
  | .lha => .lha
  | .lhs => .lhs

/-- The state of a Lighthouse (R160), and an update of it. -/
def State.synthState (s : State) (h : Synth) : Nat := s.fld (synthStat h) 0 3
def State.setSynthState (s : State) (h : Synth) (v : Nat) : State := s.setFld (synthStat h) 0 3 v

/-- The divider code of R144 and R160 for the FCW in force: 0 is 8, 1 is 12, 2 is 16. -/
def State.divCode (s : State) : Nat :=
  if 8 * s.fcw ≤ 25 * 2 ^ 44 then 2 else if 6 * s.fcw ≤ 25 * 2 ^ 44 then 1 else 0

/-- The FCW a counter window is judged by (R148): 5 × 2^44 for Lighthouse-S. -/
def State.synthFcw (s : State) : Synth → Nat
  | .lha => s.fcw
  | .lhs => 5 * 2 ^ 44

/-- A window is in range (R148). -/
def State.inRange (s : State) (h : Synth) (count : Nat) : Bool :=
  let win := max 1 (s.fld (synthCfg h) 8 8)
  ((count : Int) * 2 ^ 28 - s.synthFcw h).natAbs ≤ win * 2 ^ 28

/-- A Lighthouse begins to acquire (R148). -/
def State.acquire (s : State) (h : Synth) : State := (s.setSynth h SynthSt.reset).setSynthState h 1

/-- What the gating of ACLK does (R168, R181): channels stop, groups end, the Pilot accepts nothing. -/
def State.aclkGate (s : State) : State := (s.chansSettle.endGroups endClock).engsSettle

/-- The BAR2 bursts that wait for a slot of channel n are dropped; a write among them is counted (R169, R347). -/
def State.bar2Drop (s : State) (n : Nat) : State :=
  let lost := (vget s.dock n).queue.filter fun b => match b.op with
    | .put _ _ => true
    | _ => false
  lost.foldl (fun s _ => s.ignore) (s.dockDrop n fun b => b.client == 21)

/-- BAR2 reads in progress complete with Completer Abort status, BAR2 writes are dropped, and so is the write latch (R169). -/
def State.bar2Cut (s : State) : State :=
  let s := (s.bar2Drop 0).bar2Drop 1
  let s := s.fry.reads.foldl (fun s r => s.bar2Abort r.id) s
  if s.fry.latch.isSome then s.latchDrop else s

/-- The Dock enters self-refresh as Lighthouse-S gates (R169, R348): queued capture bursts are discarded, the work of the Ferry and
the Warehouse waits, and SELFREF shows it. -/
def State.dockHold (s : State) : State :=
  let any := s.dckState 0 == 3 || s.dckState 1 == 3
  let s := foldS (fun s n => s.cond (s.dckState n == 3) fun s => (s.dockCut n 1).selfRefresh n true) [0, 1] s
  (s.cond any (·.setBit CLK_LHS_STAT 3 true)).bar2Cut

/-- What stops with SCLK and TCLK (R169): capture, the Warehouse, the Tally lanes, calibration, and skew. -/
def State.sclkStop (s : State) : State :=
  let s := (s.endGroups endClock).endWarehouse 3
  ((s.tlyEndAll tlyClock).calAbandon true).knobStop.chansSettle.engsSettle

/-- The time base falls back to RCLK after a loss (R66). -/
def State.timeDegraded (s : State) : State := ((s.setBit TIM_STAT 3 false).setBit TIM_STAT 1 true).flag TIM_STAT 2

/-- A loss of lock from RUNNING, or of Lighthouse-A from SYNCING (R150, R168, R169). -/
def State.lockLoss (s : State) (h : Synth) : State :=
  let s := s.acquire h
  match h with
  | .lha =>
    let s := (s.flag CLK_STAT 8).countFld CLK_UNLOCK_CNT 0 16 1
    (s.notify .clock 1 [.word "LHA"] 1).aclkGate
  | .lhs =>
    let s := (s.flag CLK_STAT 9).countFld CLK_UNLOCK_CNT 16 16 1
    ((s.notify .clock 1 [.word "LHS"]).timeDegraded.dockHold).sclkStop

/-- Lock is withdrawn without a loss (R150). -/
def State.lockWithdraw (s : State) (h : Synth) : State :=
  (s.setSynth h { s.synth h with wins := 0, resume := false }).setSynthState h 1

/-- Pull-in completes and counter windows start (R148). -/
def State.pullIn (s : State) (h : Synth) : State :=
  if s.synthState h == 1 then s.setSynth h { s.synth h with pulled := true, wins := 0 } else s

/-- A counter window ends (R148, R150). -/
def State.windowEnd (s : State) (h : Synth) (count : Nat) : State :=
  let st := s.synthState h
  if !(s.synth h).pulled || st = 0 then s
  else
    let ok := s.inRange h count
    let s := s.setRegN (synthCount h) (count % 2 ^ 20)
    if st = 1 then
      if !ok then s.setSynth h { s.synth h with wins := 0 }
      else if (s.synth h).wins = 0 then s.setSynth h { s.synth h with wins := 1 }
      else (s.setSynth h { s.synth h with wins := 0, resume := false, lockAt := s.tide.tb }).setSynthState h 2
    else if ok then s
    else if st = 2 then s.lockWithdraw h
    else s.lockLoss h

/-- The phase monitor finds the error over PH_LIM on 3 periods (R150): it does not act while SYNCING. -/
def State.phaseLoss (s : State) (h : Synth) : State :=
  match s.synthState h with
  | 2 => s.lockWithdraw h
  | 3 => s.lockLoss h
  | _ => s

/-- A RESUME taken while LOCKED (R149). -/
def State.resumeReq (s : State) (h : Synth) : State := s.setSynth h { s.synth h with resume := true, resumeAt := s.tide.tb }

/-- A LOCKED Lighthouse resumes on this tide edge: it lies after the declaration of lock with AUTO_RESUME, or after a RESUME
(R149). -/
def State.resumeDue (s : State) (h : Synth) : Bool :=
  let x := s.synth h
  s.synthState h == 2 && ((s.bit (synthCfg h) 24 && x.lockAt != s.tide.tb) || (x.resume && x.resumeAt != s.tide.tb))

/-- A Lighthouse delivers its outputs (R50, R149, R200). -/
def State.clockRun (s : State) (h : Synth) : State :=
  let s := (s.setSynth h { s.synth h with resume := false }).setSynthState h 3
  match h with
  | .lha => (s.setBit CLK_LHA_STAT 3 false).aclkFree.chansSettle
  | .lhs => ((s.setBit TIM_STAT 3 true).setBit TIM_STAT 1 false).knobResume.chansSettle.abortResume.endsForm.kickAll

/-- A LOCKED Lighthouse resumes at a tide edge, where it may (R149). -/
def State.resumeEdge (s : State) (h : Synth) : State :=
  if s.resumeDue h then s.clockRun h else s

/-- The first 64 reference periods of a SYNCING Lighthouse-A have passed: they are one RCLK cycle each (R7, R156). -/
def State.syncDue (s : State) : Bool := s.lha == 4 && 320 ≤ (s.tide.tb - s.clk.lha.lockAt).toNat

/-- A SYNCING Lighthouse-A resumes on the grid of its realignment (R156). -/
def State.syncResume (s : State) : State :=
  if s.syncDue then ((s.setSynthState .lha 3).aclkSync s.clk.lha.lockAt).chansSettle else s

/-- Commands that need ACLK, and SCLK or TCLK (R89). -/
def State.busyForClock (s : State) : Bool := s.anyCapture || s.anyAuto

/-- What a commit of a new FCW does, from the one in force before (R158, R163); one equal to it does nothing. -/
def State.fcwEffect (s : State) (old : Nat) : State :=
  if s.fcw = old then s
  else
    let s := s.modClk fun c => { c with fcwNow := true }
    if s.dom .lha ≠ 2 then s else ((s.acquire .lha).setBit CLK_LHA_STAT 3 true).aclkGate

/-! ### Capstan (R152 to R154) -/

/-- The Capstan as CTRL leaves ON (R181): LOCK and DLL_READY read 0, without SOFT. -/
def State.capStop (s : State) : State := ((s.setBit CLK_CAP_STAT 0 false).setBit CLK_CAP_STAT 1 false).capPark

/-- The delay line locks; CAP_LOCKF rises; it falls; a hard fault (R152 to R154). -/
def State.dllLocked (s : State) : State := if s.on .ctrl then s.setBit CLK_CAP_STAT 1 true else s
def State.capLock (s : State) : State := if s.on .ctrl then s.setBit CLK_CAP_STAT 0 true else s
def State.capUnlock (s : State) : State :=
  if s.on .ctrl && s.bit CLK_CAP_STAT 0 then (((s.setBit CLK_CAP_STAT 0 false).flag CLK_CAP_STAT 9).capPark).capTrip else s
def State.capHard (s : State) : State :=
  if s.on .ctrl then (((s.setBit CLK_CAP_STAT 1 false).flag CLK_CAP_STAT 8).capPark).capTrip else s

/-! ### SYNCIN (R155 to R157) -/

/-- TARGET of CLK_SYNC_CTRL: 0 TIDE, 1 LHS, 2 LHA, 3 CAP. -/
def State.syncTarget (s : State) (k : Nat) : Bool := s.bit CLK_SYNC_CTRL (4 + k)

/-- An edge of ESYNC or of the ball is registered at S (R155, R157). DESIGN CHOICE (log 73): a second edge between S and E is not
taken and not counted, though CONT is 1, and a change of ARM or TARGET between S and E leaves E to act by the register as it
then stands. -/
def State.syncEdge (s : State) (esync falling : Bool) : State :=
  let srcUp := !esync || s.on .emica
  if !srcUp || !s.bit CLK_SYNC_CTRL 0 || s.bit CLK_SYNC_CTRL 1 != esync || s.bit CLK_SYNC_CTRL 2 != falling ||
    s.clk.edge.isSome then s
  else if (s.syncTarget 1 && s.lhs != 3) || (s.syncTarget 2 && s.lha != 3) then s.count CLK_SYNC_SKIP 1
  else s.modClk fun c => { c with edge := some (s.tide.tb + 40) }

/-- The actions at E beside the tide's (R155, R156, R167). DESIGN CHOICE (log 73): where Lighthouse-A, RUNNING at S, is not so
at E, its target alone is left out and counted in CLK_SYNC_SKIP, as R167 has it for a retune. -/
def State.syncActs (s : State) : State :=
  let ctrl := s.regN CLK_SYNC_CTRL
  let s := s.modClk fun c => { c with edge := none }
  let s := (s.setReg72 CLK_SYNC_TS_Q0 s.now).flag CLK_SYNC_STAT 1
  let s := s.cond (bits ctrl 3 1 == 0) (·.setBit CLK_SYNC_CTRL 0 false)
  let s := s.rigOfs
  let s :=
    if bits ctrl 6 1 = 0 then s
    else if s.lha != 3 || (s.clk.fcwNow && s.tide.cycle == 0) then s.count CLK_SYNC_SKIP 1
    else ((s.setSynth .lha { s.clk.lha with lockAt := s.tide.tb }).setSynthState .lha 4).aclkGate
  if bits ctrl 7 1 = 0 then s else foldS (fun s p => s.cond (s.portMode p == 2) (·.pwmRestart true p)) (List.range 8) s

/-! ### The reference (R142, R165, R170) -/

/-- REFIN is declared absent (R158, R160, R170): RCLK stops, the Lighthouses gate, the Dock self-refreshes, Capstan reads out of
lock with SOFT set, and RETUNE stands until Lighthouse-A resumes. -/
def State.refAbsent (s : State) : State :=
  let s := s.cond (s.lha != 0) (·.acquire .lha)
  let s := s.cond (s.lhs != 0) fun s => (s.acquire .lhs).dockHold
  let s := s.setBit TIM_STAT 3 false
  let s := (((s.setBit CLK_CAP_STAT 0 false).setBit CLK_CAP_STAT 1 false).flag CLK_CAP_STAT 9).capPark
  { s with tide := { s.tide with rclk := false } }

/-- What the return of REFIN flags (R142, R165): RCLK runs, REF_LOST of CLK_STAT and the time-of-day flag are set. -/
def State.refBack (s : State) : State :=
  ({ s.bellBack with tide := { s.tide with rclk := true } } : State).flag CLK_STAT 10 |>.flag TIM_STAT 9

/-- What the return of REFIN closes and releases (R66, R165, R169): time degrades, !CLOCK is raised, groups end, the Lighthouses
and the channels settle, and the trips that waited latch. -/
def State.refCloses (s : State) : State :=
  let s := s.timeDegraded.notify .clock 1 [.word "REF"]
  let s := (s.endGroups endClock).chansSettle.engsSettle
  let s := s.cond (s.lhs != 0) (·.sclkStop)
  (s.capTrip).fastReturn

/-- REFIN is declared present again: RCLK runs, flags, closures, and the trips that waited. -/
def State.refPresent (s : State) : State := if s.tide.rclk then s else s.refBack.refCloses

end Sys2Proof.Machine
end

