-- ==== Sys2Proof/Machine/Power.lean ====
section
/-! DEFINITION. Power domains, draining and reset (R172 to R196). -/

namespace Sys2Proof.Machine

def State.modPwr (s : State) (f : PwrSt → PwrSt) : State := { s with pwr := f s.pwr }

/-- The domains a domain needs (R172). -/
def domNeeds : Dom → List Dom
  | .tally => [.lhs] | .dock => [.lhs]
  | .berth01 => [.lha] | .berth23 => [.lha] | .berth45 => [.lha] | .berth67 => [.lha]
  | .acq => [.lhs, .lha, .tally]
  | .emica => [.ctrl]
  | _ => []

/-- The STARTING time of a domain in RCLK cycles (R172). -/
def startTime : Dom → Nat
  | .ctrl => 5000 | .lhs => 2000 | .lha => 2000 | .tally => 2000 | .dock => 2000
  | .berth01 => 20000 | .berth23 => 20000 | .berth45 => 20000 | .berth67 => 20000
  | .acq => 10000 | .host => 100000 | .emica => 1000 | .aon => 0

/-- The switchable domains. -/
def allDoms : List Dom := (List.range 12).map fun i => domOfNum (i + 1)

/-- The domains that need a domain (R172). -/
def dependants (d : Dom) : List Dom := allDoms.filter fun e => (domNeeds e).contains d

/-- The name of a domain (R172), and the word of a state (R173). -/
def domWord : Dom → String
  | .aon => "AON" | .ctrl => "CTRL" | .lhs => "LHS" | .lha => "LHA" | .tally => "TALLY" | .dock => "DOCK"
  | .berth01 => "BERTH01" | .berth23 => "BERTH23" | .berth45 => "BERTH45" | .berth67 => "BERTH67" | .acq => "ACQ"
  | .host => "HOST" | .emica => "EMICA"
def domStateWord : Nat → String
  | 0 => "OFF" | 1 => "STARTING" | 2 => "ON" | _ => "DRAINING"

/-- PWR_DISCARD_n of a domain (R188), advanced. -/
def State.discard (s : State) (d : Dom) (n : Nat) : State := s.count (PWR_DISCARD (domNum d - 1)) n

/-! ### Status that returns to its reset value (R177) -/

/-- A register keeps its TA and RW fields, and its other fields take their reset values. -/
def State.statusReset1 (r : RegRow) (s : State) (off : Nat) : State :=
  let keep := r.ta ||| r.rw
  s.setRegN off ((s.regN off &&& keep) ||| (resetNat off &&& (0xFFFFFFFF - keep)))

/-- Every register of some rows does so. -/
def State.statusReset (rows : List RegRow) (s : State) : State :=
  rows.foldl (fun s r => if r.ta ||| r.rw = 0xFFFFFFFF then s else foldS (State.statusReset1 r) r.offs s) s

/-- The hardware of a domain is in its reset state as it enters ON (R177). -/
def State.domReset (s : State) (d : Dom) : State :=
  match d with
  | .ctrl =>
    let s := (s.setRegN PLT_CMP_LVL 0).modPlt fun x => { x with settling := 0, settleFrom := .replicate 8 none }
    (((s.noteLevels s.tide.tb.toNat).setRegN CLK_CAP_STAT 0).sluiceOn.slipwayOn).protectionOn
  | .lhs =>
    let s := ((s.setRegN CLK_LHS_COUNT 0).setBit CLK_STAT 9 false).setFld CLK_UNLOCK_CNT 16 16 0
    (s.setRegN CLK_LHS_STAT 0).acquire .lhs
  | .lha =>
    let s := ((s.setRegN CLK_LHA_COUNT 0).setBit CLK_STAT 8 false).setFld CLK_UNLOCK_CNT 0 16 0
    (s.setRegN CLK_LHA_STAT 0).acquire .lha
  | .tally =>
    let s := s.statusReset tlyRows
    { s with lanes := .replicate 6 LaneSt.reset, knob := KnobSt.reset }
  | .dock =>
    let kept := [0, 1].map fun n => s.bit (DCK_CH_TSTAT n) 8
    let s := s.statusReset dckRows
    let s := { s with dock := .replicate 2 DockCh.reset }
    foldS (fun s n =>
      let r := kept.getD n false
      let st := if !s.bit (DCK_CH_CFG n) 0 then 0 else if r then 5 else 1
      (s.setBit (DCK_CH_TSTAT n) 8 r).setFld (DCK_CH_TSTAT n) 0 3 st) [0, 1] s
  | .acq =>
    let keep := [MAN_SEQ, MAN_DIR_NEXT]
    let vals := keep.map s.reg
    let s := s.statusReset (acqRows ++ whsRows)
    let s := (keep.zip vals).foldl (fun s x => s.setReg x.1 x.2) s
    let s := foldS (fun s g => foldS (fun s o => s.setRegN o 0)
      [PLT_LAST_Q0 g, PLT_LAST_Q1 g, PLT_LAST_Q2 g, PLT_LAST_INFO g, PLT_LAST_IDX_LO g, PLT_LAST_IDX_HI g, PLT_ENG_STAT g] s)
      (List.range 8) s
    let raw := fun (j : Nat) => s.fld (PLT_TRIGOUT j) 0 2 == 2 && s.fld (PLT_TRIGOUT j) 2 7 ≤ 8
    let s := foldS (fun s j => s.cond (!raw j) (·.trigOutOff j)) [0, 1] s
    let s := (s.modPlt fun x =>
      { x with engs := .replicate 8 EngSt.reset, dets := .replicate 8 DetSt.reset, efire := false, efireTo := 0 }).noteLevels
        s.tide.tb.toNat
    { s with acq := AcqSt.reset, hists := .replicate 8 HistSt.reset, maps := .replicate 2 MapSt.reset }
  | .host =>
    let s := s.statusReset fryRows
    let s := foldS (fun s o => s.setRegN o 0) [CMD_DROP 2, CMD_ERR 2, CMD_LOST 2, CMD_LINKERR 2] s
    let s := s.modBell fun x => { x with msixEnable := false, busMaster := false, msgs := [] }
    { s with fry := FrySt.reset, cmd := { s.cmd with mbox := PortSt.reset } }
  | .emica => s.emicaOn
  | .aon => s
  | _ =>
    let b := 2 * (domNum d - 6)
    let pair := [b, b + 1]
    let chs := (List.range 8).filter fun n => (s.berths n).any pair.contains
    let s := s.bgZero pair
    let s := foldS (fun s b =>
      let s := (s.setBit BRT_OVR_STAT b false).setRegN (BRT_OVR_CNT b) 0
      (s.setRegN (BRT_SKEW_ERR b) 0).modBrt fun x =>
        { x with overs := vset x.overs b [], sats := vset x.sats b [], skewPend := vset x.skewPend b none }) pair s
    foldS (fun s n =>
      let s := foldS (fun s o => s.setReg o (resetValue o)) [BRT_MON n, BRT_SNAP n, BRT_MONCNT n] s
      let s := (s.setReg72 (BRT_T0_Q0 n) 0).setBit BRT_CHAN_STAT (16 + n) false
      (s.setBit BRT_MON_STAT n false).modChan n fun _ => ChanSt.reset) chs s

/-! ### Transitions (R175 to R181) -/

/-- A transition is reported (R176, R180): PWR_DONE or PWR_FAIL, Bell source 38 and !POWER. -/
def State.powerDone (s : State) (reg : Nat) (d : Dom) (on : Bool) : State :=
  (s.flag reg (domNum d)).notify .power 3 [.word (domWord d), .word (if on then "ON" else "OFF")] (domNum d)

/-- The checks of an ON request (R176). -/
def State.onCheck (s : State) (d : Dom) : Except Nat Unit := do
  need (s.dom d != 3) 202
  need (!(domNeeds d).any fun e => s.dom e == 0) 201
  need (!(domNeeds d).any fun e => s.dom e == 3) 202

/-- Any ring is enabled (R178). -/
def State.anyRing (s : State) : Bool := (List.range 8).any fun r => s.ringState r != 0

/-- The checks of an OFF request (R178). -/
def State.offCheck (s : State) (d : Dom) : Except Nat Unit := do
  need (s.dom d != 1) 203
  need ((dependants d).all fun e => s.dom e == 0) 203
  need (match d with
    | .ctrl => !s.anyAuto
    | .lhs => !s.anyRing
    | .berth01 | .berth23 | .berth45 | .berth67 =>
      !(List.range 8).any fun n => s.loopMode n == 2 && (s.berths (s.inch n)).any fun b => berthDom b == d
    | .dock =>
      let ext := fun m => decide (m < 2)
      !((List.range 8).any fun g => 1 ≤ s.grpState g && s.grpState g ≤ 3 && (ext (s.grpMem g) || ext s.dirMem)) &&
      !((List.range 8).any fun h => (vget s.hists h).held && ext (s.histMem h)) &&
      !((List.range 2).any fun m => (vget s.maps m).held && ext (s.mapMem m)) &&
      !((List.range 8).any fun r => (s.ringType r == 3 || s.ringType r == 4) && s.ringState r != 0)
    | .emica => !s.anyShare
    | _ => true) 203

/-- An ON request is admitted (R176). -/
def State.onRequest (s : State) (d : Dom) : State :=
  (s.setDom d 1).modPwr fun x => { x with since := vset x.since (domNum d) s.tide.tb }

/-- What stops at the DRAINING entry of a domain (R181). DESIGN CHOICE (log 73): with Lighthouse-A's outputs RETUNE falls, and with
Lighthouse-S's DEGRADED_NOW. -/
def State.drainStops (s : State) (d : Dom) : State :=
  match d with
  | .ctrl =>
    let (n, s) := s.slipwayCut
    ((s.discard .ctrl n).protectionStop).capStop
  | .lhs => (((s.setSynth .lhs SynthSt.reset).setSynthState .lhs 0).setBit TIM_STAT 3 false).setBit TIM_STAT 1 false |>.bar2Cut |>.chansSettle
  | .lha => (((s.setSynth .lha SynthSt.reset).setSynthState .lha 0).setBit CLK_LHA_STAT 3 false).aclkGate
  | .tally => (((s.discard .tally s.tlyOpen).tlyEndAll tlyPower).calAbandon false).chansSettle
  | .dock =>
    foldS (fun s n =>
      let q := (vget s.dock n).queue.length
      if s.dckState n = 3 then (((s.discard .dock q).dockCut n 2).dockDrop n fun _ => true).selfRefresh n false else s) [0, 1] s |>.bar2Cut
  | .acq => ((s.endGroups endPower).endWarehouse 4).engsSettle
  | .host =>
    let n := s.cmd.mbox.lines
    ((s.discard .host n).setPort 2 PortSt.reset).ratesOn (·.port == 2)
  | .aon | .emica => s
  | _ => s.chansSettle.engsSettle

/-- An OFF request is admitted (R180). -/
def State.offRequest (s : State) (d : Dom) : State :=
  ((s.setDom d 3).modPwr fun x =>
    { x with since := vset x.since (domNum d) s.tide.tb, edges := vset x.edges (domNum d) 0 }).drainStops d

/-- One bit of PWR_TARGET as it is written (R175, R176, R178). -/
def State.powerBit (s : State) (on : Bool) (d : Dom) : Except Nat State :=
  let st := s.dom d
  if on then
    if st = 1 ∨ st = 2 then .ok s else do
      s.onCheck d
      .ok (s.onRequest d)
  else
    if st = 0 ∨ st = 3 then .ok s else do
      s.offCheck d
      .ok (s.offRequest d)

/-- Requests in order; the first refused one refuses all. -/
def State.powerBits (s : State) : List (Bool × Dom) → Except Nat State
  | [] => .ok s
  | (on, d) :: t => do
    let s ← s.powerBit on d
    s.powerBits t

/-- A PWR_TARGET write (R175): ON requests in ascending, then OFF requests in descending domain number. -/
def State.powerWrite (s : State) (w : Nat) : Except Nat State :=
  let on := allDoms.filter fun d => bits w (domNum d) 1 == 1
  let off := allDoms.reverse.filter fun d => bits w (domNum d) 1 == 0
  s.powerBits (on.map (fun d => (true, d)) ++ off.map fun d => (false, d))

/-- What PWR_TARGET reads (R188): 1 for STARTING or ON. -/
def State.powerTarget (s : State) : Nat := 1 + maskOf ((allDoms.filter fun d => s.dom d == 1 || s.dom d == 2).map domNum)

/-- The RCLK cycles since a domain's transition was committed. -/
def State.sinceCommit (s : State) (d : Dom) : Nat := (s.tide.tb - vget s.pwr.since (domNum d)).toNat / 5

/-- Clocks, channels and engines follow a change of power. -/
def State.powerSettle (s : State) : State := s.chansSettle.engsSettle

/-- A STARTING domain enters ON (R176). -/
def State.onEntry (s : State) (d : Dom) : State :=
  if s.dom d == 1 && startTime d ≤ s.sinceCommit d && (domNeeds d).all s.on then
    (((s.setDom d 2).domReset d).powerSettle).powerDone PWR_DONE d true
  else s

/-- The words of histogram h that its sweep in progress, and the final one to come, have not swept (R310, R324). -/
def State.unsweptHist (s : State) (h : Nat) : Nat :=
  let x := vget s.hists h
  let all := s.bins h + 8
  match x.sweep with
  | some sw => all - 8 * sw.done + if sw.fin then 0 else all
  | none => if x.held then all else 0

/-- The words the Warehouse has still to write (R324): of sweeps, and of the hits of maps. -/
def State.unswept (s : State) : Nat :=
  ((List.range 8).foldl (fun a h => a + s.unsweptHist h) 0) + (List.range 2).foldl (fun a m => a + (s.hitWords m).length) 0

/-- Quay words of capture that have not reached memory or the Ferry. -/
def State.undelivered (s : State) : Nat :=
  ((List.range 8).foldl (fun a g => (s.grp g).await.foldl (fun a x =>
    a + 8 + (if s.grpMem g < 2 then s.dockWaiting (s.grpMem g) g x.seq else 0)) a) 0) +
  (s.acq.marks.foldl (fun a m => a + m.2.length) 0) + (s.acq.offered.foldl (fun a b => a + b.words.length) 0) + s.unswept

/-- Descriptors in flight. -/
def State.inFlightDescs (s : State) : Nat := (List.range 8).foldl (fun a r => a + (s.ring r).flights.length) 0

/-- The work in flight of a DRAINING domain is done (R181). -/
def State.drained (s : State) (d : Dom) : Bool :=
  match d with
  | .acq => s.undelivered == 0 && (List.range 8).all fun g => s.grpState g == 0
  | .host => s.inFlightDescs == 0
  | _ => true

/-- A DRAINING domain goes OFF (R180); work still in flight is discarded, and counted. -/
def State.goOff (s : State) (d : Dom) : State :=
  let s :=
    match d with
    | .acq =>
      let s := s.discard .acq s.undelivered
      let s := foldS (fun s g => if s.grpState g = 0 then s else s.setGrp g 0) (List.range 8) s
      let s := foldS (fun s n => s.dockDrop n fun b => b.client < 8) [0, 1] s
      ({ s with acq := AcqSt.reset, hists := .replicate 8 HistSt.reset, maps := .replicate 2 MapSt.reset } : State).memLoseAll 2
    | .host =>
      let s := s.discard .host s.inFlightDescs
      (foldS State.ringKill (List.range 8) s).setFld FRY_LINK 8 3 0 |>.bar2Cut
    | .dock => foldS (fun s n => s.cond (s.dckState n == 5) (·.setBit (DCK_CH_TSTAT n) 8 true)) [0, 1] s
    | _ => s
  ((s.setDom d 0).powerSettle).powerDone PWR_DONE d false

/-- A DRAINING domain whose work is done goes OFF at a tide edge after its commit edge (R180). -/
def State.offEntry (s : State) (d : Dom) : State := if s.dom d == 3 && s.drained d then s.goOff d else s

/-- The drain limit, at edge k + 2 (R180); `edges` tide edges have passed since the commit edge. -/
def State.drainLimit (s : State) (edges : Nat) (d : Dom) : State := if s.dom d == 3 && 2 ≤ edges then s.goOff d else s

/-- A power switch did not report good (R193): the domain and every STARTING one that needs it go OFF. -/
def State.startFail (s : State) (d : Dom) : State :=
  if s.dom d != 1 || s.sinceCommit d < 4 * startTime d then s
  else
    let first := dependants d
    let all := allDoms.filter fun e => e = d ∨ ((first.contains e || first.any fun f => (dependants f).contains e) ∧ s.dom e = 1)
    all.foldl (fun s e => (s.setDom e 0).powerDone PWR_FAIL e false) s

/-- Tide edges pass for the draining domains. -/
def State.drainEdges (s : State) : State :=
  allDoms.foldl (fun s d =>
    s.cond (s.dom d == 3) (·.modPwr fun x => { x with edges := vmod x.edges (domNum d) (· + 1) })) s

/-! ### Reset (R182 to R186, R196) -/

/-- INV acts on pin n: on every function but PARK (R128). -/
def State.inverts (s : State) (n : Nat) : Bool := s.bit (PMX_PIN n) 16 && s.fld (PMX_PIN n) 0 4 != 0

/-- The state a unit reset leaves while it is held (R182, R196): every register at its reset value. The store keeps its
words (R542), external and on-chip memory lose theirs, and what lies outside the unit stays: REFIN, pad levels, the
TAP, and the model's own queue and free counter. -/
def State.unitReset (s : State) : State :=
  let s := s.saveCut
  let r := State.reset
  { r with
    tide := { r.tide with rclk := s.tide.rclk }
    cmd := { r.cmd with rtsHigh := s.cmd.rtsHigh }
    yard := { r.yard with level := s.yard.pads, sync := s.yard.pads, pads := s.yard.pads }
    plt := { r.plt with trigin := s.plt.trigin }
    prt := { r.prt with fast := s.prt.fast }
    store := { r.store with words := s.store.words }
    mem := #v[MemSt.loseAll s.free, MemSt.loseAll (s.free + 1), MemSt.loseAll (s.free + 2)]
    regs := smSet resetValue [] PWR_RST_CAUSE (s.reg PWR_RST_CAUSE)
    pwr := { r.pwr with tap := s.pwr.tap, cells := s.pwr.cells, cellOut := s.pwr.cellOut, held := s.pwr.held, causes := s.pwr.causes }
    free := s.free + 3
    pending := s.pending }

/-- A reset source asserts a unit reset (R182, R186): 0 power-on, 1 RESET_N, 2 PERST#, 3 SYS_RESET. -/
def State.assertReset (s : State) (k : Nat) : State :=
  (s.modPwr fun x => { x with held := true, causes := (if x.held then x.causes else 0) ||| 2 ^ k }).unitReset

/-- The internal reset releases (R182, R184, R186), with BOOTHOST as sampled. -/
def State.releaseReset (s : State) (boothost : Bool) : State :=
  if !s.pwr.held || !s.tide.rclk then s
  else
    let c := s.pwr.causes
    let hostRst := if bits c 0 1 = 1 then 0 else s.fld PWR_RST_CAUSE 8 1
    let s := (s.setRegN PWR_RST_CAUSE (c + hostRst * 256)).setRegN PWR_STRAP (b2n boothost)
    let s := s.modPwr fun x => { x with held := false, causes := 0 }
    let s := { s with yard := { s.yard with level := s.yard.pads, sync := s.yard.pads } }
    s.cond boothost (·.setDom .host 2)

/-- A HOST-only PERST# (R185, R609). -/
def State.hostReset (s : State) : State :=
  let s := s.discard .host s.cmd.mbox.lines
  let s := foldS State.ringKill (List.range 8) s.bar2Cut
  let s := { s with
    regs := s.regs.filter fun x =>
      !((0x24000 ≤ x.1 && x.1 < 0x28000) || (0x22000 ≤ x.1 && x.1 < 0x2200C) || (0x22180 ≤ x.1 && x.1 < 0x22198))
    latches := s.latches.filter fun x => x.1 % 4 != 0
    fry := FrySt.reset
    cmd := { s.cmd with mbox := PortSt.reset } }
  let s := s.modBell fun x => { x with msixEnable := false, busMaster := false, msgs := [] }
  ((s.flag PWR_RST_CAUSE 8).modPwr fun x => { x with perst := true }).ratesOn (·.port == 2)

end Sys2Proof.Machine
end

