-- ==== Sys2Proof/Machine/Pads.lean ====
section
/-! DEFINITION. What the unit drives on its balls: the multi-function pins with their park states, functions and INV (R117,
R128 to R132, R138, R139), REFGOOD (R142), UART_CTS_N (R73), and the TAP's hold on them (R640). -/

namespace Sys2Proof.Machine

/-- What the unit puts on a ball. -/
inductive Pad where
  /-- Driven low, or high. -/
  | low | high
  /-- High impedance with a weak pull-down or pull-up, or with none. -/
  | pullDown | pullUp | hiZ
  /-- Driven with the waveform of a frame, a period or a character, which the model does not follow within an RCLK cycle
  (log 64). -/
  | wave
  deriving DecidableEq, Repr

/-- A driven level. -/
def Pad.drive (high : Bool) : Pad := if high then .high else .low

/-- PARK of a pin (R132). -/
def State.parkCode (s : State) (n : Nat) : Nat := s.fld (PMX_PIN n) 12 2

/-- The park state of a pin (R132): weak pull-down, weak pull-up, driven low, driven high; INV does not apply to it (R128). -/
def State.parkPad (s : State) (n : Nat) : Pad :=
  match s.parkCode n with
  | 0 => .pullDown
  | 1 => .pullUp
  | 2 => .low
  | _ => .high

/-- The weak pull of a pin that an input function holds (R128). -/
def State.pullPad (s : State) (n : Nat) : Pad := if s.parkCode n % 2 = 0 then .pullDown else .pullUp

/-- UART_CTS_N (R73, R96): high while RTSCTS is set and the UART queue holds 15 lines or more. -/
def State.uartCts (s : State) : Bool := s.bit (CMD_PCFG 0) 1 && 15 ≤ s.cmd.uart.lines

/-- A RAW TRIGOUT of a comparator needs TALLY and CTRL, any other one ACQ (R249). -/
def State.trigOutOn (s : State) (j : Nat) : Bool :=
  s.on .acq ||
    (s.fld (PLT_TRIGOUT j) 0 2 == 2 && s.fld (PLT_TRIGOUT j) 2 7 ≤ 8 && s.on .tally && s.on .ctrl)

/-- What an output function drives before INV on a pin, where its source block's domain is ON (R128, R249, R421, R435,
R436, R455); none where it drives the park state. -/
def State.funcPad (s : State) (n func index : Nat) : Option Pad :=
  match func with
  | 2 => some (.drive (s.bit PMX_GPO n))
  | 4 => if s.trigOutOn index then some (.drive (bits s.plt.out.toNat index 1 == 1)) else none
  | 7 =>
    if !s.on .ctrl then none
    else if 10 ≤ index then some (.drive (s.slipPort (index - 10)).frame.isNone)
    else some .wave
  | 8 => if s.pwmParked (index / 2) then none else some .wave
  | 9 => if s.on .ctrl then some (.drive (s.tripPin index)) else none
  | 10 => some (.drive (!s.intLow index))
  | 12 => some (if index = 1 then .wave else .drive s.uartCts)
  | _ => none

/-- A function is an output (R128). -/
def isOutput (func index : Nat) : Bool :=
  func == 2 || func == 4 || (7 ≤ func && func ≤ 10) || (func == 12 && index % 2 == 1)

/-- INV on a driven level. -/
def Pad.invert : Pad → Pad
  | .low => .high
  | .high => .low
  | p => p

/-- What the unit puts on pin n as its function has it (R128, R131, R132, R139). -/
def State.funcLevel (s : State) (n : Nat) : Pad :=
  let func := s.fld (PMX_PIN n) 0 4
  let index := s.fld (PMX_PIN n) 4 5
  if s.pwr.held then .pullDown
  else if s.parked n || func == 0 then s.parkPad n
  else if isOutput func index then
    match s.funcPad n func index with
    | some p => if s.bit (PMX_PIN n) 16 then p.invert else p
    | none => s.parkPad n
  else s.pullPad n

/-- The current TAP instruction lets the boundary register, or nothing, drive the balls (R640): EXTEST and CLAMP the register,
HIGHZ nothing. -/
def State.tapHolds (s : State) : Bool := s.pwr.tap == 0 || s.pwr.tap == 3 || s.pwr.tap == 4

/-- The boundary register takes contents from outside (R632, log 68). -/
def State.tapCells (s : State) : State :=
  let a := s.fresh
  let b := a.2.fresh
  b.2.modPwr fun x => { x with cells := Config.freeWord a.1, cellOut := Config.freeWord b.1 }

/-- What stands on multi-function pin n (R128, R640). -/
def State.pad (s : State) (n : Nat) : Pad :=
  if !s.tapHolds then s.funcLevel n
  else if s.pwr.tap == 4 || !s.pwr.cellOut.getLsbD n then .hiZ
  else .drive (s.pwr.cells.getLsbD n)

/-- REFGOOD (R142): an open-drain output, low while REFIN is absent and released while it is present. -/
def State.refgood (s : State) : Pad := if s.tide.rclk then .hiZ else .low

/-- The level at a pin's pad after INV, where the unit drives it (R117); none where another driver gives it. -/
def State.drivenLevel (s : State) (n : Nat) : Option Bool :=
  match s.pad n with
  | .low => some (s.inverts n)
  | .high => some (!s.inverts n)
  | _ => none

/-- The level at a pin's pad after INV: the driven one, else the one other drivers give (R117). -/
def State.padLevel (s : State) (n : Nat) : Bool := (s.drivenLevel n).getD (s.yard.pads.getLsbD n != s.inverts n)

/-- The pins whose PMX_PIN does not hold its reset value. -/
def State.setPins (s : State) : List Nat :=
  s.regs.filterMap fun x => if PMX_PIN 0 ≤ x.1 && x.1 < PMX_PIN 32 then some ((x.1 - PMX_PIN 0) / 4) else none

/-- What the synchroniser takes on an edge (R117): the level of each pin the unit drives, and the registered one of every
other pin and of one in its park window. -/
def State.sampled (s : State) : Nat :=
  s.setPins.foldl (fun m n => if s.parked n then m else
    match s.drivenLevel n with
    | some b => putBits m n 1 (b2n b)
    | none => m) s.yard.level.toNat

/-- The levels as the coming edge has them, the pins in a park window keeping theirs. -/
def State.nextLevel (s : State) : Nat :=
  (s.yard.sync.toNat &&& (0xFFFFFFFF ^^^ s.yard.park.toNat)) ||| (s.yard.level.toNat &&& s.yard.park.toNat)

end Sys2Proof.Machine
end

