-- ==== Sys2Proof/Machine/Yard.lean ====
section
/-! DEFINITION. The Signal Yard (R116 to R127, R133 to R138): registration, the log, routes, merging and delivery on the
ledger of R121, as RCLK edges pass. -/

namespace Sys2Proof.Machine

def State.modYard (s : State) (f : YardSt → YardSt) : State := { s with yard := f s.yard }

/-- One log entry (R126). -/
def State.logEntry (s : State) (c : Nat) : Quay :=
  BitVec.ofNat 72 (s.tide.tb.toNat * 2 ^ 16 + c * 2 ^ 7 + b2n (s.bit TIM_STAT 1) * 2 ^ 6)

/-- Log an event whose code is enabled (R126). -/
def State.logEvent (s : State) (c : Nat) : State :=
  if s.bit (YRD_LOG_MASK (c / 32)) (c % 32) then
    let full := 1024 ≤ s.yard.log.length
    let s := s.modYard fun x => { x with log := (if full then x.log.drop 1 else x.log) ++ [s.logEntry c] }
    let s := s.cond full (·.count YRD_LOG_LOST 1)
    s.setRegN YRD_LOG_FILL s.yard.log.length
  else s

/-- The oldest log entry, removed (R127): zero where the log is empty. -/
def State.logPop (s : State) : Quay × State :=
  match s.yard.log with
  | [] => (0, s)
  | q :: t => (q, (s.modYard fun x => { x with log := t }).setRegN YRD_LOG_FILL t.length)

/-- The TARGET bits a task has (R120). -/
def taskMask (t : Nat) : Nat := if t = 2 ∨ t = 3 then 0xFFF else 0xFF

/-- Route k delivers for an event of code c (R119): a pin's event on the edge the route selects. -/
def State.routeFires (s : State) (k c : Nat) : Bool :=
  s.bit (YRD_ROUTE k) 0 && s.fld (YRD_ROUTE k) 4 7 == c &&
  (!(32 ≤ c && c < 64) ||
    (let e := s.fld (YRD_ROUTE k) 2 2
     2 ≤ e || e == (if s.pinLevel (c - 32) then 0 else 1)))

/-- The masks the routes deliver to task t for some events (R120). -/
def State.deliveriesTo (s : State) (t : Nat) (codes : List Nat) : List Nat :=
  (codes.flatMap fun c => (List.range 32).filterMap fun k =>
    if s.routeFires k c && s.fld (YRD_ROUTE k) 12 3 == t then some (s.fld (YRD_ROUTE k) 16 16 &&& taskMask t) else none).filter
    (· != 0)

/-- Apply a checked action, or count it as ignored: whether any was ignored. -/
def tryEach (f : State → Nat → Except Nat Unit) (g : State → Nat → State) (l : List Nat) (s : State) : Bool × State :=
  l.foldl (fun a k => match f a.2 k with
    | .ok _ => (a.1, g a.2 k)
    | .error _ => (true, a.2)) (false, s)

/-- The loops a staged unit swaps, and those it steps (R122, R404, R406). -/
def swapsOf : LineUnit → List Nat
  | .row (.sluiceSwap _ ns) => ns
  | .row (.reg _ off v) => if off = SLC_SWAP then maskBits 8 v else []
  | _ => []
def stepsOf : LineUnit → List Nat
  | .row (.listStep _ n) => [n]
  | .row (.reg _ off v) => if off = SLC_STEP then maskBits 8 v else []
  | _ => []

/-- The domains whose PWR_TARGET bit a staged unit sets (R190). -/
def powerNames : LineUnit → List Dom
  | .row (.pwrOn _ d) | .row (.pwrOff _ d) => [d]
  | .row (.reg _ off _) => if off = PWR_TARGET then allDoms else []
  | _ => []

/-- A line staged for the coming boundary names loop n (R122). -/
def State.lineStaged (s : State) (f : LineUnit → List Nat) (n : Nat) : Bool :=
  let of := fun (p : Fin 3) => (s.port p).queue.any fun l => match l.st with
    | .staged us late _ _ => !late && us.any fun u => (f u).contains n
    | _ => false
  of 0 || of 1 || of 2

/-- A merged action reaches its blocks (R120, R123, R138): whether a target bit was ignored. -/
def State.act (s : State) (t m : Nat) : Bool × State :=
  let lo := maskBits 8 m
  let lanes := maskBits 4 (m / 256)
  match t with
  | 0 => tryEach State.armCheck State.arm lo s
  | 1 => tryEach (fun s g => need (s.engRuns g) 203) State.fireYard lo s
  | 2 =>
    let (a, s) := tryEach State.startCheck State.streamStart lo s
    let (b, s) := tryEach State.tlyStartCheck State.tlyStart lanes s
    (a || b, s)
  | 3 =>
    let (a, s) := tryEach State.stopCheck State.streamStop lo s
    let (b, s) := tryEach State.tlyStopCheck State.tlyHalt lanes s
    (a || b, s)
  | 4 =>
    let s := s.setReg72 YRD_SNAP_Q0 s.now
    let s := s.setReg64 (YRD_SNAP_TIDE 0) (YRD_SNAP_TIDE 1) s.tide.number.toNat
    tryEach (fun s n => need (s.chanPowered n) 201) State.snapshot lo s
  | 5 =>
    if !s.on .ctrl then (true, s)
    else
      let again := lo.filter fun n => (s.loop n).swap || s.lineStaged swapsOf n
      (false, (s.count (YRD_COINC 5) again.length).stageSwap m)
  | 6 => s.yardMoor m
  | _ =>
    if !s.on .ctrl then (true, s)
    else
      let again := lo.filter fun n => (s.loop n).lst.step || s.lineStaged stepsOf n
      let (bad, s) := (s.count (YRD_COINC 7) again.length).stageStep m
      (!bad.isEmpty, s)

/-- What the routes make of some events for task t (R120, R122): the OR of the masks delivered and their number. -/
def State.matched (s : State) (codes : List Nat) (t : Nat) : Option (Nat × Nat × Nat) :=
  match s.deliveriesTo t codes with
  | [] => none
  | ms => some (t, ms.foldl (· ||| ·) 0, ms.length)

/-- The user Bell bits of some events (R125). -/
def State.bellsOf (s : State) (codes : List Nat) : Nat :=
  maskOf ((List.range 8).filter fun j => codes.any fun c => c != 0 && s.fld (YRD_BELL_SEL j) 0 7 == c)

/-- The events of an edge as routed (R119 to R122, R125). -/
def State.routed (s : State) (codes : List Nat) : Routed :=
  { tasks := (List.range 8).filterMap (s.matched codes), bells := s.bellsOf codes }

/-- Task t with the OR m of n merged deliveries acts, on delivery cycle 2 (R121 to R123, R137). -/
def State.deliverTask (s : State) (t m n : Nat) : State :=
  let s := s.count (YRD_COINC t) (n - 1)
  if s.cmd.abort.isSome && t ≤ 4 then s.count YRD_ABORT_DISC 1
  else
    let (ign, s) := s.act t m
    s.cond ign (·.count (YRD_IGN t) 1)

/-- Insertion into a rising list of codes. -/
def insertCode (c : Nat) : List Nat → List Nat
  | [] => [c]
  | d :: t => if c ≤ d then c :: d :: t else d :: insertCode c t

/-- The same code raised again on one edge registers once (R135). -/
def once : List Nat → List Nat
  | [] => []
  | c :: t => if t.contains c then once t else c :: once t

/-- The block whose domain must be ON for a source to register its event (R116). -/
def srcDom (c : Nat) : Dom :=
  if c = 2 ∨ c = 7 ∨ (8 ≤ c ∧ c < 16) ∨ (72 ≤ c ∧ c < 80) then .ctrl
  else if c = 3 ∨ c = 5 ∨ (16 ≤ c ∧ c < 24) then .acq
  else if c = 4 then .emica
  else if 24 ≤ c ∧ c < 28 then .tally
  else .aon

/-- A source's block is ON (R116); AON always is. -/
def State.srcOn (s : State) (c : Nat) : Bool := srcDom c == .aon || s.on (srcDom c)

/-- The codes that register on this edge: each raised one once, in ascending order (R116, R126, R135). -/
def State.codes (s : State) : List Nat := ((once s.yard.raised).filter s.srcOn).foldr insertCode []

/-- The pins whose registered level changes on the coming edge (R117). -/
def State.levelMoves (s : State) : List Nat := maskBits 32 (s.nextLevel ^^^ s.yard.level.toNat)

/-- An RCLK edge ends (R117, R121): its events register, are logged and routed; what was routed moves on; the events of the
next edge come up, with those of the levels that change there. -/
def State.edgeClose (s : State) : State :=
  let r := s.routed s.codes
  let lv := s.nextLevel
  let sy := s.sampled
  let moves := s.levelMoves
  let s := s.codes.foldl State.logEvent s
  { s with
    edge := EdgeSt.reset
    yard := { s.yard with
      raised := moves.map (32 + ·), first := r, second := s.yard.first
      level := BitVec.ofNat 32 lv, sync := BitVec.ofNat 32 sy } }

/-- The MOOR tasks due on this edge latch their trips (R120, R136). -/
def State.arriveMoor (s : State) : State :=
  let ts := s.yard.second.tasks.filter (·.1 == 6)
  let s := s.modYard fun x => { x with second := { x.second with tasks := x.second.tasks.filter (·.1 != 6) } }
  ts.foldl (fun s x => s.deliverTask x.1 x.2.1 x.2.2) s

/-- What is due on this edge is delivered, and the user Bell bits are set (R121, R125). -/
def State.arrive (s : State) : State :=
  let r := s.yard.second
  let s := s.modYard fun x => { x with second := Routed.none }
  let s := (maskBits 8 r.bells).foldl (fun s j => s.flag YRD_BELL_STAT j) s
  r.tasks.foldl (fun s x => s.deliverTask x.1 x.2.1 x.2.2) s

/-- Nothing of the Yard or the synchroniser is under way. -/
def State.yardQuiet (s : State) : Bool :=
  s.yard.raised.isEmpty && s.yard.first == Routed.none && s.yard.second == Routed.none &&
    s.nextLevel == s.yard.level.toNat && s.sampled == s.yard.sync.toNat

/-- The level other drivers give a pad. -/
def State.setPad (s : State) (n : Nat) (high : Bool) : State :=
  s.modYard fun x => { x with pads := BitVec.ofNat 32 (putBits x.pads.toNat n 1 (b2n high)) }

/-- A pad level that another driver gives changes (R117, R138): it registers as the level after INV, and not in a park window
(R131) nor where the unit drives the pad. -/
def State.padChange (s : State) (n : Nat) (high : Bool) : State :=
  let s := s.setPad n high
  let l := high != s.inverts n
  if s.parked n || (s.drivenLevel n).isSome || s.pinLevel n == l then s
  else
    let put := fun (x : BitVec 32) => BitVec.ofNat 32 (putBits x.toNat n 1 (b2n l))
    (s.modYard fun x => { x with level := put x.level, sync := put x.sync }).raise (32 + n)

/-- What RCLK finds on the pads as it returns (R117, R138). -/
def State.padsReturn (s : State) : State :=
  foldS (fun s n => s.padChange n (s.yard.pads.getLsbD n)) (List.range 32) s

/-- The new functions take the pins that switch; the levels they find, those of `pads` where the unit does not drive them,
are the reference (R131). -/
def State.pinTakeover (s : State) (pads : Nat) : State :=
  let ps := maskBits 32 s.yard.park.toNat
  let s := s.modYard fun x => { x with
    park := 0
    pads := BitVec.ofNat 32 (ps.foldl (fun m n => putBits m n 1 (bits pads n 1)) x.pads.toNat) }
  ps.foldl (fun s n =>
    let put := fun (x : BitVec 32) => BitVec.ofNat 32 (putBits x.toNat n 1 (b2n (s.padLevel n)))
    (s.flag PMX_SWITCHED n).modYard fun x => { x with level := put x.level, sync := put x.sync }) s

/-! ### Pin assignments (R128 to R130) -/

/-- A function with an index is one a pin can carry (R128). -/
def pinCan (n func index : Nat) : Bool :=
  match func with
  | 0 | 1 | 2 | 11 => index == 0
  | 3 | 5 => index ≤ 1 && n ≤ 3
  | 4 | 9 | 10 => index ≤ 1
  | 6 => index ≤ 1 && n ≤ 7
  | 7 => index ≤ 17
  | 8 => index ≤ 15 && 16 ≤ n
  | 12 => index ≤ 3
  | _ => false

/-- A function instance is an input that one pin only may carry (R129). -/
def soleInput (func index : Nat) : Bool :=
  func == 3 || func == 5 || func == 6 || func == 11 || (func == 12 && (index == 0 || index == 2))

/-- A SPIDAC or PWM signal belongs to a port that a loop in AUTO drives (R130). -/
def State.autoSignal (s : State) (func index : Nat) : Bool :=
  if func = 7 then
    if index ≤ 1 then (List.range 8).any fun p => s.portMode p == 1 && s.autoDrives p
    else s.autoDrives ((index - 2) % 8)
  else func == 8 && s.autoDrives (index / 2)

/-- The checks of PMX_PIN_n from the value in force to the one the changes made as one, `t`, give it (R130, R660): a change of
PARK alone is admitted, and every other write is judged, that of the value in force too. -/
def State.pinCheck (s t : State) (n : Nat) : Except Nat Unit := do
  let w := t.regN (PMX_PIN n)
  let func := bits w 0 4
  let index := bits w 4 5
  need (pinCan n func index) 105
  let old := s.regN (PMX_PIN n)
  if bits old 0 9 == bits w 0 9 && bits old 16 1 == bits w 16 1 && bits old 12 2 != bits w 12 2 then .ok ()
  else do
    need (!(soleInput func index && (List.range 32).any fun k =>
      k != n && t.fld (PMX_PIN k) 0 4 == func && t.fld (PMX_PIN k) 4 5 == index)) 203
    need (!(s.autoSignal func index || s.autoSignal (bits old 0 4) (bits old 4 5))) 203

/-- A commit of PMX_PIN_n from the value it had (R131): a switch opens the park window. -/
def State.pinEffect (s : State) (old n : Nat) : State :=
  let w := s.regN (PMX_PIN n)
  if bits old 0 9 != bits w 0 9 || bits old 16 1 != bits w 16 1 then
    s.modYard fun x => { x with park := BitVec.ofNat 32 (putBits x.park.toNat n 1 1), parkAt := s.tide.tb }
  else s

/-- The source codes R116 assigns. -/
def srcOk (c : Nat) : Bool := c < 28 || (32 ≤ c && c < 80)

end Sys2Proof.Machine
end

