-- ==== Sys2Proof/Machine/Abort.lean ====
section
/-! DEFINITION. An abort (R64, R100 to R102): what it discards and stops, and its end. -/

namespace Sys2Proof.Machine

/-- An abort empties a port (R101): its partial line, its queued and staged lines, an owed ER 102, and the output buffer but
for a UART character in transmission. -/
def State.abortPort (s : State) (p : Fin 3) : State :=
  let x := s.port p
  s.setPort p { x.cleared with
    queue := [], owed := false, turned := [], out := x.out.take (if p = 0 && s.cmd.sending then 1 else 0) }

/-- What an abort stops (R101): groups, lanes, calibration, accumulations, and for the first of merged ones the Ferry. -/
def State.abortStops (s : State) : State :=
  let u := { s with cmd := { s.cmd with abort := some (s.cmd.abort.getD s.tide.number) } }
  let t := (((u.endGroups endAbort).engsSettle.tlyEndAll tlyAborted).calAbandon true).endWarehouse 2
  if s.cmd.abort.isSome then t
  else
    let t := t.count CMD_ABORT_CNT 1
    ({ t with cmd := { t.cmd with abort := some s.tide.number } }).ferryAbort

/-- An abort is taken (R100 to R102). The bit rates whose responses it discards are in use (log 25). One taken while another is in progress merges into it. -/
def State.takeAbort (s : State) : State :=
  let t := (((s.abortStops.abortPort 0).abortPort 1).abortPort 2).ratesOn fun _ => true
  { t with cmd := { t.cmd with abort := some (s.cmd.abort.getD s.tide.number) } }

/-- A terminator arrives that ends a line of ABORT alone (R79, R100). -/
def State.endsAbort (s : State) (p : Fin 3) (b : Byte) : Bool :=
  let x := s.port p
  (b == 0x0D || (b == 0x0A && !x.lastCR)) && !x.tooLong && !x.linkErr && abortLine x.chars

/-- One received character on a port (R78, R100). -/
def State.rxByte (s : State) (p : Fin 3) (b : Byte) : State :=
  if b == 0x18 then (s.setPort p { s.port p with lastCR := false }).takeAbort
  else if s.endsAbort p b then (s.setPort p { s.port p with lastCR := b == 0x0D }).takeAbort
  else s.asmByte p b

/-- A write of CMD_MB_IN (R76): its bytes reach the mailbox assembler, lowest first. -/
def State.mbIn (s : State) (v : Word) : State :=
  if s.on .host then (wordBytes v.toNat).foldl (fun s b => s.rxByte 2 (BitVec.ofNat 8 b)) s else s

/-- By 4.5 µs bursts and records of the abort are done (R101, R495). -/
def State.abortDrained (s : State) : State :=
  match s.cmd.abort with
  | some t0 => s.ferryAbortDone t0
  | none => s

/-- !ABORTED is placed on a port (R93, R101). -/
def State.abortedLine (s : State) (t0 : TideNo) (p : Fin 3) : State :=
  if !s.portUp p then s
  else
    let x := s.port p
    let again := if s.bit (CMD_PCFG p) 0 then x.chars.map fun c => if c.toNat < 0x7F then c else 0x3F else []
    s.outAppend p ((if x.atLineStart then [] else crlf) ++ (⟨.aborted, t0, [], s.tide.tb, 0⟩ : AsyncLine).text ++ again)

/-- By 5.0 µs !ABORTED stands on every port, and ABORT_DONE is raised (R101). -/
def State.abortedEmit (s : State) : State :=
  match s.cmd.abort with
  | some t0 =>
    let s := ((s.abortedLine t0 0).abortedLine t0 1).abortedLine t0 2
    ({ s with cmd := { s.cmd with abort := none } }).flag BEL_SYS_EVT 0
  | none => s

end Sys2Proof.Machine
end

