-- ==== Sys2Proof/Machine/RegRead.lean ====
section
/-! DEFINITION. Reads of the BAR0 registers (R9, R10, R90, R579 to R607): the value a register shows, the snapshot
latches of each requester, and what a read does beside it. -/

namespace Sys2Proof.Machine

/-- The instance of a row of registers that an offset is, if any. -/
def ixOf (off base stride n : Nat) : Option Nat :=
  if base ≤ off ∧ off < base + stride * n ∧ (off - base) % stride = 0 then some ((off - base) / stride) else none

/-- Put a flag into a bit of a number. -/
def withBit (x i : Nat) (b : Bool) : Nat := putBits x i 1 (b2n b)

/-- CMD_STAT_p (R114). -/
def State.cmdStat (s : State) (p : Fin 3) : Nat :=
  let x := s.port p
  x.lines + b2n (15 ≤ x.lines) * 2 ^ 5 + b2n x.tooLong * 2 ^ 6 + x.out.length * 2 ^ 8

/-- CMD_MB_STAT (R114). -/
def State.mbStat (s : State) : Nat :=
  let x := s.cmd.mbox
  x.out.length + min 31 x.outLines * 2 ^ 16 + x.lines * 2 ^ 24 + b2n (15 ≤ x.lines) * 2 ^ 31

/-- The slots client c holds on a Dock channel, 20 being the refresh block (R341): none before DOCK has been powered. -/
def State.rsv (s : State) (ch c : Nat) : Nat :=
  if c < 20 then 16 * s.charge ch c else if s.dom .dock == 0 || s.dom .dock == 1 then 0 else 16 * s.framesPerRound

/-- TIM_STAT (R57) as it reads: PPS_LOCK and SLEWING follow the discipline and the slew remainder. -/
def State.timStat (s : State) : Nat := withBit (withBit (s.regN TIM_STAT) 4 (s.tod.ppsSlews == 2)) 7 (s.tod.slew != 0)

/-- CLK_STAT (R160) as it reads. -/
def State.clkStat (s : State) : Nat :=
  let lk := fun v => v == 2 || v == 3
  putBits (s.regN CLK_STAT) 0 3 (b2n (lk s.lha) + 2 * b2n (lk s.lhs) + 4 * b2n (s.bit CLK_CAP_STAT 0))

/-- FORMED of BRT_CHAN_STAT (R220). -/
def State.formed (s : State) : Nat := maskOf ((List.range 8).filter fun n => !(s.berths n).isEmpty)

/-- The part of a 72-bit value that a register of its quay window shows (R10). -/
def quayPart (q : Quay) (k : Nat) : Nat := bits q.toNat (32 * k) 32

/-- What the registers of the SYS, TIM, CLK and PWR windows that are not stored show now. -/
def State.liveSys (s : State) (off : Nat) : Option Nat :=
  if off = TIM_TIDE_LO then some s.tide.number.toNat
  else if off = TIM_TIDE_HI then some (s.tide.number.toNat / 2 ^ 32)
  else if off = TIM_NOW_Q0 then some (quayPart s.now 0)
  else if off = TIM_NOW_Q12 0 then some (quayPart s.now 1)
  else if off = TIM_NOW_Q12 1 then some (quayPart s.now 2)
  else if off = TIM_STAT then some s.timStat
  else if off = TIM_SEC_LO then some s.tod.sec.toNat
  else if off = TIM_SEC_HI then some (s.tod.sec.toNat / 2 ^ 32)
  else if off = TIM_NS then some s.tod.ns
  else if off = TIM_ADJ_LEFT then some (ofSigned 32 s.tod.slew)
  else if off = CLK_STAT then some s.clkStat
  else if off = CLK_LHA_STAT then some (putBits (s.regN CLK_LHA_STAT) 4 2 s.divCode)
  else if off = CLK_SYNC_STAT then some (withBit (s.regN CLK_SYNC_STAT) 0 (s.bit CLK_SYNC_CTRL 0))
  else if off = PWR_TARGET then some s.powerTarget
  else none

/-- The lane whose FIFO window begins at an offset, and the lane and part a register of such a window shows. -/
def fifoLane (off : Nat) : Option Nat := ixOf off (TLY_L_FIFO_Q0 0) 0x100 4
def fifoPart (off : Nat) : Option (Nat × Nat) :=
  match fifoLane off, fifoLane (off - 4), fifoLane (off - 8) with
  | some l, _, _ => some (l, 0)
  | _, some l, _ => some (l, 1)
  | _, _, some l => some (l, 2)
  | _, _, _ => none

/-- What the registers of the measurement blocks that are not stored show now. -/
def State.liveMeas (s : State) (off : Nat) : Option Nat :=
  if off = BRT_CHAN_STAT then some (putBits (s.regN off) 0 8 s.formed)
  else if off = ACQ_QBUF_USED then some (if s.on .acq || s.dom .acq == 3 then s.qbufUsed else 0)
  else if off = WHS_STAT then some s.binsUsed
  else match ixOf off (PLT_ENG_STAT 0) 0x80 8 with
  | some g => some (s.engState g)
  | none =>
  match ixOf off (ACQ_G_RECS 0) 0x80 8 with
  | some g => some (if s.bit (ACQ_G_CFG g) 0 then 0 else s.recs g)
  | none =>
  match ixOf off (DCK_CH_USED 0) 0x100 2 with
  | some n => some (min 127 (s.demand n) + s.dckCap * 2 ^ 8)
  | none =>
  match ixOf off (DCK_CH0_RSV 0) 4 21 with
  | some c => some (s.rsv 0 c)
  | none =>
  match ixOf off (DCK_CH1_RSV 0) 4 21 with
  | some c => some (s.rsv 1 c)
  | none =>
  match ixOf off (TLY_L_STAT 0) 0x100 4 with
  | some l => some (withBit (s.regN off) 8 (s.on .tally && !s.bit TLY_STAT l))
  | none =>
  match fifoPart off with
  | some (l, k) => some (quayPart ((s.lane l).fifo.headD 0) k)
  | none => none

/-- What the registers of the regulation and host blocks that are not stored show now. -/
def State.liveCtl (s : State) (off : Nat) : Option Nat :=
  if off = SLC_STAT then some s.slcStat
  else if off = SLC_SWAP_PEND then some (maskOf ((List.range 8).filter fun n => (s.loop n).swap))
  else if off = SLP_STAT then some s.slipStat
  else if off = BEL_LEVEL 0 then some (maskOf s.levels)
  else if off = BEL_LEVEL 1 then some (maskOf s.levels / 2 ^ 32)
  else if off = BEL_PEND 0 then some (maskOf s.pendSet)
  else if off = BEL_PEND 1 then some (maskOf s.pendSet / 2 ^ 32)
  else if off = CMD_MB_STAT then some s.mbStat
  else if off = CMD_STAT 0 then some (s.cmdStat 0)
  else if off = CMD_STAT 1 then some (s.cmdStat 1)
  else if off = CMD_STAT 2 then some (s.cmdStat 2)
  else if off = PMX_IN then some s.yard.level.toNat
  else if off = TRL_RAW_DATA then some (s.storeWord (s.fld TRL_RAW_ADDR 0 16)).toNat
  else if off = TLY_TBL_DATA then some (s.tblAccess none).1.toNat
  else if off = YRD_LOG_Q0 then some (quayPart (s.yard.log.headD 0) 0)
  else if off = YRD_LOG_Q12 0 then some (quayPart (s.yard.log.headD 0) 1)
  else if off = YRD_LOG_Q12 1 then some (quayPart (s.yard.log.headD 0) 2)
  else match ixOf off (SLC_L_STAT 0) 0x80 8 with
  | some n => some (putBits (s.regN off) 0 2 (s.loopState n))
  | none =>
  match ixOf off (SLC_L_LISTSTAT 0) 0x80 8 with
  | some n => some (s.listStat n)
  | none =>
  match ixOf off (SLP_P_STAT 0) 0x20 8 with
  | some p => some (s.portStat p)
  | none =>
  match ixOf off (BEL_TSTAT 0) 0x10 4 with
  | some t => some (s.tstat t)
  | none => none

/-- The bits of a register that only trigger an action and read as zero (R9). -/
def readMask (r : RegRow) : Nat := 0xFFFFFFFF ^^^ (r.wo &&& (0xFFFFFFFF ^^^ (r.ta ||| r.rw ||| r.rc)))

/-- A register as an access on this edge finds it: its counts without the events of the edge (R14). -/
def State.shown (s : State) (off rc : Nat) : Nat :=
  if wordAt0 s.edge.adds off = 0 then s.regN off
  else (s.regN off &&& (0xFFFFFFFF ^^^ rc)) ||| (wordAt0 s.edge.olds off &&& rc)

/-- The value in force at an offset, without any effect of a read; an unassigned one shows zero (R580). -/
def State.view (s : State) (off : Nat) : Nat :=
  let live := if off < 0x4000 then s.liveSys off else if off < 0x14000 then s.liveMeas off else s.liveCtl off
  match live with
  | some v => v % 2 ^ 32
  | none => match regRow off with
    | some r => s.shown off r.rc &&& readMask r
    | none => 0

/-- The siblings a snapshot register latches (R600). -/
def snSibs (off : Nat) : List Nat :=
  let next := fun n => (List.range n).map fun i => off + 4 * (i + 1)
  if off = TIM_TIDE_LO then next 1
  else if off = TIM_EDGE_Q0 ∨ off = YRD_SNAP_Q0 then next 4
  else if 0x6400 ≤ off ∧ off < 0x8000 then (if off % 0x80 = 0x18 then next 1 else next 5)
  else if 0x10000 ≤ off ∧ off < 0x10600 ∧ off % 0x100 = 0x50 then next 12
  else if 0x1C900 ≤ off ∧ off < 0x1CB00 then next 4
  else next 2

/-- A snapshot register (R600). -/
def isSn (off : Nat) : Bool :=
  match regRow off with
  | some r => r.sn
  | none => false

/-- A register that shows what a snapshot register latched (R600). -/
def isSib (off : Nat) : Bool :=
  (List.range 12).any fun i => 4 * (i + 1) ≤ off && isSn (off - 4 * (i + 1)) && (snSibs (off - 4 * (i + 1))).contains off

/-- The number of a requester (R601). -/
def reqNum : Requester → Nat
  | .pcie => 0
  | .port p => p.val + 1

/-- The latch of a requester at an offset (R601), and an update of it. -/
def State.latch (s : State) (q : Requester) (off : Nat) : Word := smGet (fun _ => 0) s.latches (off + reqNum q)
def State.setLatch (s : State) (q : Requester) (off : Nat) (v : Nat) : State :=
  { s with latches := smSet (fun _ => 0) s.latches (off + reqNum q) (BitVec.ofNat 32 v) }

/-- Latch the siblings of a snapshot register. -/
def State.latchSibs (s : State) (q : Requester) (off : Nat) : State :=
  (snSibs off).foldl (fun t k => t.setLatch q k (s.view k)) s

/-- Clear the fields of a register that a read clears (R9); what events of this edge have counted stays (R14). -/
def State.clearRc (s : State) (off : Nat) : State :=
  match regRow off with
  | some r =>
    if r.rc = 0 then s
    else
      let rest := 0xFFFFFFFF ^^^ r.rc
      (s.setRegN off ((s.regN off &&& rest) ||| (wordAt0 s.edge.adds off &&& r.rc))).modEdge fun e =>
        { e with olds := setWord0 e.olds off (wordAt0 e.olds off &&& rest) }
  | none => s

/-- A read of a register by a requester: its value, with every effect of the read (R9, R472, R600, R601): clearing,
latching, removal from a FIFO, the log or the mailbox output, a claim, and the advance of an address. -/
def State.readReg (s : State) (q : Requester) (off : Nat) : Word × State :=
  let v := BitVec.ofNat 32 (s.view off)
  if off = CMD_MB_OUT then s.mbOut
  else if off = TLY_TBL_DATA then s.tblAccess none
  else if off = TRL_RAW_DATA then s.rawRead
  else match ixOf off (BEL_CLAIM 0) 0x10 4 with
  | some t => s.claim t
  | none =>
    if isSib off then (s.latch q off, s)
    else if isSn off then
      let t := s.latchSibs q off
      match fifoLane off with
      | some l => (v, (t.fifoPop l).2)
      | none => (v, if off = YRD_LOG_Q0 then t.logPop.2 else t)
    else (v, s.clearRc off)

/-- BAR0 is reachable over PCIe (R608): HOST is ON, the link is up and the function is in D0. -/
def State.pcieUp (s : State) : Bool := s.on .host && s.bit FRY_LINK 10 && !s.bit FRY_LINK 9

/-- A single-DW PCIe read of BAR0 (R472): its completion's data stands in `rdata`. -/
def State.pcieRead (s : State) (off : Nat) : State :=
  if s.pcieUp then
    let (v, t) := s.wake.readReg .pcie off
    { t with rdata := v }
  else s

end Sys2Proof.Machine
end

