-- ==== Sys2Proof/Machine/RegCheck.lean ====
section
/-! DEFINITION. The checks of a change of tide-applied fields (R27, R29, R40, R47, R660): the values a register
takes as written, the ranges of its fields, and what the state in force refuses, block by block. -/

namespace Sys2Proof.Machine

/-- A change of some fields of a tide-applied register: the bits of `mask` take those of `val`. `lo` is what the
holding register held, for the three registers of R602. -/
structure Chg where
  off : Nat
  mask : Nat
  val : Nat
  lo : Nat
  deriving DecidableEq, Repr

/-- A change of the field of w bits from bit `lo` of a register. -/
def chg (off lo w v : Nat) : Chg := ⟨off, (2 ^ w - 1) * 2 ^ lo, v % 2 ^ w * 2 ^ lo, 0⟩

/-- A change touches some bit of the field of w bits from bit `lo`. -/
def Chg.hits (c : Chg) (lo w : Nat) : Bool := bits c.mask lo w != 0

/-- The writable tide-applied bits of a register. -/
def taMask (off : Nat) : Nat :=
  match regRow off with
  | some r => r.ta
  | none => 0

/-- A register's value as written: field values that are written as others (R119, R229, R248, R249, R251, R376,
R396, R464, R497, R526). -/
def regCoerce (off w : Nat) : Nat :=
  let at3 := fun lo v => if bits w lo 2 = 3 then putBits w lo 2 v else w
  if 0x6100 ≤ off ∧ off < 0x6140 ∧ off % 8 = 0 then at3 20 2
  else if off = PLT_EFIRE_CFG then (if bits w 16 8 < 4 then putBits w 16 8 4 else w)
  else if off = PLT_TRIGOUT 0 ∨ off = PLT_TRIGOUT 1 then
    let w := at3 0 0
    if bits w 16 16 = 0 then putBits w 16 16 1 else w
  else if (ixOf off (PLT_DIG_SPAN 0) 0x20 8).isSome then max 1 w
  else if (ixOf off (TLY_L_CFG 0) 0x100 4).isSome then at3 8 2
  else if (ixOf off (SLC_L_CFG 0) 0x80 8).isSome then (if (off - SLC_L_CFG 0) / 0x80 % 2 = 1 then putBits w 8 1 0 else w)
  else if (ixOf off (BEL_TGT 0) 0x10 4).isSome then (if bits w 8 7 = 0 then putBits w 8 7 1 else w)
  else if off = FRY_BAR2_BASE then putBits w 0 3 0
  else if off = EMC_CFG then (if bits w 0 2 = 1 then putBits w 4 3 0 else w)
  else if (ixOf off (YRD_ROUTE 0) 4 32).isSome then at3 2 2
  else w

/-- Put a change into the registers, as written. -/
def State.put (s : State) (c : Chg) : State :=
  let w := regCoerce c.off ((s.regN c.off &&& (0xFFFFFFFF ^^^ c.mask)) ||| (c.val &&& c.mask))
  let s := s.setRegN c.off w
  if c.off = CLK_LHA_FCW_HI then s.setRegN CLK_LHA_FCW_NOW_LO c.lo
  else if (ixOf c.off (PLT_ENG_HOLD_HI 0) 0x80 8).isSome || (ixOf c.off (WHS_H_OFS_HI 0) 0x40 8).isSome then
    s.setLow c.off (BitVec.ofNat 32 c.lo)
  else s

/-! ### Ranges (ER 105) -/

/-- A Pilot source code that R228 assigns; one of the timed sources. -/
def pltSrc (c : Nat) : Bool := c ≤ 25
def timedSrc (c : Nat) : Bool := (1 ≤ c && c ≤ 8) || (17 ≤ c && c ≤ 19)

/-- The fields of a Pilot register are in range (R241, R242, R248 to R251). -/
def pltRange (off w : Nat) : Bool :=
  if off = PLT_EFIRE_CFG then bits w 0 7 ≤ 23 && bits w 0 7 != 19
  else if off = PLT_TRIGOUT 0 ∨ off = PLT_TRIGOUT 1 then
    (bits w 0 2 != 1 || bits w 2 7 ≤ 7) && (bits w 0 2 != 2 || timedSrc (bits w 2 7))
  else if off = PLT_TRIGIN 0 ∨ off = PLT_TRIGIN 1 then bits w 12 2 != 3
  else if (ixOf off (PLT_CMP_DLY 0) 8 8).isSome || off = PLT_TRIGIN_DLY 0 || off = PLT_TRIGIN_DLY 1 then bits w 0 20 != 2 ^ 19
  else if (ixOf off (PLT_DIG_CFG 0) 0x20 8).isSome then bits w 4 3 ≤ 4 && bits w 8 2 != 3
  else if (ixOf off (PLT_ENG_CFG 0) 0x80 8).isSome then pltSrc (bits w 8 7) && pltSrc (bits w 16 7)
  else if (ixOf off (PLT_ENG_QUAL 0) 0x80 8).isSome then
    bits w 0 7 ≤ 25 && (bits w 8 1 == 0 || (1 ≤ bits w 0 7 && bits w 0 7 ≤ 18))
  else if (ixOf off (PLT_ENG_HOLD_HI 0) 0x80 8).isSome then bits w 31 1 == 0 || bits w 0 8 == 0
  else true

/-- The fields of a capture, Watermark or Warehouse register are in range (R268, R291, R305, R320). -/
def State.acqRange (t : State) (off w : Nat) : Bool :=
  if off = MAN_DIR_CFG then w != 3
  else if off = MAN_DIR_LEN then 1 ≤ w && w ≤ 2 ^ 24
  else if 0x8100 ≤ off ∧ off < 0x8500 then
    let g := (off - 0x8100) / 0x80
    let k := (off - 0x8100) % 0x80
    if k = 0 then bits w 4 2 != 3 && 1 ≤ bits w 16 4 && bits w 16 4 ≤ 14 && 2 ≤ bits w 20 4
    else if k = 4 ∨ k = 8 then
      t.pre g ≤ 1048576 && t.post g ≤ 2 ^ 32 - 4 && 64 ≤ t.pre g + t.post g && (t.pre g + t.post g) % 4 == 0
    else true
  else if (ixOf off (WMK_G_CFG 0) 0x10 8).isSome then w != 3
  else if (ixOf off (WMK_G_D 0) 0x10 8).isSome then 2 ≤ w && w ≤ 2 ^ 24
  else if (ixOf off (WHS_H_CFG 0) 0x40 8).isSome then
    bits w 0 4 ≤ 11 && 6 ≤ bits w 4 5 && bits w 4 5 ≤ 16 && bits w 14 2 != 3 && 1 ≤ bits w 16 10 && bits w 16 10 ≤ 1000
  else if (ixOf off (WHS_H_OFS_HI 0) 0x40 8).isSome then bits w 16 6 ≤ 47
  else if (ixOf off (WHS_M_CFG 0) 0x40 2).isSome then bits w 8 2 != 3
  else if (ixOf off (WHS_M_SIZE 0) 0x40 2).isSome then
    4 ≤ bits w 0 13 && bits w 0 13 ≤ 4096 && bits w 0 13 % 4 == 0 && 4 ≤ bits w 16 4 && bits w 16 4 ≤ 10
  else if (ixOf off (WHS_M_RATE 0) 0x40 2).isSome then 1 ≤ w && w ≤ 1000000
  else true

/-- The fields of a Tally or knob register are in range (R363, R376). -/
def tlyRange (off w : Nat) : Bool :=
  match ixOf off (TLY_L_CFG 0) 0x100 4 with
  | some l =>
    bits w 0 3 ≤ 5 && bits w 4 4 ≤ 10 && ((bits w 0 3 != 1 && bits w 0 3 != 5) || bits w 12 2 != l)
  | none =>
    if (ixOf off (TLY_L_GATE 0) 0x100 4).isSome then 1 ≤ w && w ≤ 10000000
    else if (ixOf off (TLY_L_STILL 0) 0x100 4).isSome then 1 ≤ w
    else if off = KNB_CFG then 1 ≤ bits w 10 16
    else if off = KNB_SVC then bits w 8 2 != 3
    else if off = KNB_LIM then toSigned 16 (bits w 0 16) ≤ toSigned 16 (bits w 16 16)
    else if (ixOf off (KNB_ACC 0) 4 8).isSome then bits w 16 16 ≤ 32767
    else true

/-- The fields of a register hold values in their ranges (ER 105), as the change leaves them; ranges that depend on
the state at the boundary are among the checks below (R556). -/
def State.regRange (t : State) (off : Nat) : Bool :=
  let w := t.regN off
  if off = SYS_TIDE_LEN then 50 ≤ w && w ≤ 800
  else if off = CLK_LHA_FCW_HI then 0x200000000000 ≤ t.fcw && t.fcw ≤ 0x500000000000
  else if off = CLK_LHS_CFG then bits w 28 2 != 3
  else if 0x6000 ≤ off ∧ off < 0x8000 then pltRange off w
  else if 0x8000 ≤ off ∧ off < 0xC000 then t.acqRange off w
  else if 0x10000 ≤ off ∧ off < 0x14000 then tlyRange off w
  else if off = SLC_MOOR_AFTER then w != 0
  else if (ixOf off (SLC_L_MODE 0) 0x80 8).isSome then w != 3
  else if (ixOf off (SLP_P_CFG 0) 0x20 8).isSome then slipCfgOk w
  else if (ixOf off (SLP_P_PWM 0) 0x20 8).isSome then slipPwmOk w
  else if (ixOf off (SLP_P_PWM2 0) 0x20 8).isSome then slipPwm2Ok w
  else if (ixOf off (PRT_L_CFG 0) 0x40 8).isSome then bits w 16 8 != 0
  else if (ixOf off (BEL_TGT 0) 0x10 4).isSome then bits w 8 7 ≤ 64
  else if off = CMD_UART_DIV then 0x855 ≤ w && w ≤ 0x28B0AB
  else if off = FRY_BAR2_CFG then w != 3
  else if (ixOf off (FRY_R_CFG 0) 0x40 8).isSome then bits w 0 3 ≤ 4 && 4 ≤ bits w 4 4
  else if off = EMC_CFG then bits w 0 2 != 3
  else if off = EMC_SHARE then bits w 0 9 ≤ 256
  else if (ixOf off (YRD_ROUTE 0) 4 32).isSome then srcOk (bits w 4 7)
  else if (ixOf off (YRD_BELL_SEL 0) 4 8).isSome then srcOk w
  else true

/-! ### What the state in force refuses. `s` is the state before the change, `t` the one it would make. -/

/-- SYS_TIDE_LEN (R34). -/
def State.tideCheck (s t : State) : Except Nat Unit := do
  let l := t.regN SYS_TIDE_LEN
  need (!s.anyAuto && !s.on .emica) 203
  need ((List.range 8).all fun n => t.fld (SLC_L_TIME n) 0 10 + 10 ≤ l && t.fld (SLC_L_TIME n) 16 10 + 10 ≤ l) 203
  need (t.fld SLP_CFG 9 2 != 2 || t.fld SLP_CFG 16 10 + 1 ≤ l) 203

/-- The CLK registers (R146, R157, R158, R337). -/
def State.clkCheck (s t : State) (c : Chg) : Except Nat Unit := do
  if c.off = CLK_LHA_FCW_HI then
    need (!s.busyForClock) 203
    t.admitCal
  else if c.off = CLK_LHS_CFG && c.hits 28 2 then
    need (s.dom .lhs == 0) 203
    t.admitCal
  else if c.off = CLK_SYNC_CTRL then need (!(t.bit CLK_SYNC_CTRL 0 && t.bit CLK_SYNC_CTRL 6 && s.busyForClock)) 203

/-- A channel is used by an armed or streaming group, a running accumulation, or a loop in automatic (R198). -/
def State.chanUsed (s : State) (n : Nat) : Bool :=
  ((List.range 8).any fun g => s.grpBusy g && (s.chans g).contains n) ||
  ((List.range 8).any fun h => s.bit (WHS_H_STAT h) 0 && s.fld (WHS_H_CFG h) 0 4 == n) ||
  ((List.range 2).any fun m => s.bit (WHS_M_STAT m) 0 && s.fld (WHS_M_CFG m) 4 3 == n) ||
  ((List.range 8).any fun l => s.loopMode l == 2 && s.inch l == n)

/-- The BRT registers (R198, R211, R337). -/
def State.brtCheck (s t : State) (c : Chg) : Except Nat Unit := do
  if c.off = BRT_ROUTE then
    need ((List.range 8).all fun n => s.berths n == t.berths n || !s.chanUsed n) 203
    need (routeOk t.route) 105
    t.admitCal
  else if (ixOf c.off (BRT_TRIM 0) 4 8).isSome then need (!t.bit BRT_CAL_CTRL 0) 203

/-- Engine g uses a detector as source or qualifier (R250). -/
def State.engSees (s : State) (g src : Nat) : Bool :=
  s.engUses g src || (s.bit (PLT_ENG_QUAL g) 8 && s.fld (PLT_ENG_QUAL g) 0 7 == src)

/-- The PLT registers (R250, R357). -/
def State.pltCheck (s t : State) (off : Nat) : Except Nat Unit := do
  if 0x6200 ≤ off ∧ off < 0x6300 then
    need (!(List.range 8).any fun g => s.grpBusy g && s.engSees g (9 + (off - 0x6200) / 0x20)) 203
  else if 0x6400 ≤ off ∧ off < 0x6800 then need (!s.grpBusy ((off - 0x6400) / 0x80)) 203
  else if off = PLT_EFIRE_CFG then need (!(t.bit PLT_EFIRE_CFG 7 && s.calBusy 4)) 303
  else if off = PLT_TRIGOUT 0 ∨ off = PLT_TRIGOUT 1 then need (!(t.fld off 0 2 == 2 && s.calBusy 4)) 303

/-- The ACQ, MAN and WMK registers (R281, R289, R290, R305). -/
def State.acqCheck (s t : State) (off : Nat) : Except Nat Unit := do
  if off = MAN_DIR_CFG ∨ off = MAN_DIR_BASE ∨ off = MAN_DIR_LEN then
    need (!s.anyArmed) 203
    t.admitCapture
  else if 0x8100 ≤ off ∧ off < 0x8500 then
    need (s.grpState ((off - 0x8100) / 0x80) == 0) 203
    t.admitCapture
  else if 0xA000 ≤ off ∧ off < 0xA080 then need (s.grpState ((off - 0xA000) / 0x10) == 0) 203

/-- The WHS registers (R318): RUN 1 starts, and any other field is refused while the accumulation runs. -/
def State.whsCheck (s t : State) (off : Nat) : Except Nat Unit := do
  if 0xA200 ≤ off ∧ off < 0xA400 then
    let h := (off - 0xA200) / 0x40
    if off = WHS_H_CTRL h then (if t.bit off 0 then s.histStartCheck h else .ok ())
    else need (!s.bit (WHS_H_STAT h) 0 && !(vget s.hists h).held) 203
  else if 0xA400 ≤ off ∧ off < 0xA480 then
    let m := (off - 0xA400) / 0x40
    if off = WHS_M_CTRL m then (if t.bit off 0 then s.mapStartCheck m else .ok ())
    else need (!s.bit (WHS_M_STAT m) 0 && !(vget s.maps m).held) 203

/-- The DCK registers (R337, R566). -/
def State.dckCheck (s t : State) (off : Nat) : Except Nat Unit := do
  if off = DCK_CH_FERRY 0 ∨ off = DCK_CH_FERRY 1 then t.admitCal
  else
    let n := (off - 0xC100) / 0x100
    need (s.dckState n != 2) 203
    if off = DCK_CH_CFG n then need (!s.regions.any fun r => r.1 == n && r.2.2 != 0) 203

/-- The TLY registers (R376): no field of a lane changes while it is RUNNING or CLAIMED. -/
def State.tlyCheck (s : State) (off : Nat) : Except Nat Unit :=
  if 0x10100 ≤ off ∧ off < 0x10500 then need (s.tlyState ((off - 0x10100) / 0x100) == 0) 203 else .ok ()

/-- Loop n or its pair, as it stands or as the change would make it, is in automatic (R409). -/
def State.autoUnit (s t : State) (n : Nat) : Bool :=
  s.loopMode n == 2 || (n % 2 == 0 && t.paired n && s.loopMode (n + 1) == 2)

/-- The registers of loop n (R29, R390, R402, R405, R407 to R409). DESIGN CHOICE (log 70): OUT_PHASE and DEADLINE of a loop
that is not in AUTO take any value; the range 40..L-10 is judged by the change to AUTO (R408). -/
def State.loopCheck (s t : State) (n off : Nat) : Except Nat Unit := do
  if off = SLC_L_MODE n then t.modeCheck n (t.fld off 0 2)
  else if off = SLC_L_CFG n ∨ off = SLC_L_TIME n ∨ off = SLC_L_PORTS n then
    need (!s.autoUnit t n) 203
    need (off != SLC_L_CFG n || t.fld off 12 3 ≤ 5) 105
  else if off = SLC_L_SETP n then
    need (!s.tripped n) 204
    need ((s.loop n).lst.st != 1) 203
  else if off = SLC_L_MANOUT n then need (!s.tripped n) 204
  else if off = SLC_L_OUTMIN n ∨ off = SLC_L_OUTMAX n then
    need (t.sfld (SLC_L_OUTMIN n) 0 20 ≤ t.sfld (SLC_L_OUTMAX n) 0 20) 105
  else if off = SLC_L_ILO n ∨ off = SLC_L_IHI n then need (t.sfld (SLC_L_ILO n) 0 24 ≤ t.sfld (SLC_L_IHI n) 0 24) 105
  else if off = SLC_L_LIST n ∨ off = SLC_L_REPEAT n then
    need ((s.loop n).lst.st != 1) 203
    need (t.fld (SLC_L_LIST n) 0 12 ≤ t.fld (SLC_L_LIST n) 16 12) 105

/-- The SLP registers (R418, R439). -/
def State.slpCheck (s t : State) (c : Chg) : Except Nat Unit := do
  if c.off = SLP_CFG then t.slipCfgCheck (t.regN SLP_CFG)
  else if 0x1C100 ≤ c.off ∧ c.off < 0x1C200 then
    let p := (c.off - 0x1C100) / 0x20
    if c.off = SLP_P_CFG p then
      if c.hits 0 2 then
        if t.portMode p == 2 then needA s .ctrl
        need (t.portMode p != 2 || s.bit CLK_CAP_STAT 0) 401
        need (!s.autoDrives p) 203
      else .ok ()
    else if c.off = SLP_P_FMT p ∨ c.off = SLP_P_PWM p ∨ c.off = SLP_P_PWM2 p then need (!s.autoDrives p) 203

/-- The FRY registers (R494). -/
def State.fryCheck (s : State) (off : Nat) : Except Nat Unit :=
  if 0x24100 ≤ off ∧ off < 0x24300 then need (s.ringState ((off - 0x24100) / 0x40) == 0) 203 else .ok ()

/-- The EMC registers (R509). -/
def State.emcCheck (s t : State) (c : Chg) : Except Nat Unit := do
  if c.off = EMC_MEMBERS || (c.off = EMC_CFG && c.hits 0 7) then
    needA s .emica
    need (t.rigOk && !s.anyShare) 203
  else if c.off = EMC_CFG then need (!s.anyShare) 203

/-- What the state refuses of one change of a list made as one (R27, R40, R89). -/
def State.regCheck (s t : State) (c : Chg) : Except Nat Unit :=
  if c.off = SYS_TIDE_LEN then s.tideCheck t
  else if c.off < 0x4000 then s.clkCheck t c
  else if c.off < 0x6000 then s.brtCheck t c
  else if c.off < 0x8000 then s.pltCheck t c.off
  else if c.off < 0xA100 then s.acqCheck t c.off
  else if c.off < 0xC000 then s.whsCheck t c.off
  else if c.off < 0x10000 then s.dckCheck t c.off
  else if c.off < 0x14000 then s.tlyCheck c.off
  else if 0x14100 ≤ c.off ∧ c.off < 0x14500 then s.loopCheck t ((c.off - 0x14100) / 0x80) c.off
  else if 0x1C000 ≤ c.off ∧ c.off < 0x1C800 then s.slpCheck t c
  else if 0x24000 ≤ c.off ∧ c.off < 0x26000 then s.fryCheck c.off
  else if 0x28000 ≤ c.off ∧ c.off < 0x2A000 then s.emcCheck t c
  else match ixOf c.off (PMX_PIN 0) 4 32 with
  | some n => s.pinCheck t n
  | none => .ok ()

end Sys2Proof.Machine
end

