-- ==== Sys2Proof/Machine/RegWrite.lean ====
section
/-! DEFINITION. Writes of the BAR0 registers (R9, R27, R39, R40, R104, R472, R560, R580, R581, R602): changes of
tide-applied fields and what they do beside the fields, and the writes that act at once. -/

namespace Sys2Proof.Machine

/-- The domain of the block a register belongs to (R179). -/
def regDom (off : Nat) : Dom :=
  if off < 0x1100 then .aon
  else if off < 0x2000 then (if off < 0x1200 then .lha else if off < 0x1300 then .lhs else .ctrl)
  else if off < 0x4000 then .aon
  else if off < 0x6000 then (if 0x4100 ≤ off ∧ off < 0x4180 then berthDom (off / 4 % 8) else .aon)
  else if off < 0x6200 then (if 0x6100 ≤ off ∧ off % 8 = 0 then .ctrl else .aon)
  else if off < 0xC000 then .acq
  else if off < 0x10000 then .dock
  else if off < 0x14000 then .tally
  else if off < 0x20000 then .ctrl
  else if off < 0x24000 then .aon
  else if off < 0x28000 then .host
  else if off < 0x2A000 then .emica
  else .aon

/-! ### What a change of tide-applied fields does. `s0` is the state before the changes, `s` the one with the fields
in place. -/

/-- A change of the routing (R198, R200, R208, R258). -/
def State.routeEffect (s0 s : State) : State :=
  let chs := (List.range 8).filter fun n => s0.berths n != s.berths n
  let s := chs.foldl (fun s n => (((s.chanStop n).matchRestart n).bgZero (s0.berths n ++ s.berths n)).detReset n) s
  s.chansSettle.engsSettle

/-- A change of BRT_CAL_CTRL (R206, R209): a frozen or resumed correction starts with a fresh block. -/
def State.calCtrlEffect (s0 s : State) : State :=
  let moved := fun i => s0.bit BRT_CAL_CTRL i != s.bit BRT_CAL_CTRL i
  (s.cond (moved 1 || moved 2) fun s => foldS (fun s n => s.modChan n (·.noBlock)) (List.range 8) s).skewSettle

/-- What a change of a CLK, BRT or PLT register does. -/
def State.effectLow (s0 s : State) (off : Nat) : State :=
  let old := s0.regN off
  let new := s.regN off
  if off = CLK_LHA_FCW_HI then s.fcwEffect s0.fcw
  else if off = CLK_LHS_CFG then
    s.cond (bits old 28 2 != bits new 28 2) fun s => foldS (fun s n =>
      s.cond (s.dckState n != 0) (·.setFld (DCK_CH_TSTAT n) 0 3 (if s.bit (DCK_CH_TSTAT n) 8 then 5 else 1))) [0, 1] s
  else if off = BRT_ROUTE then s0.routeEffect s
  else if off = BRT_CAL_CTRL then s0.calCtrlEffect s
  else if off = PLT_TRIGOUT 0 ∨ off = PLT_TRIGOUT 1 then
    let j := (off - PLT_TRIGOUT 0) / 4
    s.cond (bits new 0 2 == 0) (·.trigOutOff j)
  else match ixOf off (PLT_CMP 0) 8 8 with
  | some n => s.cond (bits old 0 20 != bits new 0 20 && s.on .ctrl)
      (·.modPlt fun x =>
        { x with settling := BitVec.ofNat 8 (putBits x.settling.toNat n 1 1), settleFrom := vset x.settleFrom n (some s.tideTb) })
  | none =>
  match ixOf off (PLT_DIG_CFG 0) 0x20 8 with
  | some d => s.cond (bits old 0 3 != bits new 0 3 || bits old 4 3 != bits new 4 3) fun s =>
      (s.modDet d fun _ => DetSt.reset).noteLevels s.tide.tb.toNat
  | none => s

/-- What a change of a MAN, WHS, DCK or KNB register does (R281, R308, R315, R341, R380). -/
def State.effectMid (s0 s : State) (off : Nat) : State :=
  let new := s.regN off
  if off = MAN_DIR_CFG ∨ off = MAN_DIR_BASE ∨ off = MAN_DIR_LEN then s.cond (s0.regN off != new) (·.setRegN MAN_DIR_NEXT 0)
  else if off = KNB_SETPOS then (s.setRegN KNB_POS new).modKnob fun x => { x with acc := 0 }
  else match ixOf off (WHS_H_CTRL 0) 0x40 8 with
  | some h => if bits new 0 1 = 1 then s.histStart h (bits new 1 1 == 1)
      else s.cond (s.bit (WHS_H_STAT h) 0) (·.histStop h 1)
  | none =>
  match ixOf off (WHS_M_CTRL 0) 0x40 2 with
  | some m => if bits new 0 1 = 1 then s.mapStart m (bits new 1 1 == 1)
      else s.cond (s.bit (WHS_M_STAT m) 0) (·.mapStop m 1)
  | none =>
  match ixOf off (DCK_CH_CFG 0) 0x100 2 with
  | some n =>
    if bits new 0 1 = 0 then ((s.setFld (DCK_CH_TSTAT n) 0 3 0).setRegN (DCK_CH_SIZE n) 0).setBit DCK_STAT n false
    else s.cond (s0.fld off 0 1 == 0 && s.on .dock) (·.setFld (DCK_CH_TSTAT n) 0 3 1)
  | none => s

/-- What a change of a register of loop n does (R395, R402, R406). -/
def State.effectLoop (s0 s : State) (n off : Nat) : State :=
  if off = SLC_L_MODE n then s0.modeEffect s n
  else if off = SLC_L_SETP n then s.cond ((s.loop n).lst.st == 2) (·.modList n fun x => { x with st := 0 })
  else if off = SLC_L_MANOUT n then s.modLoop n fun x => { x with manNow := true }
  else s

/-- What a change of an SLP or PRT register does (R417, R424, R430). -/
def State.effectSlip (s0 s : State) (c : Chg) : State :=
  let old := s0.regN c.off
  let new := s.regN c.off
  match ixOf c.off (SLP_P_CFG 0) 0x20 8 with
  | some p => s.portModeEffect (s0.portMode p) p
  | none =>
  match ixOf c.off (SLP_P_PWM 0) 0x20 8 with
  | some p => s.cond (s.portMode p == 2 && old != new) (·.pwmRestart true p)
  | none =>
  match ixOf c.off (SLP_P_VALUE 0) 0x20 8 with
  | some p => s.cond (old != new) (·.modPort p fun x => { x with value := true })
  | none =>
  match ixOf c.off (PRT_FAST 0) 4 8 with
  | some n => s.fastEffect old n
  | none => s

/-- What a change of a BEL, CMD, EMC or PMX register does (R72, R73, R131, R463, R517, R522). -/
def State.effectHigh (s0 s : State) (c : Chg) : State :=
  let old := s0.regN c.off
  let new := s.regN c.off
  if c.off = CMD_UART_DIV then { s with cmd := { s.cmd with uartDiv := new, newDiv := none, rates := [] } }
  else if c.off = EMC_MEMBERS || (c.off = EMC_CFG && c.hits 0 2) then s.rigRestart
  else if c.off = EMC_CAL then s.rigOfs
  else if (ixOf c.off (CMD_PCFG 0) 0x40 3).isSome then s.uartKick
  else match ixOf c.off (BEL_TGT 0) 0x10 4 with
  | some t => s.cond (bits old 0 1 == 1 && bits new 0 1 == 0) (·.withdraw t)
  | none =>
  match ixOf c.off (PMX_PIN 0) 4 32 with
  | some n => s.pinEffect old n
  | none => s

/-- What a change does beside its fields. -/
def State.effect (s0 s : State) (c : Chg) : State :=
  if c.off < 0x8000 then s0.effectLow s c.off
  else if c.off < 0x14100 then s0.effectMid s c.off
  else if c.off < 0x14500 then s0.effectLoop s ((c.off - 0x14100) / 0x80) c.off
  else if c.off < 0x20000 then s0.effectSlip s c
  else s0.effectHigh s c

/-- Every change of a list is one the state in force allows, and in range; of several causes the first in the order of R89
is the error, whichever change it comes from (R556). -/
def State.checkAll (s t : State) : List Chg → Except Nat Unit
  | [] => .ok ()
  | c :: cs => bothChecks (bothChecks (s.regCheck t c) (need (t.regRange c.off) 105)) (s.checkAll t cs)

/-- The registers with every change of a list in place. -/
def State.putAll (s : State) (cs : List Chg) : State := cs.foldl State.put s

/-- The state once every change of a list has been made (R27, R40): the fields, and what the changes do beside them. -/
def State.made (s : State) (cs : List Chg) : State :=
  let r := cs.foldl (fun u c => s.effect u c) (s.putAll cs)
  { r with ust := { r.ust with touched := r.ust.touched ++ cs.map Chg.off } }

/-- Changes made as one, where each is allowed (R27, R40). -/
def State.applyChgs (s : State) (cs : List Chg) : UnitR := do
  s.checkAll (s.putAll cs) cs
  .ok (s.made cs)

/-! ### The staged setup (R546) -/

/-- What a holding register of R602 holds now, for the register it belongs to. -/
def State.holding (s : State) (off : Nat) : Word :=
  if off = CLK_LHA_FCW_HI then s.reg CLK_LHA_FCW_LO
  else match ixOf off (PLT_ENG_HOLD_HI 0) 0x80 8 with
  | some g => s.reg (PLT_ENG_HOLD_LO g)
  | none =>
  match ixOf off (WHS_H_OFS_HI 0) 0x40 8 with
  | some h => s.reg (WHS_H_OFS_LO h)
  | none => 0

/-- The domains of some registers are not DRAINING. -/
def needCs (s : State) : List Nat → Except Nat Unit
  | [] => .ok ()
  | o :: t => do
    needC s (regDom o)
    needCs s t

/-- APPLY (R546): its errors carry 2^42, for APPLY_ERR. -/
def State.storeApply (s : State) : UnitR :=
  let cs := s.setupWrites.map fun x => (⟨x.1, taMask x.1, x.2.toNat, (s.holding x.1).toNat⟩ : Chg)
  let r := do
    need (s.bit TRL_STAT 12 && s.storeFree) 203
    needCs s (cs.map Chg.off)
    s.applyChgs cs
  match r with
  | .ok t => .ok (t.setFld TRL_APPLY 16 10 0)
  | .error e => .error (e + 2 ^ 42)

/-! ### Writes of whole registers -/

/-- LIST:RUN of loop n (R179, R406, R568). -/
def State.listRunU (s : State) (n : Nat) : UnitR := do
  needA s .ctrl
  need (!s.tripped n) 204
  .ok (s.listRun n)

/-- LIST:STOP of loop n (R179, R406, R568). -/
def State.listStopU (s : State) (n : Nat) : UnitR := do
  needA s .ctrl
  need ((s.loop n).lst.st == 1) 203
  .ok (s.listHold n)

/-- A staged write takes effect at its boundary (R27, R39, R47): of a tide-applied register, or of SLC_L_LISTCMD (R406).
`lo` is what the holding register held when it was staged (R602). -/
def State.taWrite (s : State) (off w lo : Nat) : UnitR :=
  if off = PWR_TARGET then s.powerWrite w
  else if off = TRL_APPLY then (if bits w 0 1 = 1 then s.storeApply else .ok s)
  else match ixOf off (SLC_L_LISTCMD 0) 0x80 8 with
  | some n =>
    if bits w 0 2 = 1 then s.listRunU n else if bits w 0 2 = 2 then s.listStopU n
    else need (bits w 0 2 = 0) 203 *> .ok s
  | none => s.applyChgs [⟨off, taMask off, w, lo⟩]

/-- A TIM_SET_CTRL.GO with its values (R53, R54). -/
def State.todStage (s : State) (sec : BitVec 48) (ns : Nat) : State :=
  ({ s with tod := { s.tod with setSec := sec, setNs := ns, setSkip := if 999999000 ≤ s.tod.ns then 1 else 0 } }).setBit TIM_STAT 0 true

/-- TIM_SET_CTRL: CANCEL over GO (R53, R54, R57). -/
def State.todSetCtrl (s : State) (w : Nat) : State :=
  if bits w 1 1 = 1 then s.setBit TIM_STAT 0 false
  else if bits w 0 1 = 1 then
    s.todStage (BitVec.ofNat 48 (s.regN TIM_SET_SEC_LO + s.fld TIM_SET_SEC_HI 0 16 * 2 ^ 32)) (s.fld TIM_SET_NS 0 30)
  else s

/-- A slew amount joins the remainder (R55); on the edge of a committing set it is discarded (R63). -/
def State.slewAdd (s : State) (x : Int) : State :=
  if s.tod.setAt = some s.tide.tb then s
  else { s with tod := { s.tod with
           slew := clampInt (-(2 ^ 31 - 1)) (2 ^ 31 - 1) (s.tod.slew + x),
           adjAt := some s.tide.tb, adjSum := x + if s.tod.adjAt = some s.tide.tb then s.tod.adjSum else 0 } }

/-- A SYS_GUARD write (R46). -/
def State.guardStage (s : State) (e : Word) (late : Bool) : State :=
  { s with ust := { s.ust with
      guards := s.ust.guards ++ [⟨s.ust.serial, e, late, true⟩], serial := s.ust.serial + 1 } }

/-- A RESUME of a Lighthouse (R149, R562). -/
def State.resumeU (s : State) (h : Synth) : UnitR := do
  needA s (synthDom h)
  need (s.synthState h == 2) 203
  .ok (s.resumeReq h)

/-- BG_CLEAR (R209). -/
def State.bgClearU (s : State) : UnitR := .ok (s.modBrt fun x => { x with bgClear := true })

/-- SOFT events of a mask and a stamp (R238, R247). -/
def State.softU (s : State) (t : Quay) (m : Nat) : UnitR := .ok ((maskBits 8 m).foldl (fun s g => s.fireSoft t g) s)

/-- Exactly one of the n low bits of a number is set: which one. -/
def oneBit (n w : Nat) : Option Nat :=
  match maskBits n w with
  | [i] => some i
  | _ => none

/-- An arm, a disarm, a start, and a stop of group g (R265, R275, R288). -/
def State.armU (s : State) (g : Nat) : UnitR := do
  s.armCheck g
  .ok (s.arm g)
def State.disarmU (s : State) (g : Nat) : UnitR := do
  needA s .acq
  s.disarmCheck g
  .ok (s.disarmGrp g).engsSettle
def State.startU (s : State) (g : Nat) : UnitR := do
  s.startCheck g
  .ok (s.streamStart g)
def State.stopU (s : State) (g : Nat) : UnitR := do
  needA s .acq
  s.stopCheck g
  .ok (s.streamStop g).engsSettle

/-- A flush request for histogram h (R312). -/
def State.flushU (s : State) (h : Nat) : UnitR := do
  needA s .acq
  need (s.bit (WHS_H_STAT h) 0) 203
  .ok (s.histFlush h)

/-- A TRAIN of a Dock channel (R330). -/
def State.trainU (s : State) (n : Nat) : UnitR := do
  s.trainCheck n
  .ok (s.trainStart n)

/-- A calibration of the lanes of a mask (R357). -/
def State.calU (s : State) (m : Nat) : UnitR := do
  s.calCheck m
  .ok (s.calStart m)

/-- A LOAD of the lanes of a mask (R358). -/
def State.loadU (s : State) (m : Nat) : UnitR := do
  needA s .tally
  .ok ((maskBits 6 m).foldl (fun s l => s.tblLoad l) s)

/-- A start and a stop of a Tally lane (R368). -/
def State.tlyStartU (s : State) (l : Nat) : UnitR := do
  s.tlyStartCheck l
  .ok (s.tlyStart l)
def State.tlyStopU (s : State) (l : Nat) : UnitR := do
  s.tlyStopCheck l
  .ok (s.tlyHalt l)

/-- A write of SLC_SWAP, and of SLC_STEP (R404, R406). -/
def State.swapWrite (s : State) (m : Nat) : UnitR := do
  needA s .ctrl
  .ok (s.stageSwap m)
def State.stepWrite (s : State) (m : Nat) : UnitR := do
  needA s .ctrl
  let (bad, t) := s.stageStep m
  .ok (if bad.isEmpty then t else t.ignore)

/-- CLEAR and MOOR of masks of loops, as PRT_CMD takes them (R434). -/
def State.prtU (s : State) (clear moor : Nat) : UnitR := do
  needA s .ctrl
  .ok (s.prtCmd clear moor)

/-- START, STOP, RESUME and a post of a ring (R486, R493). -/
def State.ringStartU (s : State) (r : Nat) : UnitR := do
  s.fryStartCheck r
  .ok (s.fryStart r)
def State.ringStopU (s : State) (r : Nat) : UnitR := do
  s.fryStopCheck r
  .ok (s.fryStop r)
def State.ringResumeU (s : State) (r : Nat) : UnitR := do
  s.fryResumeCheck r
  .ok (s.fryResume r)
def State.postU (s : State) (r n : Nat) : UnitR := do
  needA s .host
  need (s.ringState r != 0) 203
  need (n ≤ s.ringSize r) (argErr 2)
  .ok (s.fryPost r n)

/-- A pulse command of the master (R510, R520, R523), and SHCLR (R516). -/
def State.emcPulseU (s : State) (k : Nat) : UnitR := do
  s.pulseCheck k
  .ok (s.pulseReq k)
def State.shclrU (s : State) : UnitR := do
  needA s .emica
  .ok s.shClear

/-- A save, recall or verify as TRL_CMD names it (R541 to R549): a refusal is kept in CMD_ERR. -/
def State.storeU (s : State) (op rec : Nat) (trim : Bool) : UnitR := do
  need (rec < 22) 105
  s.storeCheck op rec
  .ok (if op = opSave then s.saveStart rec else if op = opRecall then s.recallStart rec trim else s.verifyStart (some rec))

/-- A TRL_CMD write (R547, R549). -/
def State.trlCmd (s : State) (w : Nat) : State :=
  let op := match bits w 8 1, bits w 9 1, bits w 11 1 with
    | 1, 0, 0 => opSave
    | 0, 1, 0 => opRecall
    | 0, 0, 1 => opVerify
    | _, _, _ => 0
  let trim := bits w 10 1 == 1
  if op = 0 || (trim && op != opRecall) then s.ignore
  else match s.storeU op (bits w 0 5) trim with
    | .ok t => t
    | .error e => (s.ignore.noteRefusal e).setFld TRL_STAT 20 10 (errCode e)

/-- A write of an action register (access WO) with its action on arrival, or its refusal. -/
def State.woSys (s : State) (off w : Nat) : UnitR :=
  if off = TIM_SET_CTRL then .ok (s.todSetCtrl w)
  else if off = TIM_ADJ then .ok (s.slewAdd (toSigned 32 w))
  else if off = SYS_ABORT then .ok (if bits w 0 1 = 1 then s.takeAbort else s)
  else if off = SYS_RESET then need (bits w 0 1 == 1 && bits w 16 16 == 0x5A17) 203 *> .ok (s.assertReset 3)
  else if off = CLK_LHA_CTRL then (if bits w 0 1 = 1 then s.resumeU .lha else .ok s)
  else if off = CLK_LHS_CTRL then (if bits w 0 1 = 1 then s.resumeU .lhs else .ok s)
  else if off = BRT_CAL_CMD then (if bits w 0 1 = 1 then s.bgClearU else .ok s)
  else if off = PLT_SOFT then s.softU s.now w
  else if off = TLY_CAL_CMD then do
    let s ← if bits w 0 6 = 0 then .ok s else s.calU (bits w 0 6)
    if bits w 8 6 = 0 then .ok s else s.loadU (bits w 8 6)
  else if off = SLC_SWAP then s.swapWrite w
  else if off = SLC_STEP then s.stepWrite w
  else if off = PRT_CMD then s.prtU (bits w 0 8) (bits w 8 8)
  else if off = CMD_MB_IN then .ok (s.mbIn (BitVec.ofNat 32 w))
  else if off = EMC_CMD then
    match oneBit 4 w with
    | some 3 => s.shclrU
    | some k => s.emcPulseU k
    | none => need (bits w 0 4 == 0) 203 *> .ok s
  else if off = TRL_CMD then .ok (s.trlCmd w)
  else if off = YRD_PULSE then .ok ((maskBits 8 w).foldl (fun s j => s.raise (64 + j)) s)
  else .ok s

/-- The same for the action registers that repeat over an index. -/
def State.woWrite (s : State) (off w : Nat) : UnitR :=
  match ixOf off (ACQ_G_CMD 0) 0x80 8 with
  | some g =>
    match oneBit 4 w with
    | some 0 => s.armU g
    | some 1 => s.disarmU g
    | some 2 => s.startU g
    | some _ => s.stopU g
    | none => need (bits w 0 4 == 0) 203 *> .ok s
  | none =>
  match ixOf off (WHS_H_CMD 0) 0x40 8 with
  | some h => if bits w 0 1 = 1 then s.flushU h else .ok s
  | none =>
  match ixOf off (DCK_CH_CMD 0) 0x100 2 with
  | some n => if bits w 0 1 = 1 then s.trainU n else .ok s
  | none =>
  match ixOf off (TLY_L_CMD 0) 0x100 4 with
  | some l =>
    match bits w 0 2 with
    | 1 => s.tlyStartU l
    | 2 => s.tlyStopU l
    | 0 => .ok s
    | _ => .error 203
  | none =>
  match ixOf off (BEL_COMPLETE 0) 0x10 4 with
  | some t => .ok (s.complete t (bits w 0 6))
  | none =>
  match ixOf off (FRY_R_CMD 0) 0x40 8 with
  | some r =>
    match oneBit 3 w with
    | some 0 => s.ringStartU r
    | some 1 => s.ringStopU r
    | some _ => s.ringResumeU r
    | none => need (bits w 0 3 == 0) 203 *> .ok s
  | none =>
  match ixOf off (FRY_R_POST 0) 0x40 8 with
  | some r => s.postU r (bits w 0 16)
  | none => s.woSys off w

/-- A change of TIM_PPS_CTRL.EN starts or stops the discipline (R56). -/
def State.ppsCtrl (s : State) (was : Bool) : State :=
  if s.bit TIM_PPS_CTRL 0 == was then s else { s with tod := { s.tod with ppsLast := none, ppsFrom := s.tide.tb, ppsSlews := 0 } }

/-- A write of a register with plain read and write fields (access RW), on the edge of the write. -/
def State.rwWrite (s : State) (r : RegRow) (off w : Nat) : UnitR :=
  let put := fun (m w : Nat) => s.setRegN off ((s.regN off &&& (0xFFFFFFFF ^^^ m)) ||| (w &&& m))
  match bankOf off with
  | some (n, b, place) => do
    need (place == 0x7C || s.bankFree n b) 203
    .ok (s.setRegN off (bankCoerce place w))
  | none =>
    if off = TLY_TBL_DATA then .ok (s.tblAccess (some (bits w 0 16))).2
    else if off = TLY_TBL_SEL then need (bits w 0 8 ≤ 191 && bits w 8 3 ≤ 5) 105 *> .ok (put r.rw w)
    else if off = TIM_SET_NS then .ok (put r.rw (min 999999999 (bits w 0 30)))
    else if off = BEL_EN 1 then .ok (put 0xFFFF w)
    else if off = TIM_PPS_CTRL then .ok ((put r.rw w).ppsCtrl (s.bit TIM_PPS_CTRL 0))
    else .ok (put r.rw w)

/-- Flags a write of ones clears (R9), but for those an event of this edge has set (R13). -/
def State.w1c (s : State) (r : RegRow) (off w : Nat) : State :=
  if r.w1c = 0 then s
  else s.setRegN off (s.regN off &&& ((0xFFFFFFFF ^^^ (w &&& r.w1c)) ||| wordAt0 s.edge.sets off))

/-- A write without tide-applied fields acts at once: flags clear, plain fields change, an action is taken. -/
def State.direct (s : State) (r : RegRow) (off w : Nat) : UnitR := do
  let s := s.w1c r off w
  let s ← if r.rw = 0 then .ok s else s.rwWrite r off w
  if r.wo = 0 then .ok s else s.woWrite off w

/-- A write whose register takes it at a tide boundary: a tide-applied one, or SLC_L_LISTCMD (R406). -/
def stages (r : RegRow) (off : Nat) : Bool := r.ta != 0 || (ixOf off (SLC_L_LISTCMD 0) 0x80 8).isSome

/-- A unit's result, with a refusal ignored and counted (R47). -/
def State.orIgnore (s : State) (r : UnitR) : State :=
  match r with
  | .ok t => t
  | .error e => s.ignore.noteRefusal e

/-- A staged write gives way to a later one of the same tide-applied register made within its tide, due at the same boundary
(R15, log 18). -/
def State.replaced (s : State) (off : Nat) (x : StagedWrite) : Bool :=
  x.off == off && (taMask off != 0) && x.tide == s.tide.number && x.late == s.lateNow

/-- Stage a PCIe write (R15, R39, R43, R46, R602). -/
def State.stageWrite (s : State) (off : Nat) (v : Word) : State :=
  let cover := (s.ust.guards.filter (·.open_)).map (·.serial)
  { s with ust := { s.ust with
      writes := (s.ust.writes.filter fun x => !s.replaced off x) ++
        [⟨off, v, s.holding off, s.lateNow, cover, s.tide.number⟩] } }

/-- A single-DW PCIe write of BAR0 on the RCLK edge at which it arrives (R39, R472, R580, R581). -/
def State.pcieWrite (s : State) (off : Nat) (v : Word) (be : BitVec 4) : State :=
  if !s.pcieUp then s
  else
    let s := s.wake
    if be != 15 then s.ignore
    else match regRow off with
      | none => s.badAddr off
      | some r =>
        if off = SYS_GUARD then s.guardStage v s.lateNow
        else if stages r off then s.stageWrite off v
        else if r.rw ||| r.w1c ||| r.wo = 0 then s.badAddr off
        else s.orIgnore (s.direct r off v.toNat)

/-! ### REG (R104, R560) -/

/-- The error REG answers with (R560): 105 for a value out of range, 203 otherwise. -/
def regErr (e : Nat) : Nat := if errCode e = 105 then argErr 2 else e - errCode e + 203

/-- A write of a register that acts on arrival, refused with ER 203 where the PCIe write would be counted (R560). -/
def State.directReg (s : State) (r : RegRow) (off w : Nat) : UnitR := do
  let t ← (s.setRegN SYS_IGNORED 0).direct r off w
  need (t.regN SYS_IGNORED == 0) 203
  .ok (if t.pwr.held then t else t.setRegN SYS_IGNORED (s.regN SYS_IGNORED))

/-- A `REG` unit at its commit edge (R46, R104, R560). -/
def State.regU (s : State) (off v : Nat) : UnitR :=
  if off % 4 ≠ 0 ∨ 0x40000 ≤ off then .error (argErr 1)
  else if 0x22000 ≤ off ∧ off < 0x24000 then .error 203
  else match regRow off with
    | none => .error 203
    | some r =>
      let w := v % 2 ^ 32
      let res := do
        needC s (regDom off)
        if off = SYS_GUARD then .ok (s.guardStage (BitVec.ofNat 32 w) false)
        else if stages r off then s.taWrite off w (s.holding off).toNat
        else if r.rw ||| r.w1c ||| r.wo = 0 then .error 203
        else s.directReg r off w
      match res with
      | .ok t => .ok { t with ust := { t.ust with touched := t.ust.touched ++ [off] } }
      | .error e => if errCode e = 201 ∨ errCode e = 202 then (if (needC s (regDom off)).isOk then .error (regErr e) else .error e) else .error (regErr e)

end Sys2Proof.Machine
end

