-- ==== Sys2Proof/Machine/Row.lean ====
section
/-! DEFINITION. What every row does around its own effect: the reset and RCLK it needs, the events, interrupts and
snapshots that follow it on the same edge, and the answer of a Damisk line of one unit. -/

namespace Sys2Proof.Machine

/-- What exec answers. -/
abbrev Out := Host.Outcome State Fault Refusal

/-- What follows the changes a row makes on its edge: a save that waits takes its snapshot (R541), the engines of groups that have
ended stop (R246), and the Bell follows its sources (R454, R462). The events they raised register as the edge ends (R121). -/
def State.settle (s : State) : State :=
  let s := s.saveSnap.engsSettle.bellSettle
  { s with ust := { s.ust with touched := [] } }

/-- RCLK runs and no unit reset is asserted: register writes, commands and ledger actions take place (R67, R182). -/
def State.live (s : State) : Bool := !s.pwr.held && s.tide.rclk

/-- A row that acts on RCLK: its effect and what follows it, or nothing without RCLK. -/
def State.row (s : State) (f : State → State) : Out := .next (if s.live then (f s).settle else s)

/-- Answer a line of one unit: its response stands in the queue of its port (R91). -/
def State.answer (s : State) (p : Fin 3) (r : Resp) : State := s.enqueue p ⟨none, .answered r, true⟩

/-- A line has committed: STATE_EPOCH advances and the response is OK (R44, R92). -/
def State.okLine (s : State) (p : Fin 3) : State := s.bumpEpoch.answer p (.ok [])

/-- The line of a port has made its changes: a reset gives no response (R183), and a mailbox that HOST's draining has closed
discards it (R113). -/
def State.done (t : State) (p : Fin 3) : State :=
  if t.pwr.held then t else if t.portUp p then t.okLine p else t.bumpEpoch.discard .host 1

/-- A line with an error (R92). -/
def State.fail (s : State) (p : Fin 3) (code arg : Nat) : State := (s.setErr p code 1 arg).answer p (.er code true)

/-- A line arrives at a port: nothing happens at one that is not there (R113), and at a full queue it is discarded (R97). -/
def State.lineAt (s : State) (p : Fin 3) (f : State → State) : State :=
  if !s.portUp p then s
  else if 16 ≤ (s.port p).lines then (s.setPort p { s.port p with owed := true }).count (CMD_DROP p) 1
  else f s

/-- A line of one command commits (R37, R40, R44, R88, R92): `bad` is the argument out of range, if any. -/
def State.command (s : State) (p : Fin 3) (bad : Option Nat) (u : State → UnitR) : State :=
  s.lineAt p fun s => match bad with
  | some k => s.fail p 105 k
  | none => match u s with
    | .ok t => t.okLine p
    | .error e => (s.noteRefusal e).fail p (errCode e) (errArg e)

/-- The same for a line that may reset the unit or close its own port. -/
def State.ctlCommand (s : State) (p : Fin 3) (bad : Option Nat) (u : State → UnitR) : State :=
  s.lineAt p fun s => match bad with
  | some k => s.fail p 105 k
  | none => match u s with
    | .ok t => t.done p
    | .error e => (s.noteRefusal e).fail p (errCode e) (errArg e)

/-- What a query gives: its values, and the state it leaves (R90). -/
abbrev Ans := List RVal × State

/-- A line of one query is answered (R90, R92). -/
def State.query (s : State) (p : Fin 3) (bad : Option Nat) (q : State → Ans) : State :=
  s.lineAt p fun s => match bad with
  | some k => s.fail p 105 k
  | none => (q s).2.answer p (.ok [(q s).1])

/-- The rows of a one-unit line. -/
def State.cmdRow (s : State) (p : Fin 3) (bad : Option Nat) (u : State → UnitR) : Out := s.row fun s => s.command p bad u
def State.ctlRow (s : State) (p : Fin 3) (bad : Option Nat) (u : State → UnitR) : Out := s.row fun s => s.ctlCommand p bad u
def State.qryRow (s : State) (p : Fin 3) (bad : Option Nat) (q : State → Ans) : Out := s.row fun s => s.query p bad q

/-! ### What units are made of -/

/-- A configuration command of a domain (kind C of R555): its changes, made as one. -/
def State.cfg (s : State) (d : Dom) (cs : List Chg) : UnitR := do
  needC s d
  s.applyChgs cs

/-- Note that a unit has set a register (R45). -/
def State.touch (s : State) (off : Nat) : State := { s with ust := { s.ust with touched := s.ust.touched ++ [off] } }

/-- The change of an optional argument; none keeps the field. -/
def chgN (off lo w : Nat) : Option Nat → List Chg
  | some v => [chg off lo w v]
  | none => []
def chgB (off lo : Nat) : Option Bool → List Chg
  | some v => [chg off lo 1 (b2n v)]
  | none => []
def chgZ (off lo w : Nat) : Option Int → List Chg
  | some v => [chg off lo w (ofSigned w v)]
  | none => []

/-- A change of a signed field. -/
def chgI (off lo w : Nat) (v : Int) : Chg := chg off lo w (ofSigned w v)

/-- EDGE and SLOPE codes: 0 rise, 1 fall, 2 both. -/
def edgeCode : Edge3 → Nat
  | .rise => 0 | .fall => 1 | .both => 2
def chgE (off lo : Nat) : Option Edge3 → List Chg
  | some e => [chg off lo 2 (edgeCode e)]
  | none => []

/-- Values printed from registers (R558): a register with its eight digits, a field or count in decimal, a signed field,
a quay window. -/
def State.hx (s : State) (off : Nat) : RVal := .hex 8 (s.view off)
def State.nm (s : State) (off : Nat) : RVal := .dec (s.view off)
def State.fv (s : State) (off lo w : Nat) : RVal := .dec (bits (s.view off) lo w)
def State.zv (s : State) (off lo w : Nat) : RVal := .dec (toSigned w (bits (s.view off) lo w))
def State.qv (s : State) (off : Nat) : RVal := .hex 18 (s.reg72 off).toNat

/-- A query that leaves the state as it is, and one that clears registers (R90). -/
def State.ans (s : State) (vs : List RVal) : Ans := (vs, s)
def State.ansClr (s : State) (offs : List Nat) (vs : List RVal) : Ans := (vs, offs.foldl State.clearRc s)

/-- The word of a code: the n-th of a list, else its number. -/
def wordAt (ws : List String) (n : Nat) : RVal := (ws[n]?).elim (.dec n) .word

/-- The word a name list gives a code. -/
def wordOf (ws : List (String × Nat)) (n : Nat) : RVal :=
  match ws.find? (·.2 == n) with
  | some x => .word x.1
  | none => .dec n

/-- A unit for each object of a list, in order, each on the state the ones before it leave; of several refused ones the first
error in the order of R89 stands. -/
def eachU (u : State → Nat → UnitR) : List Nat → State → UnitR
  | [], s => .ok s
  | k :: t, s => match u s k with
    | .ok s => eachU u t s
    | .error e => match eachU u t s with
      | .ok _ => .error e
      | .error f => .error (firstErr e f)

/-- The objects a list names, each once (R557); ALL names those of `all`, and ER 203 where there are none. -/
def selObjs (all : List Nat) : Sel → Except Nat (List Nat)
  | .all => if all.isEmpty then .error 203 else .ok all
  | .list ns => .ok ns.eraseDups

/-- The mask of some objects. -/
def maskOfSel (ns : List Nat) : Nat := maskOf ns.eraseDups

end Sys2Proof.Machine
end

