-- ==== Sys2Proof/Machine/CmdAcq.lean ====
section
/-! DEFINITION. The ACQ, ARM, SEG, STREAM and WMARK rows (R565). -/

namespace Sys2Proof.Machine

/-- The words of R264 and of END. -/
def grpStateWord : Nat → RVal :=
  wordAt ["IDLE", "ARMED_FILLING", "ARMED_READY", "CAPTURING", "STREAMING", "CLOSING"]
def endWord : Nat → RVal :=
  wordAt ["NONE", "COUNT", "FULL", "DISARM", "STOP", "CLOCK_FAULT", "POWER_DOWN", "ABORTED"]
def memWord : Nat → RVal := wordAt ["DOCK0", "DOCK1", "QBUF"]

def State.acqGroupU (s : State) (g : Nat) (stream : Bool) (mask : Nat) : UnitR :=
  s.cfg .acq [chg (ACQ_G_CFG g) 0 1 (b2n stream), chg (ACQ_G_CFG g) 8 8 mask]
def State.acqGroupQ (s : State) (g : Nat) : Ans :=
  s.ans [wordAt ["SEGMENT", "STREAM"] (s.fld (ACQ_G_CFG g) 0 1), s.fv (ACQ_G_CFG g) 8 8, grpStateWord (s.grpState g)]
def State.acqMemU (s : State) (g : Nat) (mem : Mem) (base size : Nat) : UnitR :=
  s.cfg .acq [chg (ACQ_G_CFG g) 4 2 (memCode mem), chg (ACQ_G_BASE g) 0 32 base, chg (ACQ_G_SIZE g) 0 32 size]
def State.acqDisarmU (s : State) (g : Nat) : UnitR := s.disarmU g
def State.acqStatQ (s : State) (g : Nat) : Ans :=
  s.ansClr [ACQ_G_REJ g] [grpStateWord (s.grpState g), endWord (s.fld (ACQ_G_STAT g) 4 3), s.nm (ACQ_G_SEGS g), s.nm (ACQ_G_REJ g)]

/-- A time of n time-stamp LSB in femtoseconds (R48): an LSB is 2 ns / 65 536, rounded to nearest. -/
def stampFs (n : Int) : Int := roundDiv (n * 2000000) 65536
def State.acqDeadQ (s : State) (g : Nat) : Ans := s.ans [.secs (stampFs (s.reg72 (ACQ_G_DEADSUM_Q0 g)).toNat)]

/-- `ARM` (R265): ALL names the IDLE segment groups. -/
def State.armsU (s : State) (gs : Sel) : UnitR := do
  needA s .acq
  let ns ← selObjs ((List.range 8).filter fun g => s.grpState g == 0 && !s.bit (ACQ_G_CFG g) 0) gs
  eachU State.armU ns s

def State.segLenU (s : State) (g pre post : Nat) : UnitR := s.cfg .acq [chg (ACQ_G_PRE g) 0 21 pre, chg (ACQ_G_POST g) 0 32 post]
def State.segOverlapU (s : State) (g : Nat) (on : Bool) : UnitR := s.cfg .acq [chg (ACQ_G_CFG g) 1 1 (b2n on)]
def State.segBufU (s : State) (g : Nat) (ring : Bool) (count : Nat) : UnitR :=
  s.cfg .acq [chg (ACQ_G_CFG g) 2 1 (b2n ring), chg (ACQ_G_COUNT g) 0 32 count]
def State.segDirU (s : State) (mem : Mem) (base len : Nat) : UnitR :=
  s.cfg .acq [chg MAN_DIR_CFG 0 2 (memCode mem), chg MAN_DIR_BASE 0 32 base, chg MAN_DIR_LEN 0 25 len]
def State.segDirQ (s : State) : Ans :=
  s.ans [memWord s.dirMem, s.nm MAN_DIR_BASE, s.nm MAN_DIR_LEN, s.nm MAN_DIR_NEXT, s.nm MAN_DIR_WRAPS]
def State.segSeqQ (s : State) : Ans := s.ans [s.nm MAN_SEQ]

def State.streamSrcU (s : State) (g : Nat) (wmark : Bool) : UnitR := s.cfg .acq [chg (ACQ_G_CFG g) 3 1 (b2n wmark)]
def State.streamBlockU (s : State) (g log2 nbuf : Nat) : UnitR :=
  s.cfg .acq [chg (ACQ_G_CFG g) 16 4 log2, chg (ACQ_G_CFG g) 20 4 nbuf]
def State.streamStartU (s : State) (g : Nat) : UnitR := s.startU g
def State.streamStopU (s : State) (g : Nat) : UnitR := s.stopU g
def State.streamGapQ (s : State) (g : Nat) : Ans :=
  s.ansClr [ACQ_G_DROP g, ACQ_G_MARKLOST g] [s.nm (ACQ_G_DROP g), s.nm (ACQ_G_MARKLOST g)]

/-- MODE of a decimator (R301). -/
def wmkCode : WmkMode → Nat
  | .minmax => 0 | .mean => 1 | .pick => 2
def State.wmarkSetU (s : State) (g : Nat) (mode : WmkMode) (d : Nat) : UnitR :=
  s.cfg .acq [chg (WMK_G_CFG g) 0 2 (wmkCode mode), chg (WMK_G_D g) 0 25 d]
def State.wmarkSetQ (s : State) (g : Nat) : Ans :=
  s.ans [wordAt ["MINMAX", "MEAN", "PICK"] (s.wmkMode g), .dec (s.wmkD g)]

/-! ### The rows -/

/-- R261. ACQ:GROUP sets a group's mode and channel mask. -/
def execAcqGroup (p : Fin 3) (g : Nat) (stream : Bool) (mask : Nat) (s : State) : Out :=
  s.cmdRow p (argsBad (.acqGroup p g stream mask)) (·.acqGroupU g stream mask)

/-- R565. ACQ:GROUP? returns a group's mode, mask and state. -/
def execAcqGroupQuery (p : Fin 3) (g : Nat) (s : State) : Out :=
  s.qryRow p (argsBad (.acqGroupQuery p g)) (·.acqGroupQ g)

/-- R272. ACQ:MEM sets a group's memory, base and size. -/
def execAcqMem (p : Fin 3) (g : Nat) (mem : Mem) (base : Nat) (size : Nat) (s : State) : Out :=
  s.cmdRow p (argsBad (.acqMem p g mem base size)) (·.acqMemU g mem base size)

/-- R275. ACQ:DISARM disarms a segment group. -/
def execAcqDisarm (p : Fin 3) (g : Nat) (s : State) : Out :=
  s.cmdRow p (argsBad (.acqDisarm p g)) (·.acqDisarmU g)

/-- R565. ACQ:STAT? returns a group's state and counts and clears REJ. -/
def execAcqStatQuery (p : Fin 3) (g : Nat) (s : State) : Out :=
  s.qryRow p (argsBad (.acqStatQuery p g)) (·.acqStatQ g)

/-- R270. ACQ:DEAD? returns the cumulative dead time. -/
def execAcqDeadQuery (p : Fin 3) (g : Nat) (s : State) : Out :=
  s.qryRow p (argsBad (.acqDeadQuery p g)) (·.acqDeadQ g)

/-- R265. ARM arms the named segment groups at the commit. -/
def execArm (p : Fin 3) (gs : Sel) (s : State) : Out :=
  s.cmdRow p (argsBad (.arm p gs)) (·.armsU gs)

/-- R268. SEG:LEN sets P and Q. -/
def execSegLen (p : Fin 3) (g : Nat) (pre : Nat) (post : Nat) (s : State) : Out :=
  s.cmdRow p (argsBad (.segLen p g pre post)) (·.segLenU g pre post)

/-- R269. SEG:OVERLAP sets OVERLAP. -/
def execSegOverlap (p : Fin 3) (g : Nat) (on : Bool) (s : State) : Out :=
  s.cmdRow p (argsBad (.segOverlap p g on)) (·.segOverlapU g on)

/-- R273. SEG:BUF sets LINEAR or RING mode and COUNT. -/
def execSegBuf (p : Fin 3) (g : Nat) (ring : Bool) (count : Nat) (s : State) : Out :=
  s.cmdRow p (argsBad (.segBuf p g ring count)) (·.segBufU g ring count)

/-- R281. SEG:DIR sets the directory memory, base and length. -/
def execSegDir (p : Fin 3) (mem : Mem) (base : Nat) (len : Nat) (s : State) : Out :=
  s.cmdRow p (argsBad (.segDir p mem base len)) (·.segDirU mem base len)

/-- R565. SEG:DIR? returns the directory settings, NEXT and WRAPS. -/
def execSegDirQuery (p : Fin 3) (s : State) : Out :=
  s.qryRow p (argsBad (.segDirQuery p)) (·.segDirQ)

/-- R279. SEG:SEQ? returns MAN_SEQ. -/
def execSegSeqQuery (p : Fin 3) (s : State) : Out :=
  s.qryRow p (argsBad (.segSeqQuery p)) (·.segSeqQ)

/-- R282. STREAM:SRC sets a stream group's source to RAW or WMARK. -/
def execStreamSrc (p : Fin 3) (g : Nat) (wmark : Bool) (s : State) : Out :=
  s.cmdRow p (argsBad (.streamSrc p g wmark)) (·.streamSrcU g wmark)

/-- R284. STREAM:BLOCK sets BLOCK_LOG2 and NBUF. -/
def execStreamBlock (p : Fin 3) (g : Nat) (log2 : Nat) (nbuf : Nat) (s : State) : Out :=
  s.cmdRow p (argsBad (.streamBlock p g log2 nbuf)) (·.streamBlockU g log2 nbuf)

/-- R265. STREAM:START starts a stream group. -/
def execStreamStart (p : Fin 3) (g : Nat) (s : State) : Out :=
  s.cmdRow p (argsBad (.streamStart p g)) (·.streamStartU g)

/-- R288. STREAM:STOP stops a stream group. -/
def execStreamStop (p : Fin 3) (g : Nat) (s : State) : Out :=
  s.cmdRow p (argsBad (.streamStop p g)) (·.streamStopU g)

/-- R565. STREAM:GAP? returns and clears the drop and mark-lost counts. -/
def execStreamGapQuery (p : Fin 3) (g : Nat) (s : State) : Out :=
  s.qryRow p (argsBad (.streamGapQuery p g)) (·.streamGapQ g)

/-- R305. WMARK:SET sets a decimator's mode and ratio. -/
def execWmarkSet (p : Fin 3) (g : Nat) (mode : WmkMode) (d : Nat) (s : State) : Out :=
  s.cmdRow p (argsBad (.wmarkSet p g mode d)) (·.wmarkSetU g mode d)

/-- R565. WMARK:SET? returns a decimator's mode and ratio. -/
def execWmarkSetQuery (p : Fin 3) (g : Nat) (s : State) : Out :=
  s.qryRow p (argsBad (.wmarkSetQuery p g)) (·.wmarkSetQ g)

end Sys2Proof.Machine
end

