-- ==== Sys2Proof/Machine/CmdBell.lean ====
section
/-! DEFINITION. The BELL and FERRY rows (R570). -/

namespace Sys2Proof.Machine

/-! ### BELL -/

def State.bellEnU (s : State) (n : Nat) (on : Bool) : UnitR :=
  .ok ((s.setBit (BEL_EN (n / 32)) (n % 32) on).touch (BEL_EN (n / 32)))
def State.bellEnQ (s : State) : Ans := s.ans [s.hx (BEL_EN 1), s.hx (BEL_EN 0)]
def State.bellTargetU (s : State) (t : Nat) (on : Bool) (count time : Option Nat) : UnitR :=
  s.cfg .aon (chg (BEL_TGT t) 0 1 (b2n on) :: (chgN (BEL_TGT t) 8 7 count ++ chgN (BEL_TGT t) 16 16 time))
def State.bellTargetQ (s : State) (t : Nat) : Ans :=
  s.ans [s.fv (BEL_TGT t) 0 1, s.fv (BEL_TGT t) 8 7, s.fv (BEL_TGT t) 16 16,
    wordAt ["FREE", "WAITING", "DELIVERED", "SERVING"] (bits (s.tstat t) 0 2)]
def State.bellVecU (s : State) (n v : Nat) : UnitR :=
  .ok ((s.setFld (BEL_VEC (n / 8)) (4 * (n % 8)) 3 v).touch (BEL_VEC (n / 8)))

/-- `BELL:CLAIM?` (R456): a claim. -/
def State.bellClaimQ (s : State) (t : Nat) : Ans :=
  let r := s.claim t
  ([.dec (bits r.1.toNat 0 6), .dec (bits r.1.toNat 31 1)], r.2)
def State.bellCompleteU (s : State) (t n : Nat) : UnitR := .ok (s.complete t n)
def State.bellStatQ (s : State) : Ans :=
  s.ans ([s.hx (BEL_LEVEL 1), s.hx (BEL_LEVEL 0), s.hx (BEL_PEND 1), s.hx (BEL_PEND 0)] ++
    (List.range 4).map fun t => s.hx (BEL_TSTAT t))
def State.bellBadQ (s : State) : Ans := s.ansClr [BEL_BAD_COMPLETE, BEL_LOST] [s.nm BEL_BAD_COMPLETE, s.nm BEL_LOST]

/-! ### FERRY -/

/-- TYPE of a ring (R477). -/
def ringCode : RingType → Nat
  | .stream => 0 | .mark => 1 | .monitor => 2 | .read => 3 | .write => 4
def State.ferryRingU (s : State) (r : Nat) (ty : RingType) (szlog2 : Nat) (groups : Option Nat) : UnitR :=
  s.cfg .host ([chg (FRY_R_CFG r) 0 3 (ringCode ty), chg (FRY_R_CFG r) 4 4 szlog2] ++ chgN (FRY_R_CFG r) 8 8 groups)

/-- A 64-bit address in a LO and HI pair of registers, a multiple of 32. -/
def addrChgs (lo hi a : Nat) : List Chg := [⟨lo, 0xFFFFFFE0, a % 2 ^ 32, 0⟩, chg hi 0 32 (a / 2 ^ 32)]
def State.ferryBaseU (s : State) (r d c : Nat) : UnitR :=
  s.cfg .host (addrChgs (FRY_R_DBASE_LO r) (FRY_R_DBASE_HI r) d ++ addrChgs (FRY_R_CBASE_LO r) (FRY_R_CBASE_HI r) c)
def State.ferryModU (s : State) (r every hold : Nat) : UnitR :=
  s.cfg .host [chg (FRY_R_CFG r) 16 8 every, chg (FRY_R_CFG r) 24 8 hold]
def State.ferryStartU (s : State) (r : Nat) : UnitR := s.ringStartU r
def State.ferryStopU (s : State) (r : Nat) : UnitR := s.ringStopU r

/-- `FERRY:RESUME` of a ring, or of every HALTED one (R492). -/
def State.ferryResumeU (s : State) (r : Option Nat) : UnitR :=
  match r with
  | some r => s.ringResumeU r
  | none => do
    needA s .host
    let l ← selObjs ((List.range 8).filter fun r => s.ringState r == 3) .all
    eachU State.ringResumeU l s
def State.ferryPostU (s : State) (r n : Nat) : UnitR := s.postU r n
def State.ferryStatQ (s : State) (r : Nat) : Ans :=
  s.ansClr [FRY_R_DROP r]
    [wordAt ["STOPPED", "RUNNING", "STOPPING", "HALTED", "FAULTED"] (s.ringState r),
      wordAt ["NONE", "LEDGER", "DESC", "FETCH", "LINK"] (s.fld (FRY_R_STAT r) 4 3), .dec (s.tail r), .dec (s.head r),
      .dec (s.donePtr r), .dec (s.dev r), .dec (s.infl r), .dec (s.host r), s.nm (FRY_R_DROP r)]
def State.ferryBar2U (s : State) (mem : Mem) (base : Nat) : UnitR :=
  s.cfg .host [chg FRY_BAR2_CFG 0 2 (memCode mem), chg FRY_BAR2_BASE 0 32 base]
def State.ferryAbrecU (s : State) (addr : Nat) : UnitR := s.cfg .host (addrChgs FRY_ABREC_LO FRY_ABREC_HI addr)
def State.ferryLinkQ (s : State) : Ans :=
  s.ans [wordAt ["0", "2.5", "5", "8"] (s.fld FRY_LINK 0 2), s.fv FRY_LINK 4 3, s.fv FRY_LINK 8 1,
    wordAt ["D0", "D3HOT"] (s.fld FRY_LINK 9 1)]

/-! ### The rows -/

/-- R463. BELL:EN enables or disables a source. -/
def execBellEn (p : Fin 3) (n : Nat) (on : Bool) (s : State) : Out :=
  s.cmdRow p (argsBad (.bellEn p n on)) (·.bellEnU n on)

/-- R570. BELL:EN? returns the enables. -/
def execBellEnQuery (p : Fin 3) (s : State) : Out :=
  s.qryRow p (argsBad (.bellEnQuery p)) (·.bellEnQ)

/-- R463. BELL:TARGET sets a target's enable, count and time. -/
def execBellTarget (p : Fin 3) (t : Nat) (on : Bool) (count : Option Nat) (time : Option Nat) (s : State) : Out :=
  s.cmdRow p (argsBad (.bellTarget p t on count time)) (·.bellTargetU t on count time)

/-- R570. BELL:TARGET? returns a target's settings and state. -/
def execBellTargetQuery (p : Fin 3) (t : Nat) (s : State) : Out :=
  s.qryRow p (argsBad (.bellTargetQuery p t)) (·.bellTargetQ t)

/-- R455. BELL:VEC sets a source's vector. -/
def execBellVec (p : Fin 3) (n : Nat) (v : Nat) (s : State) : Out :=
  s.cmdRow p (argsBad (.bellVec p n v)) (·.bellVecU n v)

/-- R456. BELL:CLAIM? claims the lowest pending source for a target. -/
def execBellClaimQuery (p : Fin 3) (t : Nat) (s : State) : Out :=
  s.qryRow p (argsBad (.bellClaimQuery p t)) (·.bellClaimQ t)

/-- R457. BELL:COMPLETE completes a source at the commit. -/
def execBellComplete (p : Fin 3) (t : Nat) (n : Nat) (s : State) : Out :=
  s.cmdRow p (argsBad (.bellComplete p t n)) (·.bellCompleteU t n)

/-- R570. BELL:STAT? returns the levels, the pending set and the target states. -/
def execBellStatQuery (p : Fin 3) (s : State) : Out :=
  s.qryRow p (argsBad (.bellStatQuery p)) (·.bellStatQ)

/-- R570. BELL:BAD? returns and clears the bad-completion and lost counts. -/
def execBellBadQuery (p : Fin 3) (s : State) : Out :=
  s.qryRow p (argsBad (.bellBadQuery p)) (·.bellBadQ)

/-- R494. FERRY:RING sets a ring's type, size and groups. -/
def execFerryRing (p : Fin 3) (r : Nat) (ty : RingType) (szlog2 : Nat) (groups : Option Nat) (s : State) : Out :=
  s.cmdRow p (argsBad (.ferryRing p r ty szlog2 groups)) (·.ferryRingU r ty szlog2 groups)

/-- R494. FERRY:BASE sets a ring's array addresses. -/
def execFerryBase (p : Fin 3) (r : Nat) (d : Nat) (c : Nat) (s : State) : Out :=
  s.cmdRow p (argsBad (.ferryBase p r d c)) (·.ferryBaseU r d c)

/-- R490. FERRY:MOD sets EVERY and HOLD. -/
def execFerryMod (p : Fin 3) (r : Nat) (every : Nat) (hold : Nat) (s : State) : Out :=
  s.cmdRow p (argsBad (.ferryMod p r every hold)) (·.ferryModU r every hold)

/-- R493. FERRY:START starts a ring. -/
def execFerryStart (p : Fin 3) (r : Nat) (s : State) : Out :=
  s.cmdRow p (argsBad (.ferryStart p r)) (·.ferryStartU r)

/-- R493. FERRY:STOP stops a ring. -/
def execFerryStop (p : Fin 3) (r : Nat) (s : State) : Out :=
  s.cmdRow p (argsBad (.ferryStop p r)) (·.ferryStopU r)

/-- R493. FERRY:RESUME resumes HALTED rings. -/
def execFerryResume (p : Fin 3) (r : Option Nat) (s : State) : Out :=
  s.cmdRow p (argsBad (.ferryResume p r)) (·.ferryResumeU r)

/-- R486. FERRY:POST posts descriptors to a ring. -/
def execFerryPost (p : Fin 3) (r : Nat) (n : Nat) (s : State) : Out :=
  s.cmdRow p (argsBad (.ferryPost p r n)) (·.ferryPostU r n)

/-- R570. FERRY:STAT? returns a ring's state and books and clears its drop count. -/
def execFerryStatQuery (p : Fin 3) (r : Nat) (s : State) : Out :=
  s.qryRow p (argsBad (.ferryStatQuery p r)) (·.ferryStatQ r)

/-- R473. FERRY:BAR2 sets the BAR2 window memory and base. -/
def execFerryBar2 (p : Fin 3) (mem : Mem) (base : Nat) (s : State) : Out :=
  s.cmdRow p (argsBad (.ferryBar2 p mem base)) (·.ferryBar2U mem base)

/-- R495. FERRY:ABREC sets the ABORT record address. -/
def execFerryAbrec (p : Fin 3) (addr : Nat) (s : State) : Out :=
  s.cmdRow p (argsBad (.ferryAbrec p addr)) (·.ferryAbrecU addr)

/-- R570. FERRY:LINK? returns the link speed, width, L1 and D-state. -/
def execFerryLinkQuery (p : Fin 3) (s : State) : Out :=
  s.qryRow p (argsBad (.ferryLinkQuery p)) (·.ferryLinkQ)

end Sys2Proof.Machine
end

