-- ==== Sys2Proof/Machine/CmdBerth.lean ====
section
/-! DEFINITION. The BERTH rows (R563). -/

namespace Sys2Proof.Machine

/-- BRT_ROUTE with the Berths of a mask as the whole set of channel n (R198); a Berth of n that is not in the mask keeps
its INPUT with EN 0. -/
def routeWith (v n mask : Nat) : Nat :=
  (List.range 8).foldl (fun w b =>
    if bits mask b 1 = 1 then putBits w (4 * b) 4 (n + 8)
    else if routeIn v b = some n then putBits w (4 * b + 3) 1 0 else w) v

def State.berthRouteU (s : State) (n mask : Nat) : UnitR := s.cfg .aon [chg BRT_ROUTE 0 32 (routeWith s.route n mask)]
def State.berthRouteQ (s : State) (n : Nat) : Ans := s.ans [.dec (maskOf (s.berths n)), .dec (s.kOf n)]
def State.berthMapU (s : State) (v : Nat) : UnitR := s.cfg .aon [chg BRT_ROUTE 0 32 v]
def State.berthMapQ (s : State) : Ans := s.ans [s.hx BRT_ROUTE]

/-- `BERTH:CAL` (R209). -/
def State.berthCalU (s : State) (run : Bool) (which : CalSel) : UnitR :=
  s.cfg .aon [match which with
    | .skew => chg BRT_CAL_CTRL 0 1 (b2n run)
    | .gain => chg BRT_CAL_CTRL 1 1 (b2n run)
    | .offset => chg BRT_CAL_CTRL 2 1 (b2n run)
    | .all => chg BRT_CAL_CTRL 0 3 (7 * b2n run)]

def State.berthCalQ (s : State) : Ans := s.ans [s.hx BRT_CAL_STAT, s.nm BRT_SKEW_ROUNDS]
def State.berthBgclearU (s : State) : UnitR := s.bgClearU
def State.berthTrimU (s : State) (b v : Nat) : UnitR := s.cfg (berthDom b) [chg (BRT_TRIM b) 0 16 v]
def State.berthTrimQ (s : State) (b : Nat) : Ans := s.ans [s.fv (BRT_TRIM b) 0 16, s.zv (BRT_SKEW_ERR b) 0 16]
def State.berthCalofsU (s : State) (b : Nat) (v : Int) : UnitR := s.cfg (berthDom b) [chgI (BRT_OFS b) 0 16 v]
def State.berthCalgainU (s : State) (b : Nat) (v : Int) : UnitR := s.cfg (berthDom b) [chgI (BRT_GAIN b) 0 16 v]

/-- MEAN, OVR, MISSING and bit 31 of a monitor register (R217, R218). -/
def State.monVals (s : State) (off : Nat) : List RVal := [s.zv off 0 20, s.fv off 20 1, s.fv off 21 1, s.fv off 31 1]
def State.berthMonQ (s : State) (n : Nat) : Ans := s.ansClr [BRT_MON n] (s.monVals (BRT_MON n))
def State.berthSnapQ (s : State) (n : Nat) : Ans := s.ans (s.monVals (BRT_SNAP n))
def State.berthMonchkU (s : State) (n : Nat) (on : Bool) : UnitR := s.cfg .aon [chg BRT_MON_CFG n 1 (b2n on)]
def State.berthMonstreamU (s : State) (mask : Nat) : UnitR := s.cfg .aon [chg BRT_MON_CFG 8 8 mask]
def State.berthOvrQ (s : State) (b : Nat) : Ans := s.ansClr [BRT_OVR_CNT b] [s.nm (BRT_OVR_CNT b)]
def State.berthStatQ (s : State) : Ans := s.ans [s.hx BRT_CHAN_STAT, s.hx BRT_CAL_STAT]

/-! ### The rows -/

/-- R198. BERTH:ROUTE makes a mask the whole Berth set of an input. -/
def execBerthRoute (p : Fin 3) (n : Nat) (mask : Nat) (s : State) : Out :=
  s.cmdRow p (argsBad (.berthRoute p n mask)) (·.berthRouteU n mask)

/-- R563. BERTH:ROUTE? returns an input's mask and factor. -/
def execBerthRouteQuery (p : Fin 3) (n : Nat) (s : State) : Out :=
  s.qryRow p (argsBad (.berthRouteQuery p n)) (·.berthRouteQ n)

/-- R198. BERTH:MAP writes BRT_ROUTE whole. -/
def execBerthMap (p : Fin 3) (v : Nat) (s : State) : Out :=
  s.cmdRow p (argsBad (.berthMap p v)) (·.berthMapU v)

/-- R563. BERTH:MAP? returns BRT_ROUTE. -/
def execBerthMapQuery (p : Fin 3) (s : State) : Out :=
  s.qryRow p (argsBad (.berthMapQuery p)) (·.berthMapQ)

/-- R209. BERTH:CAL runs or freezes skew, gain or offset calibration. -/
def execBerthCal (p : Fin 3) (run : Bool) (which : CalSel) (s : State) : Out :=
  s.cmdRow p (argsBad (.berthCal p run which)) (·.berthCalU run which)

/-- R563. BERTH:CAL? returns BRT_CAL_STAT and the round count. -/
def execBerthCalQuery (p : Fin 3) (s : State) : Out :=
  s.qryRow p (argsBad (.berthCalQuery p)) (·.berthCalQ)

/-- R209. BERTH:BGCLEAR zeroes the background terms at the boundary. -/
def execBerthBgclear (p : Fin 3) (s : State) : Out :=
  s.cmdRow p (argsBad (.berthBgclear p)) (·.berthBgclearU)

/-- R211. BERTH:TRIM writes a Berth trim while skew calibration is frozen. -/
def execBerthTrim (p : Fin 3) (b : Nat) (v : Nat) (s : State) : Out :=
  s.cmdRow p (argsBad (.berthTrim p b v)) (·.berthTrimU b v)

/-- R563. BERTH:TRIM? returns a trim and its skew error. -/
def execBerthTrimQuery (p : Fin 3) (b : Nat) (s : State) : Out :=
  s.qryRow p (argsBad (.berthTrimQuery p b)) (·.berthTrimQ b)

/-- R211. BERTH:CALOFS writes CAL_OFS. -/
def execBerthCalofs (p : Fin 3) (b : Nat) (v : Int) (s : State) : Out :=
  s.cmdRow p (argsBad (.berthCalofs p b v)) (·.berthCalofsU b v)

/-- R211. BERTH:CALGAIN writes CAL_GAIN. -/
def execBerthCalgain (p : Fin 3) (b : Nat) (v : Int) (s : State) : Out :=
  s.cmdRow p (argsBad (.berthCalgain p b v)) (·.berthCalgainU b v)

/-- R217. BERTH:MON? returns a monitor value and clears FRESH. -/
def execBerthMonQuery (p : Fin 3) (n : Nat) (s : State) : Out :=
  s.qryRow p (argsBad (.berthMonQuery p n)) (·.berthMonQ n)

/-- R218. BERTH:SNAP? returns BRT_SNAP_n. -/
def execBerthSnapQuery (p : Fin 3) (n : Nat) (s : State) : Out :=
  s.qryRow p (argsBad (.berthSnapQuery p n)) (·.berthSnapQ n)

/-- R217. BERTH:MONCHK sets a channel's CHK bit. -/
def execBerthMonchk (p : Fin 3) (n : Nat) (on : Bool) (s : State) : Out :=
  s.cmdRow p (argsBad (.berthMonchk p n on)) (·.berthMonchkU n on)

/-- R219. BERTH:MONSTREAM sets the monitor stream mask. -/
def execBerthMonstream (p : Fin 3) (mask : Nat) (s : State) : Out :=
  s.cmdRow p (argsBad (.berthMonstream p mask)) (·.berthMonstreamU mask)

/-- R215. BERTH:OVR? returns and clears an over-range count. -/
def execBerthOvrQuery (p : Fin 3) (b : Nat) (s : State) : Out :=
  s.qryRow p (argsBad (.berthOvrQuery p b)) (·.berthOvrQ b)

/-- R563. BERTH:STAT? returns the channel and calibration status. -/
def execBerthStatQuery (p : Fin 3) (s : State) : Out :=
  s.qryRow p (argsBad (.berthStatQuery p)) (·.berthStatQ)

end Sys2Proof.Machine
end

