-- ==== Sys2Proof/Machine/CmdEmica.lean ====
section
/-! DEFINITION. The EMICA and STORE rows (R571, R572). -/

namespace Sys2Proof.Machine

/-! ### EMICA -/

/-- ROLE (R509). -/
def roleCode : RigRole → Nat
  | .off => 0 | .master => 1 | .member => 2
def State.emicaRoleU (s : State) (role : RigRole) (slot : Option Nat) : UnitR := do
  needA s .emica
  s.applyChgs (chg EMC_CFG 0 2 (roleCode role) :: chgN EMC_CFG 4 3 slot)
def State.emicaMembersU (s : State) (mask : Nat) : UnitR := do
  needA s .emica
  s.applyChgs [chg EMC_MEMBERS 0 8 mask]
def State.emicaShareU (s : State) (ch : Nat) (on : Bool) : UnitR := s.cfg .emica [chg EMC_CFG 9 3 ch, chg EMC_CFG 8 1 (b2n on)]
def State.emicaGainU (s : State) (ks clamp : Nat) : UnitR := s.cfg .emica [chg EMC_SHARE 0 9 ks, chg EMC_SHARE 16 15 clamp]
def State.emicaMoorU (s : State) (on : Bool) : UnitR := s.cfg .emica [chg EMC_CFG 12 1 (b2n on)]
def State.emicaCalrxU (s : State) (on : Bool) : UnitR := s.cfg .emica [chg EMC_CFG 13 1 (b2n on)]
def State.emicaEarmU (s : State) (mask : Nat) : UnitR := s.cfg .emica [chg EMC_EARM 0 8 mask]
def State.emicaAlignU (s : State) : UnitR := s.emcPulseU 0
def State.emicaArmU (s : State) : UnitR := s.emcPulseU 1
def State.emicaCalfireU (s : State) : UnitR := s.emcPulseU 2
def State.emicaCalU (s : State) (v : Int) : UnitR := s.cfg .emica [chgI EMC_CAL 0 32 v]
def State.emicaCalQ (s : State) : Ans := s.ans [s.zv EMC_CAL 0 32, s.fv EMC_STAT 4 1]
def State.emicaShclrU (s : State) : UnitR := s.shclrU
def State.emicaStatQ (s : State) : Ans :=
  s.ans [wordAt ["OFF", "LISTEN", "RUNNING"] s.emcState, s.fv EMC_STAT 2 1, s.fv EMC_STAT 3 1, s.hx EMC_SLOTS, s.zv EMC_CORR 0 16]
def State.emicaValQ (s : State) (j : Nat) : Ans := s.ans [s.zv (EMC_VAL j) 0 14, s.fv (EMC_VAL j) 14 1, s.fv (EMC_VAL j) 15 1]
def State.emicaAbsQ (s : State) (j : Nat) : Ans := s.ansClr [EMC_ABS j] [s.nm (EMC_ABS j)]
def State.emicaRigofsQ (s : State) : Ans := s.ans [s.qv EMC_RIGOFS_Q0]

/-! ### STORE -/

def State.storeSaveU (s : State) (rec : Nat) : UnitR := s.storeU opSave rec false
def State.storeRecallU (s : State) (rec : Nat) (trim : Bool) : UnitR := s.storeU opRecall rec trim
def State.storeApplyU (s : State) : UnitR := s.storeApply

/-- `STORE:VERIFY` of a record, or of all (R545). -/
def State.storeVerifyU (s : State) (rec : Option Nat) : UnitR := do
  s.storeCheck opVerify (rec.getD 0)
  .ok (s.verifyStart rec)
def State.storeStatQ (s : State) : Ans := s.ansClr [TRL_SKIP] [s.hx TRL_STAT, s.hx TRL_BAD, s.nm TRL_SKIP]
def State.storeIdentQ (s : State) : Ans := s.ans ((List.range 5).map fun i => s.hx (TRL_IDENT i))
def State.storeRawQ (s : State) (addr : Nat) : Ans := s.ans [.hex 8 (s.storeWord addr).toNat]

/-! ### The rows -/

/-- R509. EMICA:ROLE sets the unit's role and slot; MEMBER without its slot lacks an argument (R87). -/
def execEmicaRole (p : Fin 3) (role : RigRole) (slot : Option Nat) (s : State) : Out :=
  if role = .member && slot.isNone then s.row fun s => s.lineAt p (·.fail p 104 2)
  else s.cmdRow p (argsBad (.emicaRole p role slot)) (·.emicaRoleU role slot)

/-- R509. EMICA:MEMBERS sets the expected slots. -/
def execEmicaMembers (p : Fin 3) (mask : Nat) (s : State) : Out :=
  s.cmdRow p (argsBad (.emicaMembers p mask)) (·.emicaMembersU mask)

/-- R515. EMICA:SHARE sets SHCH and CONTRIB. -/
def execEmicaShare (p : Fin 3) (ch : Nat) (on : Bool) (s : State) : Out :=
  s.cmdRow p (argsBad (.emicaShare p ch on)) (·.emicaShareU ch on)

/-- R516. EMICA:GAIN sets KS and CLAMP. -/
def execEmicaGain (p : Fin 3) (ks : Nat) (clamp : Nat) (s : State) : Out :=
  s.cmdRow p (argsBad (.emicaGain p ks clamp)) (·.emicaGainU ks clamp)

/-- R518. EMICA:MOOR sets MOOR. -/
def execEmicaMoor (p : Fin 3) (on : Bool) (s : State) : Out :=
  s.cmdRow p (argsBad (.emicaMoor p on)) (·.emicaMoorU on)

/-- R523. EMICA:CALRX sets CALRX. -/
def execEmicaCalrx (p : Fin 3) (on : Bool) (s : State) : Out :=
  s.cmdRow p (argsBad (.emicaCalrx p on)) (·.emicaCalrxU on)

/-- R520. EMICA:EARM sets the groups armed by EARM. -/
def execEmicaEarm (p : Fin 3) (mask : Nat) (s : State) : Out :=
  s.cmdRow p (argsBad (.emicaEarm p mask)) (·.emicaEarmU mask)

/-- R510. EMICA:ALIGN makes the master pulse ESYNC. -/
def execEmicaAlign (p : Fin 3) (s : State) : Out :=
  s.cmdRow p (argsBad (.emicaAlign p)) (·.emicaAlignU)

/-- R520. EMICA:ARM makes the master pulse EARM. -/
def execEmicaArm (p : Fin 3) (s : State) : Out :=
  s.cmdRow p (argsBad (.emicaArm p)) (·.emicaArmU)

/-- R523. EMICA:CALFIRE makes the master drive a calibration EFIRE. -/
def execEmicaCalfire (p : Fin 3) (s : State) : Out :=
  s.cmdRow p (argsBad (.emicaCalfire p)) (·.emicaCalfireU)

/-- R522. EMICA:CAL writes EMC_CAL. -/
def execEmicaCal (p : Fin 3) (v : Int) (s : State) : Out :=
  s.cmdRow p (argsBad (.emicaCal p v)) (·.emicaCalU v)

/-- R571. EMICA:CAL? returns EMC_CAL and CALTAKEN. -/
def execEmicaCalQuery (p : Fin 3) (s : State) : Out :=
  s.qryRow p (argsBad (.emicaCalQuery p)) (·.emicaCalQ)

/-- R516. EMICA:SHCLR zeroes C_raw. -/
def execEmicaShclr (p : Fin 3) (s : State) : Out :=
  s.cmdRow p (argsBad (.emicaShclr p)) (·.emicaShclrU)

/-- R571. EMICA:STAT? returns the state, hold, ECLK_OK, slots and correction. -/
def execEmicaStatQuery (p : Fin 3) (s : State) : Out :=
  s.qryRow p (argsBad (.emicaStatQuery p)) (·.emicaStatQ)

/-- R571. EMICA:VAL? returns a slot's last frame. -/
def execEmicaValQuery (p : Fin 3) (j : Nat) (s : State) : Out :=
  s.qryRow p (argsBad (.emicaValQuery p j)) (·.emicaValQ j)

/-- R571. EMICA:ABS? returns and clears a slot's absence count. -/
def execEmicaAbsQuery (p : Fin 3) (j : Nat) (s : State) : Out :=
  s.qryRow p (argsBad (.emicaAbsQuery p j)) (·.emicaAbsQ j)

/-- R522. EMICA:RIGOFS? returns EMC_RIGOFS. -/
def execEmicaRigofsQuery (p : Fin 3) (s : State) : Out :=
  s.qryRow p (argsBad (.emicaRigofsQuery p)) (·.emicaRigofsQ)

/-- R541. STORE:SAVE starts a save of a record. -/
def execStoreSave (p : Fin 3) (rec : Nat) (s : State) : Out :=
  s.cmdRow p (argsBad (.storeSave p rec)) (·.storeSaveU rec)

/-- R543. STORE:RECALL starts a recall of a record. -/
def execStoreRecall (p : Fin 3) (rec : Nat) (trim : Bool) (s : State) : Out :=
  s.cmdRow p (argsBad (.storeRecall p rec trim)) (·.storeRecallU rec trim)

/-- R546. STORE:APPLY applies the staged setup as one change. -/
def execStoreApply (p : Fin 3) (s : State) : Out :=
  s.cmdRow p (argsBad (.storeApply p)) (·.storeApplyU)

/-- R545. STORE:VERIFY verifies one record or all records. -/
def execStoreVerify (p : Fin 3) (rec : Option Nat) (s : State) : Out :=
  s.cmdRow p (argsBad (.storeVerify p rec)) (·.storeVerifyU rec)

/-- R572. STORE:STAT? returns the store status and clears TRL_SKIP. -/
def execStoreStatQuery (p : Fin 3) (s : State) : Out :=
  s.qryRow p (argsBad (.storeStatQuery p)) (·.storeStatQ)

/-- R572. STORE:IDENT? returns the IDENT words. -/
def execStoreIdentQuery (p : Fin 3) (s : State) : Out :=
  s.qryRow p (argsBad (.storeIdentQuery p)) (·.storeIdentQ)

/-- R572. STORE:RAW? returns one store word. -/
def execStoreRawQuery (p : Fin 3) (addr : Nat) (s : State) : Out :=
  s.qryRow p (argsBad (.storeRawQuery p addr)) (·.storeRawQ addr)

end Sys2Proof.Machine
end

