-- ==== Sys2Proof/Machine/CmdPilot.lean ====
section
/-! DEFINITION. The PILOT and TRIG rows (R564). -/

namespace Sys2Proof.Machine

/-- The word of an EDGE field, and of a Pilot source (R228). -/
def edgeWord : Nat → RVal := wordAt ["RISE", "FALL", "BOTH", "BOTH"]
def srcWord (c : Nat) : RVal := wordOf pltSrcs c

def State.pilotCompU (s : State) (n th : Nat) (hyst : Option Nat) (edge : Option Edge3) : UnitR :=
  s.cfg .ctrl (chg (PLT_CMP n) 0 12 th :: (chgN (PLT_CMP n) 12 8 hyst ++ chgE (PLT_CMP n) 20 edge))
def State.pilotCompQ (s : State) (n : Nat) : Ans :=
  s.ans [s.fv (PLT_CMP n) 0 12, s.fv (PLT_CMP n) 12 8, edgeWord (s.fld (PLT_CMP n) 20 2), s.fv PLT_CMP_LVL n 1]

/-- The DLY register of a source (R231). -/
def dlyReg (src : Nat) : Nat := if src < 9 then PLT_CMP_DLY (src - 1) else PLT_TRIGIN_DLY (src - 17)
def State.pilotDlyU (s : State) (src : Nat) (v : Int) : UnitR := s.cfg .aon [chgI (dlyReg src) 0 20 v]
def State.pilotDlyQ (s : State) (src : Nat) : Ans := s.ans [s.zv (dlyReg src) 0 20]
def State.pilotTriginU (s : State) (j th : Nat) (edge : Option Edge3) : UnitR :=
  s.cfg .aon (chg (PLT_TRIGIN j) 0 12 th :: chgE (PLT_TRIGIN j) 12 edge)

/-- TYPE of a digital detector (R236). -/
def digCode : DigType → Nat
  | .level => 0 | .window => 1 | .slope => 2 | .width => 3 | .runt => 4
def State.pilotDigU (s : State) (d ch : Nat) (ty : DigType) (dir : Nat) (th1 : Int) (th2 : Option Int) (hyst : Option Nat)
    (ovrq : Option Bool) : UnitR :=
  s.cfg .acq ([chg (PLT_DIG_CFG d) 0 3 ch, chg (PLT_DIG_CFG d) 4 3 (digCode ty), chg (PLT_DIG_CFG d) 8 2 dir,
    chgI (PLT_DIG_TH d) 0 16 th1] ++ chgZ (PLT_DIG_TH d) 16 16 th2 ++ chgN (PLT_DIG_CFG d) 16 12 hyst ++
    chgB (PLT_DIG_CFG d) 15 ovrq)
def State.pilotWidthU (s : State) (d cond w1 : Nat) (w2 : Option Nat) : UnitR :=
  s.cfg .acq ([chg (PLT_DIG_CFG d) 12 2 cond, chg (PLT_DIG_W1 d) 0 32 w1] ++ chgN (PLT_DIG_W2 d) 0 32 w2)
def State.pilotSpanU (s : State) (d n : Nat) : UnitR := s.cfg .acq [chg (PLT_DIG_SPAN d) 0 8 n]

def State.pilotEngU (s : State) (g : Nat) (ab : Bool) (srcA : Nat) (srcB win : Option Nat) : UnitR :=
  s.cfg .acq ([chg (PLT_ENG_CFG g) 1 1 (b2n ab), chg (PLT_ENG_CFG g) 8 7 srcA] ++ chgN (PLT_ENG_CFG g) 16 7 srcB ++
    chgN (PLT_ENG_WIN g) 0 32 win)
def State.pilotEngQ (s : State) (g : Nat) : Ans :=
  let c := PLT_ENG_CFG g
  s.ans [s.fv c 0 1, wordAt ["A", "AB"] (s.fld c 1 1), srcWord (s.fld c 8 7), srcWord (s.fld c 16 7), s.fv c 24 3,
    wordAt ["STOPPED", "WAIT_A", "WAIT_B", "HOLDOFF"] (s.engState g)]
def State.pilotRefU (s : State) (g ch : Nat) : UnitR := s.cfg .acq [chg (PLT_ENG_CFG g) 24 3 ch]
def State.pilotQualU (s : State) (g : Nat) (src pol : Option Nat) : UnitR :=
  s.cfg .acq (chg (PLT_ENG_QUAL g) 8 1 (b2n src.isSome) ::
    (chgN (PLT_ENG_QUAL g) 0 7 src ++ chgN (PLT_ENG_QUAL g) 7 1 pol))

/-- `PILOT:HOLD`: HOLD and HMODE (R243). -/
def State.pilotHoldU (s : State) (g : Nat) (count : Bool) (v : Nat) : UnitR :=
  s.cfg .acq [⟨PLT_ENG_HOLD_HI g, 0x800000FF, v / 2 ^ 32 + b2n count * 2 ^ 31, v % 2 ^ 32⟩]
def State.pilotOnU (s : State) (g : Nat) : UnitR := s.cfg .acq [chg (PLT_ENG_CFG g) 0 1 1]
def State.pilotOffU (s : State) (g : Nat) : UnitR := s.cfg .acq [chg (PLT_ENG_CFG g) 0 1 0]

def State.pilotEfireU (s : State) (on : Bool) (src group width : Option Nat) : UnitR :=
  s.cfg .aon (chg PLT_EFIRE_CFG 7 1 (b2n on) ::
    (chgN PLT_EFIRE_CFG 0 7 src ++ chgN PLT_EFIRE_CFG 8 3 group ++ chgN PLT_EFIRE_CFG 16 8 width))

/-- MODE of a TRIGOUT (R249). -/
def trigoutCode : TrigoutMode → Nat
  | .off => 0 | .accept => 1 | .raw => 2
def State.pilotTrigoutU (s : State) (j : Nat) (mode : TrigoutMode) (sel width : Option Nat) : UnitR :=
  s.cfg .aon (chg (PLT_TRIGOUT j) 0 2 (trigoutCode mode) ::
    (chgN (PLT_TRIGOUT j) 2 7 sel ++ chgN (PLT_TRIGOUT j) 16 16 width))

def State.pilotLastQ (s : State) (g : Nat) : Ans :=
  let i := PLT_LAST_INFO g
  s.ans [.dec (s.regN (PLT_LAST_IDX_LO g) + s.fld (PLT_LAST_IDX_HI g) 0 16 * 2 ^ 32), s.fv i 0 16, s.qv (PLT_LAST_Q0 g),
    srcWord (s.fld i 16 7), s.fv i 24 2]
def State.pilotCountQ (s : State) (g : Nat) : Ans :=
  let rc := [PLT_REJ_HOLD g, PLT_REJ_RATE g, PLT_REJ_QUAL g, PLT_NOGRID g]
  s.ansClr rc (.dec (s.regN (PLT_TRIG_CNT_LO g) + s.fld (PLT_TRIG_CNT_HI g) 0 16 * 2 ^ 32) :: rc.map s.nm)

/-- `TRIG` (R238, R247), stamped with the tide edge at which it commits: ALL names every engine whose group is armed or streaming. -/
def State.trigU (s : State) (gs : Sel) : UnitR := do
  needA s .acq
  let ns ← selObjs ((List.range 8).filter s.grpBusy) gs
  need (ns.all s.grpBusy) 203
  s.softU (stampOf s.tideTb) (maskOfSel ns)

/-! ### The rows -/

/-- R229. PILOT:COMP sets a comparator's threshold, hysteresis and edge. -/
def execPilotComp (p : Fin 3) (n : Nat) (th : Nat) (hyst : Option Nat) (edge : Option Edge3) (s : State) : Out :=
  s.cmdRow p (argsBad (.pilotComp p n th hyst edge)) (·.pilotCompU n th hyst edge)

/-- R564. PILOT:COMP? returns a comparator's settings and level. -/
def execPilotCompQuery (p : Fin 3) (n : Nat) (s : State) : Out :=
  s.qryRow p (argsBad (.pilotCompQuery p n)) (·.pilotCompQ n)

/-- R231. PILOT:DLY sets a comparator or TRIGIN delay compensation. -/
def execPilotDly (p : Fin 3) (src : Nat) (v : Int) (s : State) : Out :=
  s.cmdRow p (argsBad (.pilotDly p src v)) (·.pilotDlyU src v)

/-- R564. PILOT:DLY? returns a delay compensation. -/
def execPilotDlyQuery (p : Fin 3) (src : Nat) (s : State) : Out :=
  s.qryRow p (argsBad (.pilotDlyQuery p src)) (·.pilotDlyQ src)

/-- R232. PILOT:TRIGIN sets a TRIGIN threshold and edge. -/
def execPilotTrigin (p : Fin 3) (j : Nat) (th : Nat) (edge : Option Edge3) (s : State) : Out :=
  s.cmdRow p (argsBad (.pilotTrigin p j th edge)) (·.pilotTriginU j th edge)

/-- R236. PILOT:DIG configures a digital detector. -/
def execPilotDig (p : Fin 3) (d : Nat) (ch : Nat) (ty : DigType) (dir : Nat) (th1 : Int) (th2 : Option Int) (hyst : Option Nat) (ovrq : Option Bool) (s : State) : Out :=
  s.cmdRow p (argsBad (.pilotDig p d ch ty dir th1 th2 hyst ovrq)) (·.pilotDigU d ch ty dir th1 th2 hyst ovrq)

/-- R236. PILOT:WIDTH sets a detector's width condition. -/
def execPilotWidth (p : Fin 3) (d : Nat) (cond : Nat) (w1 : Nat) (w2 : Option Nat) (s : State) : Out :=
  s.cmdRow p (argsBad (.pilotWidth p d cond w1 w2)) (·.pilotWidthU d cond w1 w2)

/-- R236. PILOT:SPAN sets a detector's slope span. -/
def execPilotSpan (p : Fin 3) (d : Nat) (n : Nat) (s : State) : Out :=
  s.cmdRow p (argsBad (.pilotSpan p d n)) (·.pilotSpanU d n)

/-- R241. PILOT:ENG sets an engine's mode, sources and window. -/
def execPilotEng (p : Fin 3) (g : Nat) (ab : Bool) (srcA : Nat) (srcB : Option Nat) (win : Option Nat) (s : State) : Out :=
  s.cmdRow p (argsBad (.pilotEng p g ab srcA srcB win)) (·.pilotEngU g ab srcA srcB win)

/-- R564. PILOT:ENG? returns an engine's configuration and state. -/
def execPilotEngQuery (p : Fin 3) (g : Nat) (s : State) : Out :=
  s.qryRow p (argsBad (.pilotEngQuery p g)) (·.pilotEngQ g)

/-- R239. PILOT:REF sets an engine's reference channel. -/
def execPilotRef (p : Fin 3) (g : Nat) (ch : Nat) (s : State) : Out :=
  s.cmdRow p (argsBad (.pilotRef p g ch)) (·.pilotRefU g ch)

/-- R242. PILOT:QUAL sets an engine's qualifier. -/
def execPilotQual (p : Fin 3) (g : Nat) (src : Option Nat) (pol : Option Nat) (s : State) : Out :=
  s.cmdRow p (argsBad (.pilotQual p g src pol)) (·.pilotQualU g src pol)

/-- R243. PILOT:HOLD sets an engine's holdoff mode and value. -/
def execPilotHold (p : Fin 3) (g : Nat) (count : Bool) (v : Nat) (s : State) : Out :=
  s.cmdRow p (argsBad (.pilotHold p g count v)) (·.pilotHoldU g count v)

/-- R246. PILOT:ON enables an engine. -/
def execPilotOn (p : Fin 3) (g : Nat) (s : State) : Out :=
  s.cmdRow p (argsBad (.pilotOn p g)) (·.pilotOnU g)

/-- R246. PILOT:OFF disables an engine. -/
def execPilotOff (p : Fin 3) (g : Nat) (s : State) : Out :=
  s.cmdRow p (argsBad (.pilotOff p g)) (·.pilotOffU g)

/-- R248. PILOT:EFIRE configures the EFIRE driver. -/
def execPilotEfire (p : Fin 3) (on : Bool) (src : Option Nat) (group : Option Nat) (width : Option Nat) (s : State) : Out :=
  s.cmdRow p (argsBad (.pilotEfire p on src group width)) (·.pilotEfireU on src group width)

/-- R249. PILOT:TRIGOUT configures a trigger output. -/
def execPilotTrigout (p : Fin 3) (j : Nat) (mode : TrigoutMode) (sel : Option Nat) (width : Option Nat) (s : State) : Out :=
  s.cmdRow p (argsBad (.pilotTrigout p j mode sel width)) (·.pilotTrigoutU j mode sel width)

/-- R564. PILOT:LAST? returns an engine's last accepted trigger. -/
def execPilotLastQuery (p : Fin 3) (g : Nat) (s : State) : Out :=
  s.qryRow p (argsBad (.pilotLastQuery p g)) (·.pilotLastQ g)

/-- R564. PILOT:COUNT? returns the trigger count and clears the rejection counts. -/
def execPilotCountQuery (p : Fin 3) (g : Nat) (s : State) : Out :=
  s.qryRow p (argsBad (.pilotCountQuery p g)) (·.pilotCountQ g)

/-- R247. TRIG presents a SOFT event to the named engines at the commit. -/
def execTrig (p : Fin 3) (gs : Sel) (s : State) : Out :=
  s.cmdRow p (argsBad (.trig p gs)) (·.trigU gs)

end Sys2Proof.Machine
end

