-- ==== Sys2Proof/Machine/CmdSlip.lean ====
section
/-! DEFINITION. The SLIP and PROT rows (R569). -/

namespace Sys2Proof.Machine

/-! ### SLIP -/

/-- MODE of a port (R417), LDACMODE (R423) and BMODE (R425). -/
def portCode : PortMode → Nat
  | .off => 0 | .spidac => 1 | .hrpwm => 2
def ldacCode : LdacMode → Nat
  | .none => 0 | .after => 1 | .cycle => 2
def bmodeCode : BMode → Nat
  | .off => 0 | .comp => 1 | .same => 2

def State.slipModeU (s : State) (k : Nat) (mode : PortMode) : UnitR := s.cfg .ctrl [chg (SLP_P_CFG k) 0 2 (portCode mode)]
def State.slipBusU (s : State) (sckdiv : Nat) (cpol : Bool) (ldac : LdacMode) (cyc : Option Nat) : UnitR :=
  s.cfg .ctrl ([chg SLP_CFG 0 8 sckdiv, chg SLP_CFG 8 1 (b2n cpol), chg SLP_CFG 9 2 (ldacCode ldac)] ++ chgN SLP_CFG 16 10 cyc)
def State.slipFrameU (s : State) (k len vbits vpos prefixv : Nat) (signed ldac : Option Bool) : UnitR :=
  let c := SLP_P_CFG k
  s.cfg .ctrl ([chg (SLP_P_FMT k) 0 24 prefixv, chg c 8 5 len, chg c 16 5 vbits, chg c 21 5 vpos] ++ chgB c 26 signed ++
    chgB c 27 ldac)
def State.slipPwmU (s : State) (k per phase hshift : Nat) (bmode : Option BMode) (dt : Option (Nat × Nat)) : UnitR :=
  let b := SLP_P_PWM2 k
  s.cfg .ctrl ([chg (SLP_P_PWM k) 0 12 per, chg (SLP_P_PWM k) 16 12 phase, chg b 4 3 hshift] ++
    chgN b 0 2 (bmode.map bmodeCode) ++ chgN b 8 10 (dt.map (·.1)) ++ chgN b 20 10 (dt.map (·.2)))
def State.slipSafeU (s : State) (k : Nat) (v : Int) : UnitR := s.cfg .ctrl [chgI (SLP_P_SAFE k) 0 20 v]
def State.slipValueU (s : State) (k : Nat) (v : Int) : UnitR := s.cfg .ctrl [chgI (SLP_P_VALUE k) 0 20 v]

/-- A loop's name, where there is one. -/
def loopName : Option Nat → RVal
  | some n => .word ("L" ++ toString n)
  | none => .word "NONE"

/-- `SLIP:STAT?`: LAST of a signed SPIDAC port is signed. -/
def State.slipStatQ (s : State) (k : Nat) : Ans :=
  let w := s.portStat k
  let c := SLP_P_CFG k
  let last : Int := if s.portMode k = 1 ∧ s.bit c 26 then toSigned (s.fld c 16 5) (bits w 0 20) else bits w 0 20
  s.ansClr [SLP_P_LATE k] [.dec last, .dec (bits w 24 1), .dec (bits w 25 1), loopName (s.driver k), s.nm (SLP_P_LATE k)]

/-! ### PROT -/

def State.protChanU (s : State) (n v i : Nat) : UnitR := s.cfg .ctrl [chg (PRT_L_CFG n) 0 3 v, chg (PRT_L_CFG n) 4 3 i]

/-- The enable bit of a limit, and its value field (R428). -/
def limitBit : LimitKind → Nat
  | .ov => 8 | .uv => 9 | .ochi => 10 | .oclo => 11 | .op => 12
def limitChg (n : Nat) (v : Int) : LimitKind → Chg
  | .ov => chgI (PRT_L_V n) 0 16 v
  | .uv => chgI (PRT_L_V n) 16 16 v
  | .ochi => chgI (PRT_L_I n) 0 16 v
  | .oclo => chgI (PRT_L_I n) 16 16 v
  | .op => chgI (PRT_L_OP n) 0 31 v
def State.protLimitU (s : State) (n : Nat) (kind : LimitKind) (value : Option Int) : UnitR :=
  s.cfg .ctrl (match value with
    | some v => [limitChg n v kind, chg (PRT_L_CFG n) (limitBit kind) 1 1]
    | none => [chg (PRT_L_CFG n) (limitBit kind) 1 0])
def State.protPersistU (s : State) (n k : Nat) : UnitR := s.cfg .ctrl [chg (PRT_L_CFG n) 16 8 k]
def State.protUvdlyU (s : State) (n k : Nat) : UnitR := s.cfg .ctrl [chg (PRT_L_UVDLY n) 0 16 k]
def State.protOvrtU (s : State) (n : Nat) (on : Bool) : UnitR := s.cfg .ctrl [chg (PRT_L_CFG n) 13 1 (b2n on)]
def State.protFastU (s : State) (n th : Nat) (below : Bool) (mask : Nat) : UnitR :=
  s.cfg .ctrl [chg (PRT_FAST n) 0 13 (th + 4096 * b2n below), chg (PRT_FAST n) 16 8 mask]
def State.protFastOffU (s : State) (n : Nat) : UnitR := s.cfg .ctrl [chg (PRT_FAST n) 16 8 0]
def State.protTripoutU (s : State) (j mask : Nat) : UnitR := s.cfg .ctrl [chg (PRT_TRIPOUT j) 0 8 mask]

/-- `PROT:MOOR` and `PROT:CLEAR` (R434, R442). -/
def State.protMoorU (s : State) (ns : List Nat) : UnitR := do
  needA s .ctrl
  .ok (s.moorCmd (maskOfSel ns))
def State.protClearU (s : State) (ns : Sel) : UnitR := do
  needA s .ctrl
  let l ← selObjs ((List.range 8).filter s.tripped) ns
  .ok (s.clearCmd (maskOfSel l))
def State.protStatQ (s : State) : Ans := s.ans (s.hx PRT_TRIPPED :: (List.range 8).map fun n => s.hx (PRT_L_CAUSE n))

/-! ### The rows -/

/-- R418. SLIP:MODE sets a port's mode. -/
def execSlipMode (p : Fin 3) (k : Nat) (mode : PortMode) (s : State) : Out :=
  s.cmdRow p (argsBad (.slipMode p k mode)) (·.slipModeU k mode)

/-- R419. SLIP:BUS sets the SPI bus and LDAC settings. -/
def execSlipBus (p : Fin 3) (sckdiv : Nat) (cpol : Bool) (ldac : LdacMode) (cyc : Option Nat) (s : State) : Out :=
  s.cmdRow p (argsBad (.slipBus p sckdiv cpol ldac cyc)) (·.slipBusU sckdiv cpol ldac cyc)

/-- R420. SLIP:FRAME sets a port's SPI frame format. -/
def execSlipFrame (p : Fin 3) (k : Nat) (len : Nat) (vbits : Nat) (vpos : Nat) (prefixv : Nat) (signed : Option Bool) (ldac : Option Bool) (s : State) : Out :=
  s.cmdRow p (argsBad (.slipFrame p k len vbits vpos prefixv signed ldac)) (·.slipFrameU k len vbits vpos prefixv signed ldac)

/-- R424. SLIP:PWM sets a port's HRPWM period, phase, shift and B output. -/
def execSlipPwm (p : Fin 3) (k : Nat) (per : Nat) (phase : Nat) (hshift : Nat) (bmode : Option BMode) (dt : Option (Nat × Nat)) (s : State) : Out :=
  s.cmdRow p (argsBad (.slipPwm p k per phase hshift bmode dt)) (·.slipPwmU k per phase hshift bmode dt)

/-- R436. SLIP:SAFE sets a port's safe value. -/
def execSlipSafe (p : Fin 3) (k : Nat) (v : Int) (s : State) : Out :=
  s.cmdRow p (argsBad (.slipSafe p k v)) (·.slipSafeU k v)

/-- R417. SLIP:VALUE sets an undriven port's value. -/
def execSlipValue (p : Fin 3) (k : Nat) (v : Int) (s : State) : Out :=
  s.cmdRow p (argsBad (.slipValue p k v)) (·.slipValueU k v)

/-- R569. SLIP:STAT? returns a port's status and clears SLP_P_LATE. -/
def execSlipStatQuery (p : Fin 3) (k : Nat) (s : State) : Out :=
  s.qryRow p (argsBad (.slipStatQuery p k)) (·.slipStatQ k)

/-- R428. PROT:CHAN sets a loop's voltage and current channels. -/
def execProtChan (p : Fin 3) (n : Nat) (v : Nat) (i : Nat) (s : State) : Out :=
  s.cmdRow p (argsBad (.protChan p n v i)) (·.protChanU n v i)

/-- R428. PROT:LIMIT sets or disables a digital limit. -/
def execProtLimit (p : Fin 3) (n : Nat) (kind : LimitKind) (value : Option Int) (s : State) : Out :=
  s.cmdRow p (argsBad (.protLimit p n kind value)) (·.protLimitU n kind value)

/-- R429. PROT:PERSIST sets PERSIST. -/
def execProtPersist (p : Fin 3) (n : Nat) (k : Nat) (s : State) : Out :=
  s.cmdRow p (argsBad (.protPersist p n k)) (·.protPersistU n k)

/-- R428. PROT:UVDLY sets UVDLY. -/
def execProtUvdly (p : Fin 3) (n : Nat) (k : Nat) (s : State) : Out :=
  s.cmdRow p (argsBad (.protUvdly p n k)) (·.protUvdlyU n k)

/-- R428. PROT:OVRT enables the OVR limit. -/
def execProtOvrt (p : Fin 3) (n : Nat) (on : Bool) (s : State) : Out :=
  s.cmdRow p (argsBad (.protOvrt p n on)) (·.protOvrtU n on)

/-- R430. PROT:FAST sets a fast-trip threshold, direction and loops. -/
def execProtFast (p : Fin 3) (n : Nat) (th : Nat) (below : Bool) (mask : Nat) (s : State) : Out :=
  s.cmdRow p (argsBad (.protFast p n th below mask)) (·.protFastU n th below mask)

/-- R430. PROT:FAST OFF sets a fast trip's LOOPS to 0. -/
def execProtFastOff (p : Fin 3) (n : Nat) (s : State) : Out :=
  s.cmdRow p (argsBad (.protFastOff p n)) (·.protFastOffU n)

/-- R435. PROT:TRIPOUT sets a TRIP pin's loop mask. -/
def execProtTripout (p : Fin 3) (j : Nat) (mask : Nat) (s : State) : Out :=
  s.cmdRow p (argsBad (.protTripout p j mask)) (·.protTripoutU j mask)

/-- R434. PROT:MOOR latches a SOFT trip for the named loops. -/
def execProtMoor (p : Fin 3) (ns : List Nat) (s : State) : Out :=
  s.cmdRow p (argsBad (.protMoor p ns)) (·.protMoorU ns)

/-- R434. PROT:CLEAR clears the named trips at the commit. -/
def execProtClear (p : Fin 3) (ns : Sel) (s : State) : Out :=
  s.cmdRow p (argsBad (.protClear p ns)) (·.protClearU ns)

/-- R569. PROT:STAT? returns PRT_TRIPPED and the cause words. -/
def execProtStatQuery (p : Fin 3) (s : State) : Out :=
  s.qryRow p (argsBad (.protStatQuery p)) (·.protStatQ)

end Sys2Proof.Machine
end

