-- ==== Sys2Proof/Machine/CmdSluice.lean ====
section
/-! DEFINITION. The SLUICE and LIST rows (R568). -/

namespace Sys2Proof.Machine

/-! ### SLUICE: settings -/

/-- MODE of a loop (R408). -/
def loopCode : LoopMode → Nat
  | .off => 0 | .man => 1 | .auto => 2

/-- `SLUICE:MODE` (R408); the domains of MAN and AUTO are among the checks of the change. -/
def State.sluiceModeU (s : State) (n : Nat) (mode : LoopMode) : UnitR := do
  if mode = .off then needA s .ctrl
  s.applyChgs [chg (SLC_L_MODE n) 0 2 (loopCode mode)]

def State.sluiceInU (s : State) (n ch : Nat) (neg : Bool) : UnitR :=
  s.cfg .ctrl [chg (SLC_L_CFG n) 4 3 ch, chg (SLC_L_CFG n) 2 1 (b2n neg)]
def State.sluiceShareU (s : State) (n : Nat) (on : Bool) : UnitR := s.cfg .ctrl [chg (SLC_L_CFG n) 9 1 (b2n on)]
def State.sluiceLawU (s : State) (n : Nat) (hyst : Bool) (band : Option Nat) : UnitR :=
  s.cfg .ctrl (chg (SLC_L_CFG n) 0 1 (b2n hyst) :: chgN (SLC_L_BAND n) 0 15 band)

/-- `SLUICE:TIMING`: a cycle above L − 10 is out of range, after the other checks (R556). -/
def State.sluiceTimingU (s : State) (n : Nat) (deadline : Bool) (cycle : Nat) : UnitR := do
  let t ← s.cfg .ctrl [chg (SLC_L_CFG n) 1 1 (b2n deadline), chg (SLC_L_TIME n) (if deadline then 16 else 0) 10 cycle]
  need (cycle + 10 ≤ s.fld SYS_TIDE_LEN 0 10) (argErr 3)
  .ok t

def State.sluicePairU (s : State) (n : Nat) (on : Bool) : UnitR := s.cfg .ctrl [chg (SLC_L_CFG n) 8 1 (b2n on)]
def State.sluicePortsU (s : State) (n mask : Nat) : UnitR := s.cfg .ctrl [chg (SLC_L_PORTS n) 0 8 mask]
def State.sluicePhsrcU (s : State) (n src : Nat) : UnitR := s.cfg .ctrl [chg (SLC_L_CFG n) 12 3 src]
def State.sluiceSwpresetU (s : State) (n : Nat) (on : Bool) : UnitR := s.cfg .ctrl [chg (SLC_L_CFG n) 10 1 (b2n on)]
def State.sluiceSetpU (s : State) (n : Nat) (code : Int) : UnitR := s.cfg .ctrl [chgI (SLC_L_SETP n) 0 16 code]
def State.sluiceManoutU (s : State) (n : Nat) (v : Int) : UnitR := s.cfg .ctrl [chgI (SLC_L_MANOUT n) 0 20 v]
def State.sluiceSafeU (s : State) (n : Nat) (v : Int) : UnitR := s.cfg .ctrl [chgI (SLC_L_SAFE n) 0 20 v]
def State.sluiceOutlimU (s : State) (n : Nat) (mn mx : Int) : UnitR :=
  s.cfg .ctrl [chgI (SLC_L_OUTMIN n) 0 20 mn, chgI (SLC_L_OUTMAX n) 0 20 mx]
def State.sluiceIlimU (s : State) (n : Nat) (lo hi : Int) : UnitR :=
  s.cfg .ctrl [chgI (SLC_L_ILO n) 0 24 lo, chgI (SLC_L_IHI n) 0 24 hi]

/-! ### SLUICE: the bank that is inactive (R386, R392, R403) -/

/-- Write words of loop n's inactive bank; a command for CTRL. -/
def State.bankU (s : State) (n : Nat) (ws : List (Nat × Nat)) : UnitR := do
  needC s .ctrl
  .ok (ws.foldl (fun s x => s.bankSet n x.1 x.2) s)

/-- A mantissa, and one with its exponent. -/
def mant (m : Int) : Nat := ofSigned 20 m
def mantExp (m e : Int) : Nat := ofSigned 20 m + ofSigned 6 e * 2 ^ 24

/-- The five words of stage k. -/
def stageWords (k : Nat) (e m0 m1 m2 m3 m4 : Int) : List (Nat × Nat) :=
  [(20 * k, mantExp m0 e), (20 * k + 4, mant m1), (20 * k + 8, mant m2), (20 * k + 12, mant m3), (20 * k + 16, mant m4)]

def State.sluiceStagesU (s : State) (n k : Nat) : UnitR := s.bankU n [(0x78, putBits (s.bankSpare n 0x78) 20 3 k)]

/-- `SLUICE:COEF`: real coefficients, normalised (R392). -/
def State.sluiceCoefU (s : State) (n k : Nat) (b0 b1 b2 a1 a2 : Dec) : UnitR :=
  match normalise [b0, b1, b2], normA a1, normA a2 with
  | some (e, [m0, m1, m2]), some m3, some m4 => s.bankU n (stageWords k e m0 m1 m2 m3 m4)
  | _, _, _ => .error 105
def State.sluiceCoefrawU (s : State) (n k : Nat) (e m0 m1 m2 m3 m4 : Int) : UnitR := s.bankU n (stageWords k e m0 m1 m2 m3 m4)
def State.sluiceKiU (s : State) (n : Nat) (ki : Dec) : UnitR :=
  match normalise [ki] with
  | some (e, [m]) => s.bankU n [(0x78, mantExp m e + bits (s.bankSpare n 0x78) 20 3 * 2 ^ 20)]
  | _ => .error 105

/-- One entry of the table at `base` of the inactive bank. -/
def State.tableU (s : State) (n base i : Nat) (v : Int) : UnitR :=
  let at_ := base + 4 * (i / 2)
  s.bankU n [(at_, putBits (s.bankSpare n at_) (16 * (i % 2)) 16 (ofSigned 16 v))]
def State.sluiceDbandU (s : State) (n i : Nat) (v : Int) : UnitR := s.tableU n 0x80 i v
def State.sluiceRippleU (s : State) (n i : Nat) (v : Int) : UnitR := s.tableU n 0x100 i v

/-- `SLUICE:SWAP` swaps at its commit (R404). -/
def State.sluiceSwapU (s : State) (ns : List Nat) : UnitR := do
  needC s .ctrl
  .ok (ns.eraseDups.foldl State.swapBank s)
def State.sluiceMoorafterU (s : State) (n : Nat) : UnitR := s.cfg .ctrl [chg SLC_MOOR_AFTER 0 8 n]

/-! ### SLUICE: queries -/

def State.sluiceStatQ (s : State) (n : Nat) : Ans :=
  s.ans [wordAt ["OFF", "MANUAL", "AUTO", "MOORED"] (s.loopState n), s.zv (SLC_L_SPNOW n) 0 16, s.zv (SLC_L_OUT n) 0 20,
    s.zv (SLC_L_INT n) 0 24, s.zv (SLC_L_ERR n) 0 24, wordAt ["A", "B"] (b2n (s.loop n).bank)]
def State.sluiceMissedQ (s : State) (n : Nat) : Ans :=
  let rc := [SLC_L_MISSED n, SLC_L_STALE n, SLC_L_SAT n]
  s.ansClr rc (rc.map s.nm)

/-! ### LIST -/

def State.listEntryU (s : State) (i : Nat) (sp : Int) (dwell : Nat) : UnitR :=
  s.cfg .ctrl [chgI (SLC_LIST i) 0 16 sp, chg (SLC_LIST i) 16 16 dwell]
def State.listRangeU (s : State) (n first last : Nat) (rep : Option Nat) : UnitR :=
  s.cfg .ctrl ([chg (SLC_L_LIST n) 0 12 first, chg (SLC_L_LIST n) 16 12 last] ++ chgN (SLC_L_REPEAT n) 0 16 rep)
def State.listRunUnit (s : State) (n : Nat) : UnitR := s.listRunU n
def State.listStopUnit (s : State) (n : Nat) : UnitR := s.listStopU n

/-- `LIST:STEP` (R406): the step of the boundary, merged with one already staged (R122). -/
def State.listStepUnit (s : State) (n : Nat) : UnitR := do
  needA s .ctrl
  need ((s.loop n).lst.st == 1) 203
  .ok (s.stageStep (2 ^ n)).2

/-- A step staged by a line on its own is made at its commit. -/
def State.stepNow (s : State) (n : Nat) : State :=
  if (s.loop n).lst.step then (s.modList n fun x => { x with step := false }).listNext n else s
def State.listStatQ (s : State) (n : Nat) : Ans :=
  let x := (s.loop n).lst
  s.ans [.dec x.idx, wordAt ["IDLE", "RUNNING", "HOLD"] x.st, .dec x.left]

/-! ### The rows -/

/-- R408. SLUICE:MODE sets a loop to OFF, MANUAL or AUTO. -/
def execSluiceMode (p : Fin 3) (n : Nat) (mode : LoopMode) (s : State) : Out :=
  s.cmdRow p (argsBad (.sluiceMode p n mode)) (·.sluiceModeU n mode)

/-- R385. SLUICE:IN sets a loop's input channel and polarity. -/
def execSluiceIn (p : Fin 3) (n : Nat) (ch : Nat) (neg : Bool) (s : State) : Out :=
  s.cmdRow p (argsBad (.sluiceIn p n ch neg)) (·.sluiceInU n ch neg)

/-- R385. SLUICE:SHARE sets a loop's SHARE. -/
def execSluiceShare (p : Fin 3) (n : Nat) (on : Bool) (s : State) : Out :=
  s.cmdRow p (argsBad (.sluiceShare p n on)) (·.sluiceShareU n on)

/-- R393. SLUICE:LAW sets a loop's law and band. -/
def execSluiceLaw (p : Fin 3) (n : Nat) (hyst : Bool) (band : Option Nat) (s : State) : Out :=
  s.cmdRow p (argsBad (.sluiceLaw p n hyst band)) (·.sluiceLawU n hyst band)

/-- R398. SLUICE:TIMING sets a loop's timing mode and cycle. -/
def execSluiceTiming (p : Fin 3) (n : Nat) (deadline : Bool) (cycle : Nat) (s : State) : Out :=
  s.cmdRow p (argsBad (.sluiceTiming p n deadline cycle)) (·.sluiceTimingU n deadline cycle)

/-- R396. SLUICE:PAIR pairs or unpairs an even loop. -/
def execSluicePair (p : Fin 3) (n : Nat) (on : Bool) (s : State) : Out :=
  s.cmdRow p (argsBad (.sluicePair p n on)) (·.sluicePairU n on)

/-- R417. SLUICE:PORTS sets a loop's ports. -/
def execSluicePorts (p : Fin 3) (n : Nat) (mask : Nat) (s : State) : Out :=
  s.cmdRow p (argsBad (.sluicePorts p n mask)) (·.sluicePortsU n mask)

/-- R390. SLUICE:PHSRC sets a loop's ripple phase source. -/
def execSluicePhsrc (p : Fin 3) (n : Nat) (src : Nat) (s : State) : Out :=
  s.cmdRow p (argsBad (.sluicePhsrc p n src)) (·.sluicePhsrcU n src)

/-- R404. SLUICE:SWPRESET sets SWPRESET. -/
def execSluiceSwpreset (p : Fin 3) (n : Nat) (on : Bool) (s : State) : Out :=
  s.cmdRow p (argsBad (.sluiceSwpreset p n on)) (·.sluiceSwpresetU n on)

/-- R385. SLUICE:SETP sets a loop's setpoint. -/
def execSluiceSetp (p : Fin 3) (n : Nat) (code : Int) (s : State) : Out :=
  s.cmdRow p (argsBad (.sluiceSetp p n code)) (·.sluiceSetpU n code)

/-- R394. SLUICE:MANOUT sets a loop's manual output. -/
def execSluiceManout (p : Fin 3) (n : Nat) (v : Int) (s : State) : Out :=
  s.cmdRow p (argsBad (.sluiceManout p n v)) (·.sluiceManoutU n v)

/-- R402. SLUICE:SAFE sets a loop's safe output. -/
def execSluiceSafe (p : Fin 3) (n : Nat) (v : Int) (s : State) : Out :=
  s.cmdRow p (argsBad (.sluiceSafe p n v)) (·.sluiceSafeU n v)

/-- R409. SLUICE:OUTLIM sets OUTMIN and OUTMAX as one change. -/
def execSluiceOutlim (p : Fin 3) (n : Nat) (mn : Int) (mx : Int) (s : State) : Out :=
  s.cmdRow p (argsBad (.sluiceOutlim p n mn mx)) (·.sluiceOutlimU n mn mx)

/-- R409. SLUICE:ILIM sets ILO and IHI as one change. -/
def execSluiceIlim (p : Fin 3) (n : Nat) (lo : Int) (hi : Int) (s : State) : Out :=
  s.cmdRow p (argsBad (.sluiceIlim p n lo hi)) (·.sluiceIlimU n lo hi)

/-- R386. SLUICE:STAGES sets NSTAGES in the inactive bank. -/
def execSluiceStages (p : Fin 3) (n : Nat) (k : Nat) (s : State) : Out :=
  s.cmdRow p (argsBad (.sluiceStages p n k)) (·.sluiceStagesU n k)

/-- R392. SLUICE:COEF normalises and writes a stage's coefficients in the inactive bank. -/
def execSluiceCoef (p : Fin 3) (n : Nat) (k : Nat) (b0 : Dec) (b1 : Dec) (b2 : Dec) (a1 : Dec) (a2 : Dec) (s : State) : Out :=
  s.cmdRow p (argsBad (.sluiceCoef p n k b0 b1 b2 a1 a2)) (·.sluiceCoefU n k b0 b1 b2 a1 a2)

/-- R392. SLUICE:COEFRAW writes a stage's raw exponent and mantissas. -/
def execSluiceCoefraw (p : Fin 3) (n : Nat) (k : Nat) (e : Int) (m0 : Int) (m1 : Int) (m2 : Int) (m3 : Int) (m4 : Int) (s : State) : Out :=
  s.cmdRow p (argsBad (.sluiceCoefraw p n k e m0 m1 m2 m3 m4)) (·.sluiceCoefrawU n k e m0 m1 m2 m3 m4)

/-- R392. SLUICE:KI normalises and writes KI in the inactive bank. -/
def execSluiceKi (p : Fin 3) (n : Nat) (ki : Dec) (s : State) : Out :=
  s.cmdRow p (argsBad (.sluiceKi p n ki)) (·.sluiceKiU n ki)

/-- R389. SLUICE:DBAND writes a deadband table entry. -/
def execSluiceDband (p : Fin 3) (n : Nat) (i : Nat) (v : Int) (s : State) : Out :=
  s.cmdRow p (argsBad (.sluiceDband p n i v)) (·.sluiceDbandU n i v)

/-- R390. SLUICE:RIPPLE writes a ripple table entry. -/
def execSluiceRipple (p : Fin 3) (n : Nat) (i : Nat) (v : Int) (s : State) : Out :=
  s.cmdRow p (argsBad (.sluiceRipple p n i v)) (·.sluiceRippleU n i v)

/-- R404. SLUICE:SWAP swaps the named loops' banks at the commit. -/
def execSluiceSwap (p : Fin 3) (ns : List Nat) (s : State) : Out :=
  s.cmdRow p (argsBad (.sluiceSwap p ns)) (·.sluiceSwapU ns)

/-- R401. SLUICE:MOORAFTER sets SLC_MOOR_AFTER. -/
def execSluiceMoorafter (p : Fin 3) (n : Nat) (s : State) : Out :=
  s.cmdRow p (argsBad (.sluiceMoorafter p n)) (·.sluiceMoorafterU n)

/-- R568. SLUICE:STAT? returns a loop's state and values. -/
def execSluiceStatQuery (p : Fin 3) (n : Nat) (s : State) : Out :=
  s.qryRow p (argsBad (.sluiceStatQuery p n)) (·.sluiceStatQ n)

/-- R568. SLUICE:MISSED? returns and clears the missed, stale and saturation counts. -/
def execSluiceMissedQuery (p : Fin 3) (n : Nat) (s : State) : Out :=
  s.qryRow p (argsBad (.sluiceMissedQuery p n)) (·.sluiceMissedQ n)

/-- R405. LIST:ENTRY writes a list entry. -/
def execListEntry (p : Fin 3) (i : Nat) (sp : Int) (dwell : Nat) (s : State) : Out :=
  s.cmdRow p (argsBad (.listEntry p i sp dwell)) (·.listEntryU i sp dwell)

/-- R405. LIST:RANGE sets a loop's list range and repeat. -/
def execListRange (p : Fin 3) (n : Nat) (first : Nat) (last : Nat) (rep : Option Nat) (s : State) : Out :=
  s.cmdRow p (argsBad (.listRange p n first last rep)) (·.listRangeU n first last rep)

/-- R406. LIST:RUN starts a loop's list. -/
def execListRun (p : Fin 3) (n : Nat) (s : State) : Out :=
  s.cmdRow p (argsBad (.listRun p n)) (·.listRunUnit n)

/-- R406. LIST:STOP puts a running list into HOLD. -/
def execListStop (p : Fin 3) (n : Nat) (s : State) : Out :=
  s.cmdRow p (argsBad (.listStop p n)) (·.listStopUnit n)

/-- R406. LIST:STEP steps a running list. -/
def execListStep (p : Fin 3) (n : Nat) (s : State) : Out :=
  s.cmdRow p (argsBad (.listStep p n)) fun s => (s.listStepUnit n).map (·.stepNow n)

/-- R568. LIST:STAT? returns the index, state and dwell left. -/
def execListStatQuery (p : Fin 3) (n : Nat) (s : State) : Out :=
  s.qryRow p (argsBad (.listStatQuery p n)) (·.listStatQ n)

end Sys2Proof.Machine
end

