-- ==== Sys2Proof/Machine/CmdSys.lean ====
section
/-! DEFINITION. The SYS, TIME, REG, ABORT, CLK and PWR rows (R561, R562). -/

namespace Sys2Proof.Machine

/-! ### SYS -/

def State.sysIdQ (s : State) : Ans := s.ans [s.hx SYS_ID]
def State.sysStepQ (s : State) : Ans := s.ans [s.hx SYS_STEP]

/-- `SYS:TIDE` (R34). -/
def State.sysTideU (s : State) (n : Nat) : UnitR := s.cfg .aon [chg SYS_TIDE_LEN 0 10 n]
def State.sysTideQ (s : State) : Ans := s.ans [s.nm SYS_TIDE_LEN]
def State.sysTidenumQ (s : State) : Ans := s.ans [.dec s.tide.number.toNat]
def State.sysEpochQ (s : State) : Ans := s.ans [s.hx SYS_EPOCH]

/-- `SYS:GUARD` (R559): against STATE_EPOCH as the changes ordered ahead of the line left it. -/
def State.sysGuardU (s : State) (e : Nat) : UnitR := do
  need (s.regN SYS_EPOCH == e) 203
  .ok s

def State.sysConflictQ (s : State) : Ans :=
  s.ansClr [SYS_IGNORED] [s.hx SYS_CONFLICT, s.hx SYS_CONFLICT_ADDR, s.nm SYS_IGNORED]

/-- `SYS:UART` (R72): the divisor; the rate in use follows once the response has been sent. -/
def State.sysUartU (s : State) (baud : Nat) (rts : Option Bool) : UnitR := do
  let d := (roundDiv 25600000000 baud).toNat
  let s := (s.setRegN CMD_UART_DIV d).touch CMD_UART_DIV
  { s with cmd := { s.cmd with newDiv := some d } }.cfg .aon (chgB (CMD_PCFG 0) 1 rts)

def State.sysEchoU (s : State) (p : Fin 3) (on : Bool) : UnitR := s.cfg .aon [chg (CMD_PCFG p) 0 1 (b2n on)]
def State.sysNotifyU (s : State) (p : Fin 3) (mask : Nat) : UnitR := s.cfg .aon [chg (CMD_PCFG p) 8 7 mask]
def State.sysErrQ (s : State) (p : Fin 3) : Ans :=
  s.ans [s.fv (CMD_ERR p) 0 10, s.fv (CMD_ERR p) 10 5, s.fv (CMD_ERR p) 15 5]

/-! ### TIME -/

def State.timeQ (s : State) : Ans := s.ans [.tod s.tod.sec.toNat s.tod.ns]
def State.timeSetU (s : State) (sec ns : Nat) : UnitR :=
  .ok ((((s.setRegN TIM_SET_SEC_LO sec).setRegN TIM_SET_SEC_HI (sec / 2 ^ 32 % 2 ^ 16)).setRegN TIM_SET_NS ns).todSetCtrl 1)
def State.timeCancelU (s : State) : UnitR := .ok (s.setBit TIM_STAT 0 false)
def State.timeAdjU (s : State) (t : Int) : UnitR := .ok (s.slewAdd t)

/-- `TIME:PPS`: EN and EDGE. -/
def State.timePpsU (s : State) (on : Bool) (fall : Option Bool) : UnitR :=
  let t := s.setBit TIM_PPS_CTRL 0 on
  .ok (((t.setBit TIM_PPS_CTRL 1 (fall.getD (s.bit TIM_PPS_CTRL 1))).ppsCtrl (s.bit TIM_PPS_CTRL 0)).touch TIM_PPS_CTRL)

/-- `TIME:PPSLIM`: SLEW_MAX and STEP_EN. -/
def State.timePpslimU (s : State) (t : Nat) (step : Option Bool) : UnitR :=
  let u := s.setFld TIM_PPS_CTRL 8 16 t
  .ok ((u.setBit TIM_PPS_CTRL 2 (step.getD (s.bit TIM_PPS_CTRL 2))).touch TIM_PPS_CTRL)

def State.timePpsQ (s : State) : Ans :=
  s.ans [s.fv TIM_STAT 4 1, s.zv TIM_PPS_ERR 0 32, s.fv TIM_PPS_COUNT 0 16, s.fv TIM_PPS_COUNT 16 16]
def State.timeStampQ (s : State) : Ans := s.ans [.hex 18 s.now.toNat]

/-- `REG?` (R90, R104): a read as of a requester of its own. -/
def State.regQ (s : State) (p : Fin 3) (off : Nat) : Ans :=
  let r := s.readReg (.port p) off
  ([.hex 8 r.1.toNat], r.2)

/-! ### CLK -/

/-- The word of a Lighthouse state (R562). -/
def lhWord : Nat → RVal := wordAt ["OFF", "ACQUIRING", "LOCKED", "RUNNING", "SYNCING"]

/-- A change of FCW (R143, R158). -/
def fcwChg (v : Nat) : Chg := ⟨CLK_LHA_FCW_HI, 0xFFFF, v / 2 ^ 32, v % 2 ^ 32⟩
def State.clkAclkU (s : State) (fcw : Nat) : UnitR := s.cfg .lha [fcwChg fcw]
def State.clkFcwU (s : State) (v : Nat) : UnitR := s.cfg .lha [fcwChg v]

/-- `CLK:ACLK?`: FCW, N, and the frequency in Hz. -/
def State.clkAclkQ (s : State) : Ans :=
  s.ans [.hex 12 s.fcw, .dec (8 + 4 * s.divCode), .dec (roundDiv (10 ^ 8 * s.fcw) (2 ^ 44))]

def State.clkBwU (s : State) (h : Synth) (n : Nat) : UnitR := s.cfg (synthDom h) [chg (synthCfg h) 0 2 n]
def State.clkLockwinU (s : State) (h : Synth) (n : Nat) : UnitR := s.cfg (synthDom h) [chg (synthCfg h) 8 8 n]
def State.clkPhlimU (s : State) (h : Synth) (n : Nat) : UnitR := s.cfg (synthDom h) [chg (synthCfg h) 16 6 n]
def State.clkAutoresU (s : State) (h : Synth) (on : Bool) : UnitR := s.cfg (synthDom h) [chg (synthCfg h) 24 1 (b2n on)]
def State.clkResumeU (s : State) (h : Synth) : UnitR := s.resumeU h

/-- DDR_DIV of a rate word (R146). -/
def ddrCode : DdrRate → Nat
  | .d3200 => 0 | .d2666 => 1 | .d1600 => 2
def State.clkDdrU (s : State) (r : DdrRate) : UnitR := s.cfg .lhs [chg CLK_LHS_CFG 28 2 (ddrCode r)]

/-- `CLK:SYNC` (R155, R157). -/
def State.clkSyncU (s : State) (on : Bool) (esync fall : Option Bool) (mask : Option Nat) (cont : Option Bool) : UnitR :=
  s.cfg .aon (chg CLK_SYNC_CTRL 0 1 (b2n on) ::
    (chgB CLK_SYNC_CTRL 1 esync ++ chgB CLK_SYNC_CTRL 2 fall ++ chgN CLK_SYNC_CTRL 4 4 mask ++ chgB CLK_SYNC_CTRL 3 cont))

def State.clkStatQ (s : State) : Ans := s.ans [lhWord s.lha, lhWord s.lhs, s.fv CLK_CAP_STAT 0 1, s.hx CLK_STAT]
def State.clkCountQ (s : State) (h : Synth) : Ans := s.ans [s.fv (synthCount h) 0 20]

/-! ### PWR -/

def State.pwrOnU (s : State) (d : Dom) : UnitR := do
  let s ← s.powerBit true d
  .ok (s.touch PWR_TARGET)
def State.pwrOffU (s : State) (d : Dom) : UnitR := do
  let s ← s.powerBit false d
  .ok (s.touch PWR_TARGET)

def State.pwrStateQ (s : State) (d : Option Dom) : Ans :=
  s.ans [match d with
    | some d => .word (domStateWord (s.dom d))
    | none => s.hx PWR_STATE]

/-- `PWR:DISC?`: AON has no register and discards nothing. -/
def State.pwrDiscQ (s : State) (d : Dom) : Ans :=
  match d with
  | .aon => s.ans [.dec 0]
  | d => s.ansClr [PWR_DISCARD (domNum d - 1)] [s.nm (PWR_DISCARD (domNum d - 1))]

def State.pwrCauseQ (s : State) : Ans := s.ans [s.hx PWR_RST_CAUSE, s.hx PWR_STRAP]
def State.pwrPerstU (s : State) (host : Bool) : UnitR := s.cfg .aon [chg PWR_RST_CFG 0 1 (b2n host)]

/-! ### The rows -/

/-- R17. SYS:ID? returns SYS_ID. -/
def execSysIdQuery (p : Fin 3) (s : State) : Out :=
  s.qryRow p (argsBad (.sysIdQuery p)) (·.sysIdQ)

/-- R17. SYS:STEP? returns SYS_STEP. -/
def execSysStepQuery (p : Fin 3) (s : State) : Out :=
  s.qryRow p (argsBad (.sysStepQuery p)) (·.sysStepQ)

/-- R34. SYS:TIDE sets TIDE_LEN at a boundary, subject to refusals. -/
def execSysTide (p : Fin 3) (n : Nat) (s : State) : Out :=
  s.cmdRow p (argsBad (.sysTide p n)) (·.sysTideU n)

/-- R561. SYS:TIDE? returns TIDE_LEN. -/
def execSysTideQuery (p : Fin 3) (s : State) : Out :=
  s.qryRow p (argsBad (.sysTideQuery p)) (·.sysTideQ)

/-- R41. SYS:TIDENUM? returns the tide number. -/
def execSysTidenumQuery (p : Fin 3) (s : State) : Out :=
  s.qryRow p (argsBad (.sysTidenumQuery p)) (·.sysTidenumQ)

/-- R44. SYS:EPOCH? returns STATE_EPOCH. -/
def execSysEpochQuery (p : Fin 3) (s : State) : Out :=
  s.qryRow p (argsBad (.sysEpochQuery p)) (·.sysEpochQ)

/-- R559. SYS:GUARD makes its line conditional on STATE_EPOCH. -/
def execSysGuard (p : Fin 3) (e : Nat) (s : State) : Out :=
  s.cmdRow p (argsBad (.sysGuard p e)) (·.sysGuardU e)

/-- R561. SYS:CONFLICT? returns the conflict registers and clears SYS_IGNORED. -/
def execSysConflictQuery (p : Fin 3) (s : State) : Out :=
  s.qryRow p (argsBad (.sysConflictQuery p)) (·.sysConflictQ)

/-- R72. SYS:UART sets the baud divisor and RTS/CTS. -/
def execSysUart (p : Fin 3) (baud : Nat) (rts : Option Bool) (s : State) : Out :=
  s.cmdRow p (argsBad (.sysUart p baud rts)) fun s => do
    let t ← s.sysUartU baud rts
    .ok (t.rateAt p ((t.port p).queue.length + 1))

/-- R81. SYS:ECHO sets echo on the issuing port. -/
def execSysEcho (p : Fin 3) (on : Bool) (s : State) : Out :=
  s.cmdRow p (argsBad (.sysEcho p on)) (·.sysEchoU p on)

/-- R94. SYS:NOTIFY sets the asynchronous line mask of the issuing port. -/
def execSysNotify (p : Fin 3) (mask : Nat) (s : State) : Out :=
  s.cmdRow p (argsBad (.sysNotify p mask)) (·.sysNotifyU p mask)

/-- R92. SYS:ERR? returns the port's last error code, unit and argument. -/
def execSysErrQuery (p : Fin 3) (s : State) : Out :=
  s.qryRow p (argsBad (.sysErrQuery p)) (·.sysErrQ p)

/-- R52. TIME? returns seconds and nanoseconds as an atomic pair. -/
def execTimeQuery (p : Fin 3) (s : State) : Out :=
  s.qryRow p (argsBad (.timeQuery p)) (·.timeQ)

/-- R54. TIME:SET stages a time-of-day set. -/
def execTimeSet (p : Fin 3) (sec : Nat) (ns : Nat) (s : State) : Out :=
  s.cmdRow p (argsBad (.timeSet p sec ns)) (·.timeSetU sec ns)

/-- R54. TIME:CANCEL discards a staged set. -/
def execTimeCancel (p : Fin 3) (s : State) : Out :=
  s.cmdRow p (argsBad (.timeCancel p)) (·.timeCancelU)

/-- R55. TIME:ADJ adds to the slew remainder. -/
def execTimeAdj (p : Fin 3) (t : Int) (s : State) : Out :=
  s.cmdRow p (argsBad (.timeAdj p t)) (·.timeAdjU t)

/-- R56. TIME:PPS enables or disables 1PPS discipline. -/
def execTimePps (p : Fin 3) (on : Bool) (fall : Option Bool) (s : State) : Out :=
  s.cmdRow p (argsBad (.timePps p on fall)) (·.timePpsU on fall)

/-- R561. TIME:PPSLIM sets SLEW_MAX and STEP_EN. -/
def execTimePpslim (p : Fin 3) (t : Nat) (step : Option Bool) (s : State) : Out :=
  s.cmdRow p (argsBad (.timePpslim p t step)) (·.timePpslimU t step)

/-- R561. TIME:PPS? returns the lock, last error and counts. -/
def execTimePpsQuery (p : Fin 3) (s : State) : Out :=
  s.qryRow p (argsBad (.timePpsQuery p)) (·.timePpsQ)

/-- R561. TIME:STAMP? returns the current time stamp. -/
def execTimeStampQuery (p : Fin 3) (s : State) : Out :=
  s.qryRow p (argsBad (.timeStampQuery p)) (·.timeStampQ)

/-- R104. REG writes a BAR0 register through the Damisk path at the commit. -/
def execReg (p : Fin 3) (off : Nat) (v : Nat) (s : State) : Out :=
  s.ctlRow p (argsBad (.reg p off v)) (·.regU off v)

/-- R104. REG? reads a BAR0 register with its read side effects. -/
def execRegQuery (p : Fin 3) (off : Nat) (s : State) : Out :=
  s.qryRow p (argsBad (.regQuery p off)) (·.regQ p off)

/-- R158. CLK:ACLK sets the FCW from a frequency. -/
def execClkAclk (p : Fin 3) (fcw : Nat) (s : State) : Out :=
  s.cmdRow p (argsBad (.clkAclk p fcw)) (·.clkAclkU fcw)

/-- R562. CLK:ACLK? returns the FCW, N and frequency. -/
def execClkAclkQuery (p : Fin 3) (s : State) : Out :=
  s.qryRow p (argsBad (.clkAclkQuery p)) (·.clkAclkQ)

/-- R158. CLK:FCW sets the raw FCW. -/
def execClkFcw (p : Fin 3) (v : Nat) (s : State) : Out :=
  s.cmdRow p (argsBad (.clkFcw p v)) (·.clkFcwU v)

/-- R145. CLK:BW sets a Lighthouse loop bandwidth. -/
def execClkBw (p : Fin 3) (h : Synth) (n : Nat) (s : State) : Out :=
  s.cmdRow p (argsBad (.clkBw p h n)) (·.clkBwU h n)

/-- R148. CLK:LOCKWIN sets LOCK_WIN. -/
def execClkLockwin (p : Fin 3) (h : Synth) (n : Nat) (s : State) : Out :=
  s.cmdRow p (argsBad (.clkLockwin p h n)) (·.clkLockwinU h n)

/-- R150. CLK:PHLIM sets PH_LIM. -/
def execClkPhlim (p : Fin 3) (h : Synth) (n : Nat) (s : State) : Out :=
  s.cmdRow p (argsBad (.clkPhlim p h n)) (·.clkPhlimU h n)

/-- R149. CLK:AUTORES sets AUTO_RESUME. -/
def execClkAutores (p : Fin 3) (h : Synth) (on : Bool) (s : State) : Out :=
  s.cmdRow p (argsBad (.clkAutores p h on)) (·.clkAutoresU h on)

/-- R149. CLK:RESUME resumes a LOCKED Lighthouse at the next tide edge. -/
def execClkResume (p : Fin 3) (h : Synth) (s : State) : Out :=
  s.cmdRow p (argsBad (.clkResume p h)) (·.clkResumeU h)

/-- R146. CLK:DDR sets DDR_DIV while LHS is OFF. -/
def execClkDdr (p : Fin 3) (r : DdrRate) (s : State) : Out :=
  s.cmdRow p (argsBad (.clkDdr p r)) (·.clkDdrU r)

/-- R155. CLK:SYNC arms or disarms SYNCIN with its source, edge, targets and mode. -/
def execClkSync (p : Fin 3) (on : Bool) (esync : Option Bool) (fall : Option Bool) (mask : Option Nat) (cont : Option Bool) (s : State) : Out :=
  s.cmdRow p (argsBad (.clkSync p on esync fall mask cont)) (·.clkSyncU on esync fall mask cont)

/-- R562. CLK:STAT? returns the Lighthouse states, CAP LOCK and CLK_STAT. -/
def execClkStatQuery (p : Fin 3) (s : State) : Out :=
  s.qryRow p (argsBad (.clkStatQuery p)) (·.clkStatQ)

/-- R562. CLK:COUNT? returns the last window count. -/
def execClkCountQuery (p : Fin 3) (h : Synth) (s : State) : Out :=
  s.qryRow p (argsBad (.clkCountQuery p h)) (·.clkCountQ h)

/-- R176. PWR:ON requests a domain ON. -/
def execPwrOn (p : Fin 3) (d : Dom) (s : State) : Out :=
  s.cmdRow p (argsBad (.pwrOn p d)) (·.pwrOnU d)

/-- R178. PWR:OFF requests a domain OFF. -/
def execPwrOff (p : Fin 3) (d : Dom) (s : State) : Out :=
  s.ctlRow p (argsBad (.pwrOff p d)) (·.pwrOffU d)

/-- R562. PWR:STATE? returns a domain state or PWR_STATE. -/
def execPwrStateQuery (p : Fin 3) (d : Option Dom) (s : State) : Out :=
  s.qryRow p (argsBad (.pwrStateQuery p d)) (·.pwrStateQ d)

/-- R562. PWR:DISC? returns and clears PWR_DISCARD_n. -/
def execPwrDiscQuery (p : Fin 3) (d : Dom) (s : State) : Out :=
  s.qryRow p (argsBad (.pwrDiscQuery p d)) (·.pwrDiscQ d)

/-- R562. PWR:CAUSE? returns PWR_RST_CAUSE and PWR_STRAP. -/
def execPwrCauseQuery (p : Fin 3) (s : State) : Out :=
  s.qryRow p (argsBad (.pwrCauseQuery p)) (·.pwrCauseQ)

/-- R185. PWR:PERST sets the PERST# reset scope. -/
def execPwrPerst (p : Fin 3) (host : Bool) (s : State) : Out :=
  s.cmdRow p (argsBad (.pwrPerst p host)) (·.pwrPerstU host)

/-- R183. SYS:RESET, alone in its line, resets the unit after its commit; it receives no response. -/
def execSysReset (p : Fin 3) (s : State) : Out := s.row fun s => s.lineAt p (·.assertReset 3)

/-- R100. ABORT, alone in its line, takes an abort as soon as its terminator arrives. -/
def execAbort (p : Fin 3) (s : State) : Out := s.row fun s => if s.portUp p then s.takeAbort else s

end Sys2Proof.Machine
end

