-- ==== Sys2Proof/Machine/CmdTally.lean ====
section
/-! DEFINITION. The TALLY and KNOB rows (R567). -/

namespace Sys2Proof.Machine

/-! ### TALLY -/

def State.tallyInU (s : State) (l src : Nat) (edge : Option Edge3) : UnitR :=
  s.cfg .tally (chg (TLY_L_CFG l) 4 4 src :: chgE (TLY_L_CFG l) 8 edge)

/-- MODE of a lane (R363). -/
def tlyCode : TlyMode → Nat
  | .stamp => 0 | .interval => 1 | .period => 2 | .width => 3 | .freq => 4 | .diff => 5
def State.tallyModeU (s : State) (l : Nat) (mode : TlyMode) (partner : Option Nat) : UnitR :=
  s.cfg .tally (chg (TLY_L_CFG l) 0 3 (tlyCode mode) :: chgN (TLY_L_CFG l) 12 2 partner)
def State.tallyHoldU (s : State) (l t : Nat) : UnitR := s.cfg .tally [chg (TLY_L_HOLD l) 0 24 t]
def State.tallyGateU (s : State) (l t : Nat) : UnitR := s.cfg .tally [chg (TLY_L_GATE l) 0 24 t]
def State.tallyStillU (s : State) (l t : Nat) : UnitR := s.cfg .tally [chg (TLY_L_STILL l) 0 16 t]
def State.tallyDlyU (s : State) (l : Nat) (v : Int) : UnitR := s.cfg .tally [chgI (TLY_L_DLY l) 0 20 v]
def State.tallyEdgeinU (s : State) (j th : Nat) (hyst : Option Nat) : UnitR :=
  s.cfg .tally (chg (TLY_EDGEIN j) 0 12 th :: chgN (TLY_EDGEIN j) 12 8 hyst)

/-- `TALLY:STATS`: OFF clears STATEN; a count sets STATEN and N. -/
def State.tallyStatsU (s : State) (l : Nat) (n : Option Nat) (cont : Option Bool) : UnitR :=
  s.cfg .tally (chg (TLY_L_CFG l) 17 1 (b2n n.isSome) :: (chgN (TLY_L_N l) 0 32 n ++ chgB (TLY_L_CFG l) 16 cont))
def State.tallyStartU (s : State) (l : Nat) : UnitR := s.tlyStartU l
def State.tallyStopU (s : State) (l : Nat) : UnitR := s.tlyStopU l
def State.tallyResQ (s : State) (l : Nat) : Ans := s.ans [s.qv (TLY_L_RES_Q0 l)]
def State.tallyReadQ (s : State) (l : Nat) : Ans :=
  let r := s.fifoPop l
  ([.hex 18 r.1.toNat], r.2)
def State.tallyStatQ (s : State) (l : Nat) : Ans :=
  s.ans [s.qv (TLY_L_MEAN_Q0 l), s.qv (TLY_L_SD_Q0 l), s.qv (TLY_L_MIN_Q0 l), s.qv (TLY_L_MAX_Q0 l), s.nm (TLY_L_STATN l)]

/-- `TALLY:CAL` of a mask, or of every lane (R355, R357). -/
def State.tallyCalU (s : State) (m : Option Nat) : UnitR := s.calU (m.getD 0x3F)
def State.tallyCalQ (s : State) : Ans := s.ans [s.hx TLY_STAT, s.hx TLY_CAL_STAT]

/-! ### KNOB -/

def State.knobCfgU (s : State) (filt still : Nat) (inv : Bool) : UnitR :=
  s.cfg .tally [chg KNB_CFG 0 10 filt, chg KNB_CFG 10 16 still, chg KNB_CFG 31 1 (b2n inv)]
def State.knobPosQ (s : State) : Ans :=
  s.ans [s.zv KNB_POS 0 32, wordAt ["CCW", "CW"] (s.fld KNB_STAT 0 1), s.nm KNB_SPEED, s.fv KNB_STAT 1 1]
def State.knobPosU (s : State) (v : Int) : UnitR := s.cfg .tally [chgI KNB_SETPOS 0 32 v]

/-- DETENT of 1, 2 or 4 counts (R374). -/
def detentCode (d : Nat) : Nat := if d = 1 then 0 else if d = 2 then 1 else 2
def State.knobSvcU (s : State) (on : Bool) (loop detent : Option Nat) : UnitR :=
  s.cfg .tally (chg KNB_SVC 0 1 (b2n on) :: (chgN KNB_SVC 4 3 loop ++ chgN KNB_SVC 8 2 (detent.map detentCode)))
def State.knobLimU (s : State) (mn mx : Int) : UnitR := s.cfg .tally [chgI KNB_LIM 0 16 mn, chgI KNB_LIM 16 16 mx]
def State.knobAccU (s : State) (i thresh step : Nat) : UnitR :=
  s.cfg .tally [chg (KNB_ACC i) 0 16 thresh, chg (KNB_ACC i) 16 16 step]

/-! ### The rows -/

/-- R360. TALLY:IN sets a lane's source and slope. -/
def execTallyIn (p : Fin 3) (l : Nat) (src : Nat) (edge : Option Edge3) (s : State) : Out :=
  s.cmdRow p (argsBad (.tallyIn p l src edge)) (·.tallyInU l src edge)

/-- R363. TALLY:MODE sets a lane's mode and partner. -/
def execTallyMode (p : Fin 3) (l : Nat) (mode : TlyMode) (partner : Option Nat) (s : State) : Out :=
  s.cmdRow p (argsBad (.tallyMode p l mode partner)) (·.tallyModeU l mode partner)

/-- R361. TALLY:HOLD sets a lane's holdoff. -/
def execTallyHold (p : Fin 3) (l : Nat) (t : Nat) (s : State) : Out :=
  s.cmdRow p (argsBad (.tallyHold p l t)) (·.tallyHoldU l t)

/-- R365. TALLY:GATE sets a lane's FREQ gate. -/
def execTallyGate (p : Fin 3) (l : Nat) (t : Nat) (s : State) : Out :=
  s.cmdRow p (argsBad (.tallyGate p l t)) (·.tallyGateU l t)

/-- R366. TALLY:STILL sets a lane's STILL time. -/
def execTallyStill (p : Fin 3) (l : Nat) (t : Nat) (s : State) : Out :=
  s.cmdRow p (argsBad (.tallyStill p l t)) (·.tallyStillU l t)

/-- R352. TALLY:DLY sets a lane's delay compensation. -/
def execTallyDly (p : Fin 3) (l : Nat) (v : Int) (s : State) : Out :=
  s.cmdRow p (argsBad (.tallyDly p l v)) (·.tallyDlyU l v)

/-- R360. TALLY:EDGEIN sets an EDGEIN threshold and hysteresis. -/
def execTallyEdgein (p : Fin 3) (j : Nat) (th : Nat) (hyst : Option Nat) (s : State) : Out :=
  s.cmdRow p (argsBad (.tallyEdgein p j th hyst)) (·.tallyEdgeinU j th hyst)

/-- R371. TALLY:STATS configures a lane's statistics. -/
def execTallyStats (p : Fin 3) (l : Nat) (n : Option Nat) (cont : Option Bool) (s : State) : Out :=
  s.cmdRow p (argsBad (.tallyStats p l n cont)) (·.tallyStatsU l n cont)

/-- R368. TALLY:START starts a lane run. -/
def execTallyStart (p : Fin 3) (l : Nat) (s : State) : Out :=
  s.cmdRow p (argsBad (.tallyStart p l)) (·.tallyStartU l)

/-- R368. TALLY:STOP ends a lane run. -/
def execTallyStop (p : Fin 3) (l : Nat) (s : State) : Out :=
  s.cmdRow p (argsBad (.tallyStop p l)) (·.tallyStopU l)

/-- R567. TALLY:RES? returns a lane's last result. -/
def execTallyResQuery (p : Fin 3) (l : Nat) (s : State) : Out :=
  s.qryRow p (argsBad (.tallyResQuery p l)) (·.tallyResQ l)

/-- R370. TALLY:READ? returns and removes the oldest FIFO result. -/
def execTallyReadQuery (p : Fin 3) (l : Nat) (s : State) : Out :=
  s.qryRow p (argsBad (.tallyReadQuery p l)) (·.tallyReadQ l)

/-- R371. TALLY:STAT? returns a lane's statistics. -/
def execTallyStatQuery (p : Fin 3) (l : Nat) (s : State) : Out :=
  s.qryRow p (argsBad (.tallyStatQuery p l)) (·.tallyStatQ l)

/-- R357. TALLY:CAL starts a calibration of the named lanes. -/
def execTallyCal (p : Fin 3) (m : Option Nat) (s : State) : Out :=
  s.cmdRow p (argsBad (.tallyCal p m)) (·.tallyCalU m)

/-- R567. TALLY:CAL? returns TLY_STAT and TLY_CAL_STAT. -/
def execTallyCalQuery (p : Fin 3) (s : State) : Out :=
  s.qryRow p (argsBad (.tallyCalQuery p)) (·.tallyCalQ)

/-- R372. KNOB:CFG sets the knob filter, STILL time and INV. -/
def execKnobCfg (p : Fin 3) (filt : Nat) (still : Nat) (inv : Bool) (s : State) : Out :=
  s.cmdRow p (argsBad (.knobCfg p filt still inv)) (·.knobCfgU filt still inv)

/-- R567. KNOB:POS? returns the position, direction, speed and STILL. -/
def execKnobPosQuery (p : Fin 3) (s : State) : Out :=
  s.qryRow p (argsBad (.knobPosQuery p)) (·.knobPosQ)

/-- R380. KNOB:POS sets the knob position at the boundary and clears ACC. -/
def execKnobPos (p : Fin 3) (v : Int) (s : State) : Out :=
  s.cmdRow p (argsBad (.knobPos p v)) (·.knobPosU v)

/-- R374. KNOB:SVC configures the knob-to-setpoint service. -/
def execKnobSvc (p : Fin 3) (on : Bool) (loop : Option Nat) (detent : Option Nat) (s : State) : Out :=
  s.cmdRow p (argsBad (.knobSvc p on loop detent)) (·.knobSvcU on loop detent)

/-- R375. KNOB:LIM sets SPMIN and SPMAX. -/
def execKnobLim (p : Fin 3) (mn : Int) (mx : Int) (s : State) : Out :=
  s.cmdRow p (argsBad (.knobLim p mn mx)) (·.knobLimU mn mx)

/-- R374. KNOB:ACC sets an acceleration entry. -/
def execKnobAcc (p : Fin 3) (i : Nat) (thresh : Nat) (step : Nat) (s : State) : Out :=
  s.cmdRow p (argsBad (.knobAcc p i thresh step)) (·.knobAccU i thresh step)

end Sys2Proof.Machine
end

