-- ==== Sys2Proof/Machine/CmdWhs.lean ====
section
/-! DEFINITION. The WHOUSE and DOCK rows (R565, R566). -/

namespace Sys2Proof.Machine

/-! ### WHOUSE -/

def State.whouseHistU (s : State) (h src res : Nat) (ovrx : Option Bool) : UnitR :=
  s.cfg .acq ([chg (WHS_H_CFG h) 0 4 src, chg (WHS_H_CFG h) 4 5 res] ++ chgB (WHS_H_CFG h) 9 ovrx)
def State.whouseGateU (s : State) (h : Nat) (seg : Bool) (group : Option Nat) : UnitR :=
  s.cfg .acq (chg (WHS_H_CFG h) 10 1 (b2n seg) :: chgN (WHS_H_CFG h) 11 3 group)
def State.whouseTwinU (s : State) (h ofs shift : Nat) : UnitR :=
  s.cfg .acq [⟨WHS_H_OFS_HI h, 0x3FFFFF, ofs / 2 ^ 32 + shift * 2 ^ 16, ofs % 2 ^ 32⟩]
def State.whouseFlushtU (s : State) (h t : Nat) : UnitR := s.cfg .acq [chg (WHS_H_CFG h) 16 10 t]
def State.whouseMemU (s : State) (obj : WObj) (mem : Mem) (base : Nat) : UnitR :=
  s.cfg .acq (match obj with
    | .hist h => [chg (WHS_H_CFG h) 14 2 (memCode mem), chg (WHS_H_BASE h) 0 32 base]
    | .map m => [chg (WHS_M_CFG m) 8 2 (memCode mem), chg (WHS_M_BASE m) 0 32 base])
def State.whouseMapU (s : State) (m group ch cols rows : Nat) (ovrx : Option Bool) : UnitR :=
  s.cfg .acq ([chg (WHS_M_CFG m) 0 3 group, chg (WHS_M_CFG m) 4 3 ch, chg (WHS_M_SIZE m) 0 13 cols,
    chg (WHS_M_SIZE m) 16 4 rows.log2] ++ chgB (WHS_M_CFG m) 7 ovrx)
def State.whouseRateU (s : State) (m r : Nat) : UnitR := s.cfg .acq [chg (WHS_M_RATE m) 0 20 r]
def State.whouseDecayU (s : State) (m k : Nat) : UnitR := s.cfg .acq [chg (WHS_M_DECAY m) 0 16 k]

/-- The control register of an object, and whether it runs. -/
def whsCtrl : WObj → Nat
  | .hist h => WHS_H_CTRL h
  | .map m => WHS_M_CTRL m
def State.whsRuns (s : State) : WObj → Bool
  | .hist h => s.bit (WHS_H_STAT h) 0
  | .map m => s.bit (WHS_M_STAT m) 0

/-- `WHOUSE:START` (R318); its domains are among the checks of the start. -/
def State.whouseStartU (s : State) (obj : WObj) (clear : Bool) : UnitR :=
  s.applyChgs [chg (whsCtrl obj) 0 2 (1 + 2 * b2n clear)]
def State.whouseStopU (s : State) (obj : WObj) : UnitR := do
  needA s .acq
  need (s.whsRuns obj) 203
  s.applyChgs [chg (whsCtrl obj) 0 1 0]
def State.whouseFlushU (s : State) (h : Nat) : UnitR := s.flushU h

/-- END of an accumulation. -/
def whsEnd : Nat → RVal := wordAt ["NONE", "STOP", "ABORTED", "CLOCK_FAULT", "POWER_DOWN"]
def State.whouseStatQ (s : State) (obj : WObj) : Ans :=
  let head := fun r => [s.fv r 0 1, s.fv r 1 1, s.fv r 2 1, whsEnd (s.fld r 4 3)]
  match obj with
  | .hist h => s.ans (head (WHS_H_STAT h) ++ [s.nm (WHS_H_SWEEPS h)])
  | .map m =>
    s.ansClr [WHS_M_SKIP m, WHS_M_DLATE m] (head (WHS_M_STAT m) ++ [s.nm (WHS_M_TAKEN m), s.nm (WHS_M_SKIP m), s.nm (WHS_M_DLATE m)])
def State.whouseBinsQ (s : State) : Ans := s.ans [.dec s.binsUsed]

/-! ### DOCK -/

def State.dockCfgU (s : State) (n : Nat) (x16 dens8 : Bool) (ranks : Nat) : UnitR :=
  s.cfg .dock [chg (DCK_CH_CFG n) 0 4 (1 + 2 * b2n x16 + 4 * b2n dens8 + 8 * (ranks - 1))]
def State.dockCfgNoneU (s : State) (n : Nat) : UnitR := s.cfg .dock [chg (DCK_CH_CFG n) 0 1 0]
def State.dockCfgQ (s : State) (n : Nat) : Ans :=
  let c := DCK_CH_CFG n
  s.ans [s.fv c 0 1, wordAt ["X8", "X16"] (s.fld c 1 1), wordAt ["4G", "8G"] (s.fld c 2 1), .dec (1 + s.fld c 3 1)]
def State.dockTimU (s : State) (n cl cwl trcd trp twr trc tfaw trfc trrdl tccdl : Nat) : UnitR :=
  let a := DCK_CH_TIM0 n
  let b := DCK_CH_TIM1 n
  let c := DCK_CH_TIM2 n
  s.cfg .dock [chg a 0 6 cl, chg a 8 6 cwl, chg a 16 6 trcd, chg a 24 6 trp, chg b 0 6 twr, chg b 8 8 trc, chg b 16 8 tfaw,
    chg c 0 10 trfc, chg c 16 4 trrdl, chg c 24 4 tccdl]
def State.dockTrainU (s : State) (n : Nat) : UnitR := s.trainU n
def State.dockFerryU (s : State) (n units : Nat) : UnitR := s.cfg .dock [chg (DCK_CH_FERRY n) 0 7 units]
def State.dockCalQ (s : State) (n : Nat) : Ans :=
  s.ans (.dec s.dckCap :: .dec (s.demand n) :: (s.charges n).map fun (c : Nat) => .dec c)
def State.dockRefuseQ (s : State) : Ans :=
  s.ans [s.fv DCK_REFUSE 0 1, s.fv DCK_REFUSE 8 8, s.fv DCK_REFUSE 16 8, s.fv DCK_REFUSE 31 1]
def State.dockStatQ (s : State) (n : Nat) : Ans :=
  let t := DCK_CH_TSTAT n
  s.ans [wordAt ["ABSENT", "UNTRAINED", "TRAINING", "TRAINED", "FAILED", "SELFREF"] (s.fld t 0 3), s.fv t 4 3, s.fv t 8 1,
    s.nm (DCK_CH_SIZE n), s.nm (DCK_CH_ROUNDS n)]
def State.dockErrQ (s : State) (n : Nat) : Ans :=
  s.ansClr [DCK_CH_PARERR n, DCK_CH_BADBURST n] [s.nm (DCK_CH_PARERR n), s.nm (DCK_CH_BADBURST n), s.nm (DCK_CH_LASTADDR n)]

/-! ### The rows -/

/-- R306. WHOUSE:HIST sets a histogram's source, resolution and OVRX. -/
def execWhouseHist (p : Fin 3) (h : Nat) (src : Nat) (res : Nat) (ovrx : Option Bool) (s : State) : Out :=
  s.cmdRow p (argsBad (.whouseHist p h src res ovrx)) (·.whouseHistU h src res ovrx)

/-- R308. WHOUSE:GATE sets a histogram's gate. -/
def execWhouseGate (p : Fin 3) (h : Nat) (seg : Bool) (group : Option Nat) (s : State) : Out :=
  s.cmdRow p (argsBad (.whouseGate p h seg group)) (·.whouseGateU h seg group)

/-- R306. WHOUSE:TWIN sets a histogram's OFS and SHIFT. -/
def execWhouseTwin (p : Fin 3) (h : Nat) (ofs : Nat) (shift : Nat) (s : State) : Out :=
  s.cmdRow p (argsBad (.whouseTwin p h ofs shift)) (·.whouseTwinU h ofs shift)

/-- R310. WHOUSE:FLUSHT sets FLUSHT. -/
def execWhouseFlusht (p : Fin 3) (h : Nat) (t : Nat) (s : State) : Out :=
  s.cmdRow p (argsBad (.whouseFlusht p h t)) (·.whouseFlushtU h t)

/-- R309. WHOUSE:MEM sets an object's memory and base. -/
def execWhouseMem (p : Fin 3) (obj : WObj) (mem : Mem) (base : Nat) (s : State) : Out :=
  s.cmdRow p (argsBad (.whouseMem p obj mem base)) (·.whouseMemU obj mem base)

/-- R313. WHOUSE:MAP configures a persistence map. -/
def execWhouseMap (p : Fin 3) (m : Nat) (group : Nat) (ch : Nat) (cols : Nat) (rows : Nat) (ovrx : Option Bool) (s : State) : Out :=
  s.cmdRow p (argsBad (.whouseMap p m group ch cols rows ovrx)) (·.whouseMapU m group ch cols rows ovrx)

/-- R315. WHOUSE:RATE sets a map's RATE. -/
def execWhouseRate (p : Fin 3) (m : Nat) (r : Nat) (s : State) : Out :=
  s.cmdRow p (argsBad (.whouseRate p m r)) (·.whouseRateU m r)

/-- R316. WHOUSE:DECAY sets a map's decay interval. -/
def execWhouseDecay (p : Fin 3) (m : Nat) (k : Nat) (s : State) : Out :=
  s.cmdRow p (argsBad (.whouseDecay p m k)) (·.whouseDecayU m k)

/-- R318. WHOUSE:START starts an accumulation after admission. -/
def execWhouseStart (p : Fin 3) (obj : WObj) (clear : Bool) (s : State) : Out :=
  s.cmdRow p (argsBad (.whouseStart p obj clear)) (·.whouseStartU obj clear)

/-- R312. WHOUSE:STOP stops an accumulation with a final sweep. -/
def execWhouseStop (p : Fin 3) (obj : WObj) (s : State) : Out :=
  s.cmdRow p (argsBad (.whouseStop p obj)) (·.whouseStopU obj)

/-- R312. WHOUSE:FLUSH requests a histogram flush. -/
def execWhouseFlush (p : Fin 3) (h : Nat) (s : State) : Out :=
  s.cmdRow p (argsBad (.whouseFlush p h)) (·.whouseFlushU h)

/-- R565. WHOUSE:STAT? returns an object's status and counts. -/
def execWhouseStatQuery (p : Fin 3) (obj : WObj) (s : State) : Out :=
  s.qryRow p (argsBad (.whouseStatQuery p obj)) (·.whouseStatQ obj)

/-- R565. WHOUSE:BINS? returns the partial bins reserved. -/
def execWhouseBinsQuery (p : Fin 3) (s : State) : Out :=
  s.qryRow p (argsBad (.whouseBinsQuery p)) (·.whouseBinsQ)

/-- R566. DOCK:CFG sets a channel's organisation, density and ranks and sets EN. -/
def execDockCfg (p : Fin 3) (n : Nat) (x16 : Bool) (dens8 : Bool) (ranks : Nat) (s : State) : Out :=
  s.cmdRow p (argsBad (.dockCfg p n x16 dens8 ranks)) (·.dockCfgU n x16 dens8 ranks)

/-- R566. DOCK:CFG NONE clears a channel's EN. -/
def execDockCfgNone (p : Fin 3) (n : Nat) (s : State) : Out :=
  s.cmdRow p (argsBad (.dockCfgNone p n)) (·.dockCfgNoneU n)

/-- R566. DOCK:CFG? returns a channel's configuration. -/
def execDockCfgQuery (p : Fin 3) (n : Nat) (s : State) : Out :=
  s.qryRow p (argsBad (.dockCfgQuery p n)) (·.dockCfgQ n)

/-- R327. DOCK:TIM sets a channel's DDR timing. -/
def execDockTim (p : Fin 3) (n : Nat) (cl : Nat) (cwl : Nat) (trcd : Nat) (trp : Nat) (twr : Nat) (trc : Nat) (tfaw : Nat) (trfc : Nat) (trrdl : Nat) (tccdl : Nat) (s : State) : Out :=
  s.cmdRow p (argsBad (.dockTim p n cl cwl trcd trp twr trc tfaw trfc trrdl tccdl)) (·.dockTimU n cl cwl trcd trp twr trc tfaw trfc trrdl tccdl)

/-- R330. DOCK:TRAIN starts training a channel. -/
def execDockTrain (p : Fin 3) (n : Nat) (s : State) : Out :=
  s.cmdRow p (argsBad (.dockTrain p n)) (·.dockTrainU n)

/-- R337. DOCK:FERRY sets the Ferry readout reservation after calendar admission. -/
def execDockFerry (p : Fin 3) (n : Nat) (units : Nat) (s : State) : Out :=
  s.cmdRow p (argsBad (.dockFerry p n units)) (·.dockFerryU n units)

/-- R566. DOCK:CAL? returns U and the per-client charges. -/
def execDockCalQuery (p : Fin 3) (n : Nat) (s : State) : Out :=
  s.qryRow p (argsBad (.dockCalQuery p n)) (·.dockCalQ n)

/-- R566. DOCK:REFUSE? returns DCK_REFUSE. -/
def execDockRefuseQuery (p : Fin 3) (s : State) : Out :=
  s.qryRow p (argsBad (.dockRefuseQuery p)) (·.dockRefuseQ)

/-- R566. DOCK:STAT? returns a channel's state, size and rounds. -/
def execDockStatQuery (p : Fin 3) (n : Nat) (s : State) : Out :=
  s.qryRow p (argsBad (.dockStatQuery p n)) (·.dockStatQ n)

/-- R566. DOCK:ERR? returns the parity and bad-burst counts and clears them. -/
def execDockErrQuery (p : Fin 3) (n : Nat) (s : State) : Out :=
  s.qryRow p (argsBad (.dockErrQuery p n)) (·.dockErrQ n)

end Sys2Proof.Machine
end

