-- ==== Sys2Proof/Machine/CmdYard.lean ====
section
/-! DEFINITION. The PIN and YARD rows (R572). -/

namespace Sys2Proof.Machine

/-! ### PIN -/

def State.pinFuncU (s : State) (n func index : Nat) (park : Option Nat) : UnitR :=
  s.cfg .aon ([chg (PMX_PIN n) 0 4 func, chg (PMX_PIN n) 4 5 index] ++ chgN (PMX_PIN n) 12 2 park)
def State.pinInvU (s : State) (n : Nat) (on : Bool) : UnitR := s.cfg .aon [chg (PMX_PIN n) 16 1 (b2n on)]
def State.pinFuncQ (s : State) (n : Nat) : Ans :=
  s.ans [wordOf pinFuncs (s.fld (PMX_PIN n) 0 4), s.fv (PMX_PIN n) 4 5, s.fv (PMX_PIN n) 12 2, s.fv (PMX_PIN n) 16 1]
def State.pinGpoU (s : State) (n hi : Nat) : UnitR := s.cfg .aon [chg PMX_GPO n 1 hi]
def State.pinLevelQ (s : State) (n : Nat) : Ans := s.ans [s.fv PMX_IN n 1]

/-! ### YARD -/

/-- The word of an event source (R116). -/
def yardWord (c : Nat) : RVal := wordOf yardSrcs c

/-- `YARD:ROUTE` sets the whole route, enabled. -/
def State.yardRouteU (s : State) (k src task target : Nat) (edge : Edge3) : UnitR :=
  s.cfg .aon [chg (YRD_ROUTE k) 0 1 1, chg (YRD_ROUTE k) 2 2 (edgeCode edge), chg (YRD_ROUTE k) 4 7 src,
    chg (YRD_ROUTE k) 12 3 task, chg (YRD_ROUTE k) 16 16 target]
def State.yardRouteQ (s : State) (k : Nat) : Ans :=
  let r := YRD_ROUTE k
  s.ans [s.fv r 0 1, yardWord (s.fld r 4 7), wordOf tasks (s.fld r 12 3), s.fv r 16 16,
    wordAt ["RISE", "FALL", "BOTH", "BOTH"] (s.fld r 2 2)]
def State.yardOffU (s : State) (k : Nat) : UnitR := s.cfg .aon [chg (YRD_ROUTE k) 0 1 0]
def State.yardPulseU (s : State) (j : Nat) : UnitR := .ok (s.raise (64 + j))
def State.yardBellU (s : State) (j src : Nat) : UnitR := s.cfg .aon [chg (YRD_BELL_SEL j) 0 7 src]
def State.yardBellQ (s : State) : Ans :=
  s.ans (((List.range 8).map fun j => yardWord (s.fld (YRD_BELL_SEL j) 0 7)) ++ [s.hx YRD_BELL_STAT])
def State.yardLogmaskU (s : State) (src : Nat) (on : Bool) : UnitR :=
  s.cfg .aon [chg (YRD_LOG_MASK (src / 32)) (src % 32) 1 (b2n on)]

/-- `YARD:LOG?` (R127): code and time-stamp count of the oldest entry, which leaves the log. -/
def State.yardLogQ (s : State) : Ans :=
  let r := s.logPop
  ([.dec (bits r.1.toNat 7 7), .hex 14 (bits r.1.toNat 16 56)], r.2)
def State.yardCoincQ (s : State) (t : Nat) : Ans := s.ansClr [YRD_COINC t] [s.nm (YRD_COINC t)]
def State.yardIgnQ (s : State) (t : Nat) : Ans := s.ansClr [YRD_IGN t] [s.nm (YRD_IGN t)]
def State.yardAbortedQ (s : State) : Ans := s.ansClr [YRD_ABORT_DISC] [s.nm YRD_ABORT_DISC]
def State.yardSnapQ (s : State) : Ans :=
  s.ans [s.qv YRD_SNAP_Q0, .dec (s.regN (YRD_SNAP_TIDE 0) + s.regN (YRD_SNAP_TIDE 1) * 2 ^ 32)]

/-- A query of the last eight Damisk rows. -/
def State.yardAns (s : State) : YardQ → Ans
  | .func n => s.pinFuncQ n
  | .level n => s.pinLevelQ n
  | .bell => s.yardBellQ
  | .log => s.yardLogQ
  | .coinc t => s.yardCoincQ t
  | .ign t => s.yardIgnQ t
  | .aborted => s.yardAbortedQ
  | .snap => s.yardSnapQ

/-! ### The rows -/

/-- R130. PIN:FUNC assigns a pin's function, index and park state. -/
def execPinFunc (p : Fin 3) (n : Nat) (func : Nat) (index : Nat) (park : Option Nat) (s : State) : Out :=
  s.cmdRow p (argsBad (.pinFunc p n func index park)) (·.pinFuncU n func index park)

/-- R131. PIN:INV sets a pin's INV, which is a switch. -/
def execPinInv (p : Fin 3) (n : Nat) (on : Bool) (s : State) : Out :=
  s.cmdRow p (argsBad (.pinInv p n on)) (·.pinInvU n on)

/-- R128. PIN:GPO sets a pin's GPO level. -/
def execPinGpo (p : Fin 3) (n : Nat) (hi : Nat) (s : State) : Out :=
  s.cmdRow p (argsBad (.pinGpo p n hi)) (·.pinGpoU n hi)

/-- R119. YARD:ROUTE sets and enables a route. -/
def execYardRoute (p : Fin 3) (k : Nat) (src : Nat) (task : Nat) (target : Nat) (edge : Edge3) (s : State) : Out :=
  s.cmdRow p (argsBad (.yardRoute p k src task target edge)) (·.yardRouteU k src task target edge)

/-- R572. YARD:ROUTE? returns a route. -/
def execYardRouteQuery (p : Fin 3) (k : Nat) (s : State) : Out :=
  s.qryRow p (argsBad (.yardRouteQuery p k)) (·.yardRouteQ k)

/-- R119. YARD:OFF disables a route. -/
def execYardOff (p : Fin 3) (k : Nat) (s : State) : Out :=
  s.cmdRow p (argsBad (.yardOff p k)) (·.yardOffU k)

/-- R118. YARD:PULSE registers SOFTj at the commit. -/
def execYardPulse (p : Fin 3) (j : Nat) (s : State) : Out :=
  s.cmdRow p (argsBad (.yardPulse p j)) (·.yardPulseU j)

/-- R125. YARD:BELL selects a user Bell source's event. -/
def execYardBell (p : Fin 3) (j : Nat) (src : Nat) (s : State) : Out :=
  s.cmdRow p (argsBad (.yardBell p j src)) (·.yardBellU j src)

/-- R126. YARD:LOGMASK enables or disables logging of an event code. -/
def execYardLogmask (p : Fin 3) (src : Nat) (on : Bool) (s : State) : Out :=
  s.cmdRow p (argsBad (.yardLogmask p src on)) (·.yardLogmaskU src on)

/-- R572. PIN:FUNC? returns a pin's function settings. -/
def execPinFuncQuery (p : Fin 3) (n : Nat) (s : State) : Out :=
  s.qryRow p (LineUnit.yard (.func n)).bad (·.yardAns (.func n))

/-- R572. PIN:LEVEL? returns a pin's synchronised level. -/
def execPinLevelQuery (p : Fin 3) (n : Nat) (s : State) : Out :=
  s.qryRow p (LineUnit.yard (.level n)).bad (·.yardAns (.level n))

/-- R572. YARD:BELL? returns the user Bell selections and status. -/
def execYardBellQuery (p : Fin 3) (s : State) : Out :=
  s.qryRow p (LineUnit.yard .bell).bad (·.yardAns .bell)

/-- R127. YARD:LOG? returns and removes the oldest log entry. -/
def execYardLogQuery (p : Fin 3) (s : State) : Out :=
  s.qryRow p (LineUnit.yard .log).bad (·.yardAns .log)

/-- R122. YARD:COINC? returns and clears a task's coincidence count. -/
def execYardCoincQuery (p : Fin 3) (task : Nat) (s : State) : Out :=
  s.qryRow p (LineUnit.yard (.coinc task)).bad (·.yardAns (.coinc task))

/-- R123. YARD:IGN? returns and clears a task's ignored count. -/
def execYardIgnQuery (p : Fin 3) (task : Nat) (s : State) : Out :=
  s.qryRow p (LineUnit.yard (.ign task)).bad (·.yardAns (.ign task))

/-- R137. YARD:ABORTED? returns and clears YRD_ABORT_DISC. -/
def execYardAbortedQuery (p : Fin 3) (s : State) : Out :=
  s.qryRow p (LineUnit.yard .aborted).bad (·.yardAns .aborted)

/-- R124. YARD:SNAP? returns the latched snapshot stamp and tide number. -/
def execYardSnapQuery (p : Fin 3) (s : State) : Out :=
  s.qryRow p (LineUnit.yard .snap).bad (·.yardAns .snap)

end Sys2Proof.Machine
end

