-- ==== Sys2Proof/Machine/Time.lean ====
section
/-! DEFINITION. The passing of RCLK cycles (R7, R42, R50 to R56): the tide cycle, the time base, time of day and its
discipline, and the HRPWM period counters. -/

namespace Sys2Proof.Machine

/-- The second roll-over (R51, R53, R54): the excess in nanoseconds and the next second, or a staged set whose roll-over
this is, at time-base instant tb. -/
def State.rollOver (s : State) (excess : Nat) (tb : BitVec 56) : State :=
  if s.bit TIM_STAT 0 && s.tod.setSkip == 0 then
    ({ s with tod := { s.tod with sec := s.tod.setSec, ns := s.tod.setNs, slew := 0, setAt := some tb } }).setBit TIM_STAT 0 false
  else { s with tod := { s.tod with sec := s.tod.sec + 1, ns := excess, setSkip := s.tod.setSkip - 1 } }

/-- The sign of the slew step of a cycle on the given place of the hundred: none but on the last place (R55). -/
def slewSign (phase : Nat) (slew : Int) : Int := if phase = 99 then slew.sign else 0

/-- The RCLK cycles from some nanoseconds, place and slew remainder to the second roll-over (R51, R55). -/
def rollIn : Nat → Nat → Nat → Int → Nat
  | 0, _, _, _ => 0
  | f + 1, ns, phase, slew =>
    if slew = 0 then (1000000000 - ns + 9) / 10
    else
      let d := slewSign phase slew
      let ns := ((ns : Int) + 10 + d).toNat
      if 1000000000 ≤ ns then 1 else rollIn f ns ((phase + 1) % 100) (slew - d) + 1

/-- The RCLK cycles to the second roll-over, where it lies within 1100. -/
def State.toRoll (s : State) : Nat := rollIn 1100 s.tod.ns s.tod.phase s.tod.slew

/-- One RCLK cycle of time of day while a slew remainder is left, ending at time-base instant tb (R51, R55). -/
def State.todSlew (s : State) (tb : BitVec 56) : State :=
  let d := slewSign s.tod.phase s.tod.slew
  let ns := ((s.tod.ns : Int) + 10 + d).toNat
  let s := { s with tod := { s.tod with ns := ns, slew := s.tod.slew - d, phase := (s.tod.phase + 1) % 100 } }
  if ns < 1000000000 then s else s.rollOver (ns - 1000000000) tb

/-- Time of day advances by n RCLK cycles from time-base instant tb (R51, R55). -/
def State.todPass : Nat → Nat → BitVec 56 → State → State
  | 0, _, _, s => s
  | f + 1, n, tb, s =>
    if n = 0 then s
    else if s.tod.slew ≠ 0 then todPass f (n - 1) (tb + 5) (s.todSlew (tb + 5))
    else
      let k := (1000000000 - s.tod.ns + 9) / 10
      let pass := fun (m : Nat) => { s with tod := { s.tod with ns := s.tod.ns + 10 * m, phase := (s.tod.phase + m) % 100 } }
      if n < k then pass n
      else
        let at_ := tb + BitVec.ofNat 56 (5 * k)
        todPass f (n - k) at_ ((pass k).rollOver (s.tod.ns + 10 * k - 1000000000) at_)

/-- n RCLK cycles pass on which nothing is due but the counters: the tide cycle and the time base, 5 counts to the cycle (R42,
R50), time of day, and the HRPWM counters (R424). -/
def State.pass (s : State) (n : Nat) : State :=
  let s := State.todPass (n + 8) n s.tide.tb { s.creep with edge := EdgeSt.reset }
  let s := { s with tide := { s.tide with cycle := s.tide.cycle + n, tb := s.tide.tb + BitVec.ofNat 56 (5 * n) } }
  s.pwmAdvance n

/-- What is due on an edge that is no tide edge (R121, R397, R430): fast trips latch, the Yard delivers, the loops do what the
cycle has for them, and the Bell follows. -/
def State.edgeDue (s : State) : State :=
  if s.tide.len ≤ s.tide.cycle then s else s.fastLatch.arrive.slcDue.bellSettle

/-- One RCLK edge ends and the next one comes, before what is due on it. -/
def State.edgeMove (s : State) : State := (((((s.dropTurned 0).dropTurned 1).dropTurned 2).endsForm.edgeClose.fastCount).bellEdge.pass 1).slcShow.ldacDue

/-- One RCLK edge ends and the next one comes. -/
def State.nextEdge (s : State) : State := s.edgeMove.edgeDue

/-- No edge of the coming cycles has anything due but the counters. -/
def State.quiet (s : State) : Bool := s.yardQuiet && s.prt.wait.isEmpty && s.noTurned && !s.endsDue && s.slcQuiet &&
  s.slip.pulse.isNone && s.bellQuiet

/-- n RCLK edges come: one by one while something is due, at once where nothing is. -/
def State.advanceN : Nat → State → State
  | 0, s => s
  | n + 1, s => if s.quiet then s.pass (n + 1) else advanceN n s.nextEdge

/-- n RCLK cycles pass. Without RCLK, and while a reset is asserted, nothing advances (R67, R182). -/
def State.advance (s : State) (n : Nat) : State :=
  if s.tide.rclk && !s.pwr.held then s.advanceN n else s

/-- n RCLK edges come, the last one before what is due on it. -/
def State.toInstant (s : State) (n : Nat) : State :=
  match n with
  | 0 => s
  | n + 1 => (s.advance n).edgeMove

/-- What an idle step does: one RCLK cycle passes on which no row acts. At the last cycle of the tide the block
waits for the row that is the tide edge (log 3). -/
def State.tick (s : State) : State :=
  if s.tide.cycle + 1 < s.tide.len then s.advance 1 else s

/-- The tide comes to a cycle of the ledger, where it has not passed it (R35, log 3). -/
def State.toCycle (s : State) (c : Nat) : State := if c < s.tide.len then s.advance (c - s.tide.cycle) else s

/-- The tide comes to its end: the instant of the next tide edge. -/
def State.toEdge (s : State) : State := s.advance (s.tide.len - s.tide.cycle)

/-- What a row does that acts at a tide edge ahead of the changes of its boundary (R176): at the edge that began the tide
where no cycle has passed since, and at the coming one otherwise. -/
def State.atEdge (s : State) (can : State → Bool) (f : State → State) : State :=
  if s.tide.cycle = 0 then (if can s then f s else s)
  else
    let t := s.toEdge
    if can t then
      let r := f { t with tide := { t.tide with number := t.tide.number + 1 } }
      { r with tide := { r.tide with number := t.tide.number } }
    else s

/-! ### Time of day (R51 to R56) -/

/-- The second roll-over, where it comes before the tide's end. -/
def State.secondRoll (s : State) : State := if s.tide.cycle + s.toRoll < s.tide.len then s.advance s.toRoll else s

/-- The tide comes to its next slew step (R55): the hundredth RCLK cycle of the count, where a remainder is left and the step
comes before the tide's end. -/
def State.slewStep (s : State) : State :=
  let n := 100 - s.tod.phase
  if s.tod.slew = 0 || s.tide.len ≤ s.tide.cycle + n then s else s.advance n

/-- The error e of a 1PPS edge (R56). -/
def State.ppsError (s : State) : Int := if s.tod.ns < 500000000 then s.tod.ns else (s.tod.ns : Int) - 1000000000

/-- A 1PPS edge lies 1 s ± 100 µs after the last accepted one, or is the first (R56). -/
def State.ppsOk (s : State) : Bool :=
  match s.tod.ppsLast with
  | none => true
  | some t => let d := (s.tide.tb - t).toNat; 499950000 ≤ d && d ≤ 500050000

/-- An accepted edge disciplines time of day by a slew or a step (R56, R63), and by neither where a set committed on its
edge (R62). A TIM_ADJ written on the same edge adds to the new remainder (R63). -/
def State.ppsAct (s : State) : State :=
  let e := s.ppsError
  if s.tod.setAt = some s.tide.tb then { s with tod := { s.tod with ppsSlews := 0 } }
  else if e.natAbs ≤ 1000 * s.fld TIM_PPS_CTRL 8 16 || !s.bit TIM_PPS_CTRL 2 then
    let adj := if s.tod.adjAt = some s.tide.tb then s.tod.adjSum else 0
    { s with tod := { s.tod with slew := clampInt (-(2 ^ 31 - 1)) (2 ^ 31 - 1) (-e + adj), ppsSlews := min 2 (s.tod.ppsSlews + 1) } }
  else
    ({ s with tod := { s.tod with
        sec := if 500000000 ≤ s.tod.ns then s.tod.sec + 1 else s.tod.sec, ns := 0, slew := 0, ppsSlews := 0 } }).flag TIM_STAT 6

/-- A pin carries the PPS input and is not in its park window (R128, R131). -/
def State.ppsPin (s : State) : Bool :=
  match s.pinOf 11 0 with
  | some n => !s.yard.park.getLsbD n
  | none => false

/-- A 1PPS edge (R56, R116): ignored while the discipline is off or where it is not of the selected polarity. -/
def State.ppsEdge (s : State) (falling : Bool) : State :=
  if !s.bit TIM_PPS_CTRL 0 || s.bit TIM_PPS_CTRL 1 != falling || !s.ppsPin then s
  else if !s.ppsOk then s.countFld TIM_PPS_COUNT 16 16 1
  else
    let s := s.setRegN TIM_PPS_ERR (ofSigned 32 s.ppsError)
    let s := (s.setReg72 TIM_PPS_TS_Q0 s.now).setFld TIM_PPS_COUNT 0 16 (s.fld TIM_PPS_COUNT 0 16 + 1)
    (({ s with tod := { s.tod with ppsLast := some s.tide.tb } }).ppsAct).raise 6

/-- No accepted 1PPS edge for 1.5 s, from the last one or from the enabling of the discipline (R56). -/
def State.ppsLost (s : State) : State :=
  if s.bit TIM_PPS_CTRL 0 && 750000000 ≤ (s.tide.tb - s.tod.ppsLast.getD s.tod.ppsFrom).toNat then
    ({ s with tod := { s.tod with ppsSlews := 0 } }).flag TIM_STAT 5
  else s

end Sys2Proof.Machine
end

