-- ==== Sys2Proof/Machine/Units.lean ====
section
/-! DEFINITION. What a unit of a line does: the same meaning the row of its own has. -/

namespace Sys2Proof.Machine

/-- The change a command unit makes; none for a query. -/
def rowChange (p : Fin 3) (i : Instr) (s : State) : Option UnitR :=
  match i with
  | .sysTide _ n => some (s.sysTideU n)
  | .sysGuard _ e => some (s.sysGuardU e)
  | .sysUart _ baud rts => some (s.sysUartU baud rts)
  | .sysEcho _ on => some (s.sysEchoU p on)
  | .sysNotify _ mask => some (s.sysNotifyU p mask)
  | .timeSet _ sec ns => some (s.timeSetU sec ns)
  | .timeCancel _ => some (s.timeCancelU)
  | .timeAdj _ t => some (s.timeAdjU t)
  | .timePps _ on fall => some (s.timePpsU on fall)
  | .timePpslim _ t step => some (s.timePpslimU t step)
  | .reg _ off v => some (s.regU off v)
  | .clkAclk _ fcw => some (s.clkAclkU fcw)
  | .clkFcw _ v => some (s.clkFcwU v)
  | .clkBw _ h n => some (s.clkBwU h n)
  | .clkLockwin _ h n => some (s.clkLockwinU h n)
  | .clkPhlim _ h n => some (s.clkPhlimU h n)
  | .clkAutores _ h on => some (s.clkAutoresU h on)
  | .clkResume _ h => some (s.clkResumeU h)
  | .clkDdr _ r => some (s.clkDdrU r)
  | .clkSync _ on esync fall mask cont => some (s.clkSyncU on esync fall mask cont)
  | .pwrOn _ d => some (s.pwrOnU d)
  | .pwrOff _ d => some (s.pwrOffU d)
  | .pwrPerst _ host => some (s.pwrPerstU host)
  | .berthRoute _ n mask => some (s.berthRouteU n mask)
  | .berthMap _ v => some (s.berthMapU v)
  | .berthCal _ run which => some (s.berthCalU run which)
  | .berthBgclear _ => some (s.berthBgclearU)
  | .berthTrim _ b v => some (s.berthTrimU b v)
  | .berthCalofs _ b v => some (s.berthCalofsU b v)
  | .berthCalgain _ b v => some (s.berthCalgainU b v)
  | .berthMonchk _ n on => some (s.berthMonchkU n on)
  | .berthMonstream _ mask => some (s.berthMonstreamU mask)
  | .pilotComp _ n th hyst edge => some (s.pilotCompU n th hyst edge)
  | .pilotDly _ src v => some (s.pilotDlyU src v)
  | .pilotTrigin _ j th edge => some (s.pilotTriginU j th edge)
  | .pilotDig _ d ch ty dir th1 th2 hyst ovrq => some (s.pilotDigU d ch ty dir th1 th2 hyst ovrq)
  | .pilotWidth _ d cond w1 w2 => some (s.pilotWidthU d cond w1 w2)
  | .pilotSpan _ d n => some (s.pilotSpanU d n)
  | .pilotEng _ g ab srcA srcB win => some (s.pilotEngU g ab srcA srcB win)
  | .pilotRef _ g ch => some (s.pilotRefU g ch)
  | .pilotQual _ g src pol => some (s.pilotQualU g src pol)
  | .pilotHold _ g count v => some (s.pilotHoldU g count v)
  | .pilotOn _ g => some (s.pilotOnU g)
  | .pilotOff _ g => some (s.pilotOffU g)
  | .pilotEfire _ on src group width => some (s.pilotEfireU on src group width)
  | .pilotTrigout _ j mode sel width => some (s.pilotTrigoutU j mode sel width)
  | .trig _ gs => some (s.trigU gs)
  | .acqGroup _ g stream mask => some (s.acqGroupU g stream mask)
  | .acqMem _ g mem base size => some (s.acqMemU g mem base size)
  | .acqDisarm _ g => some (s.acqDisarmU g)
  | .arm _ gs => some (s.armsU gs)
  | .segLen _ g pre post => some (s.segLenU g pre post)
  | .segOverlap _ g on => some (s.segOverlapU g on)
  | .segBuf _ g ring count => some (s.segBufU g ring count)
  | .segDir _ mem base len => some (s.segDirU mem base len)
  | .streamSrc _ g wmark => some (s.streamSrcU g wmark)
  | .streamBlock _ g log2 nbuf => some (s.streamBlockU g log2 nbuf)
  | .streamStart _ g => some (s.streamStartU g)
  | .streamStop _ g => some (s.streamStopU g)
  | .wmarkSet _ g mode d => some (s.wmarkSetU g mode d)
  | .whouseHist _ h src res ovrx => some (s.whouseHistU h src res ovrx)
  | .whouseGate _ h seg group => some (s.whouseGateU h seg group)
  | .whouseTwin _ h ofs shift => some (s.whouseTwinU h ofs shift)
  | .whouseFlusht _ h t => some (s.whouseFlushtU h t)
  | .whouseMem _ obj mem base => some (s.whouseMemU obj mem base)
  | .whouseMap _ m group ch cols rows ovrx => some (s.whouseMapU m group ch cols rows ovrx)
  | .whouseRate _ m r => some (s.whouseRateU m r)
  | .whouseDecay _ m k => some (s.whouseDecayU m k)
  | .whouseStart _ obj clear => some (s.whouseStartU obj clear)
  | .whouseStop _ obj => some (s.whouseStopU obj)
  | .whouseFlush _ h => some (s.whouseFlushU h)
  | .dockCfg _ n x16 dens8 ranks => some (s.dockCfgU n x16 dens8 ranks)
  | .dockCfgNone _ n => some (s.dockCfgNoneU n)
  | .dockTim _ n cl cwl trcd trp twr trc tfaw trfc trrdl tccdl => some (s.dockTimU n cl cwl trcd trp twr trc tfaw trfc trrdl tccdl)
  | .dockTrain _ n => some (s.dockTrainU n)
  | .dockFerry _ n units => some (s.dockFerryU n units)
  | .tallyIn _ l src edge => some (s.tallyInU l src edge)
  | .tallyMode _ l mode partner => some (s.tallyModeU l mode partner)
  | .tallyHold _ l t => some (s.tallyHoldU l t)
  | .tallyGate _ l t => some (s.tallyGateU l t)
  | .tallyStill _ l t => some (s.tallyStillU l t)
  | .tallyDly _ l v => some (s.tallyDlyU l v)
  | .tallyEdgein _ j th hyst => some (s.tallyEdgeinU j th hyst)
  | .tallyStats _ l n cont => some (s.tallyStatsU l n cont)
  | .tallyStart _ l => some (s.tallyStartU l)
  | .tallyStop _ l => some (s.tallyStopU l)
  | .tallyCal _ m => some (s.tallyCalU m)
  | .knobCfg _ filt still inv => some (s.knobCfgU filt still inv)
  | .knobPos _ v => some (s.knobPosU v)
  | .knobSvc _ on loop detent => some (s.knobSvcU on loop detent)
  | .knobLim _ mn mx => some (s.knobLimU mn mx)
  | .knobAcc _ i thresh step => some (s.knobAccU i thresh step)
  | .sluiceMode _ n mode => some (s.sluiceModeU n mode)
  | .sluiceIn _ n ch neg => some (s.sluiceInU n ch neg)
  | .sluiceShare _ n on => some (s.sluiceShareU n on)
  | .sluiceLaw _ n hyst band => some (s.sluiceLawU n hyst band)
  | .sluiceTiming _ n deadline cycle => some (s.sluiceTimingU n deadline cycle)
  | .sluicePair _ n on => some (s.sluicePairU n on)
  | .sluicePorts _ n mask => some (s.sluicePortsU n mask)
  | .sluicePhsrc _ n src => some (s.sluicePhsrcU n src)
  | .sluiceSwpreset _ n on => some (s.sluiceSwpresetU n on)
  | .sluiceSetp _ n code => some (s.sluiceSetpU n code)
  | .sluiceManout _ n v => some (s.sluiceManoutU n v)
  | .sluiceSafe _ n v => some (s.sluiceSafeU n v)
  | .sluiceOutlim _ n mn mx => some (s.sluiceOutlimU n mn mx)
  | .sluiceIlim _ n lo hi => some (s.sluiceIlimU n lo hi)
  | .sluiceStages _ n k => some (s.sluiceStagesU n k)
  | .sluiceCoef _ n k b0 b1 b2 a1 a2 => some (s.sluiceCoefU n k b0 b1 b2 a1 a2)
  | .sluiceCoefraw _ n k e m0 m1 m2 m3 m4 => some (s.sluiceCoefrawU n k e m0 m1 m2 m3 m4)
  | .sluiceKi _ n ki => some (s.sluiceKiU n ki)
  | .sluiceDband _ n i v => some (s.sluiceDbandU n i v)
  | .sluiceRipple _ n i v => some (s.sluiceRippleU n i v)
  | .sluiceSwap _ ns => some (s.sluiceSwapU ns)
  | .sluiceMoorafter _ n => some (s.sluiceMoorafterU n)
  | .listEntry _ i sp dwell => some (s.listEntryU i sp dwell)
  | .listRange _ n first last rep => some (s.listRangeU n first last rep)
  | .listRun _ n => some (s.listRunUnit n)
  | .listStop _ n => some (s.listStopUnit n)
  | .listStep _ n => some (s.listStepUnit n)
  | .slipMode _ k mode => some (s.slipModeU k mode)
  | .slipBus _ sckdiv cpol ldac cyc => some (s.slipBusU sckdiv cpol ldac cyc)
  | .slipFrame _ k len vbits vpos prefixv signed ldac => some (s.slipFrameU k len vbits vpos prefixv signed ldac)
  | .slipPwm _ k per phase hshift bmode dt => some (s.slipPwmU k per phase hshift bmode dt)
  | .slipSafe _ k v => some (s.slipSafeU k v)
  | .slipValue _ k v => some (s.slipValueU k v)
  | .protChan _ n v i => some (s.protChanU n v i)
  | .protLimit _ n kind value => some (s.protLimitU n kind value)
  | .protPersist _ n k => some (s.protPersistU n k)
  | .protUvdly _ n k => some (s.protUvdlyU n k)
  | .protOvrt _ n on => some (s.protOvrtU n on)
  | .protFast _ n th below mask => some (s.protFastU n th below mask)
  | .protFastOff _ n => some (s.protFastOffU n)
  | .protTripout _ j mask => some (s.protTripoutU j mask)
  | .protMoor _ ns => some (s.protMoorU ns)
  | .protClear _ ns => some (s.protClearU ns)
  | .bellEn _ n on => some (s.bellEnU n on)
  | .bellTarget _ t on count time => some (s.bellTargetU t on count time)
  | .bellVec _ n v => some (s.bellVecU n v)
  | .bellComplete _ t n => some (s.bellCompleteU t n)
  | .ferryRing _ r ty szlog2 groups => some (s.ferryRingU r ty szlog2 groups)
  | .ferryBase _ r d c => some (s.ferryBaseU r d c)
  | .ferryMod _ r every hold => some (s.ferryModU r every hold)
  | .ferryStart _ r => some (s.ferryStartU r)
  | .ferryStop _ r => some (s.ferryStopU r)
  | .ferryResume _ r => some (s.ferryResumeU r)
  | .ferryPost _ r n => some (s.ferryPostU r n)
  | .ferryBar2 _ mem base => some (s.ferryBar2U mem base)
  | .ferryAbrec _ addr => some (s.ferryAbrecU addr)
  | .emicaRole _ role slot => some (s.emicaRoleU role slot)
  | .emicaMembers _ mask => some (s.emicaMembersU mask)
  | .emicaShare _ ch on => some (s.emicaShareU ch on)
  | .emicaGain _ ks clamp => some (s.emicaGainU ks clamp)
  | .emicaMoor _ on => some (s.emicaMoorU on)
  | .emicaCalrx _ on => some (s.emicaCalrxU on)
  | .emicaEarm _ mask => some (s.emicaEarmU mask)
  | .emicaAlign _ => some (s.emicaAlignU)
  | .emicaArm _ => some (s.emicaArmU)
  | .emicaCalfire _ => some (s.emicaCalfireU)
  | .emicaCal _ v => some (s.emicaCalU v)
  | .emicaShclr _ => some (s.emicaShclrU)
  | .storeSave _ rec => some (s.storeSaveU rec)
  | .storeRecall _ rec trim => some (s.storeRecallU rec trim)
  | .storeApply _ => some (s.storeApplyU)
  | .storeVerify _ rec => some (s.storeVerifyU rec)
  | .pinFunc _ n func index park => some (s.pinFuncU n func index park)
  | .pinInv _ n on => some (s.pinInvU n on)
  | .pinGpo _ n hi => some (s.pinGpoU n hi)
  | .yardRoute _ k src task target edge => some (s.yardRouteU k src task target edge)
  | .yardOff _ k => some (s.yardOffU k)
  | .yardPulse _ j => some (s.yardPulseU j)
  | .yardBell _ j src => some (s.yardBellU j src)
  | .yardLogmask _ src on => some (s.yardLogmaskU src on)
  | .sysReset _ => some (.ok (s.assertReset 3))
  | _ => none

/-- What a query unit answers; none for a command. -/
def rowAnswer (p : Fin 3) (i : Instr) (s : State) : Option Ans :=
  match i with
  | .sysIdQuery _ => some (s.sysIdQ)
  | .sysStepQuery _ => some (s.sysStepQ)
  | .sysTideQuery _ => some (s.sysTideQ)
  | .sysTidenumQuery _ => some (s.sysTidenumQ)
  | .sysEpochQuery _ => some (s.sysEpochQ)
  | .sysConflictQuery _ => some (s.sysConflictQ)
  | .sysErrQuery _ => some (s.sysErrQ p)
  | .timeQuery _ => some (s.timeQ)
  | .timePpsQuery _ => some (s.timePpsQ)
  | .timeStampQuery _ => some (s.timeStampQ)
  | .regQuery _ off => some (s.regQ p off)
  | .clkAclkQuery _ => some (s.clkAclkQ)
  | .clkStatQuery _ => some (s.clkStatQ)
  | .clkCountQuery _ h => some (s.clkCountQ h)
  | .pwrStateQuery _ d => some (s.pwrStateQ d)
  | .pwrDiscQuery _ d => some (s.pwrDiscQ d)
  | .pwrCauseQuery _ => some (s.pwrCauseQ)
  | .berthRouteQuery _ n => some (s.berthRouteQ n)
  | .berthMapQuery _ => some (s.berthMapQ)
  | .berthCalQuery _ => some (s.berthCalQ)
  | .berthTrimQuery _ b => some (s.berthTrimQ b)
  | .berthMonQuery _ n => some (s.berthMonQ n)
  | .berthSnapQuery _ n => some (s.berthSnapQ n)
  | .berthOvrQuery _ b => some (s.berthOvrQ b)
  | .berthStatQuery _ => some (s.berthStatQ)
  | .pilotCompQuery _ n => some (s.pilotCompQ n)
  | .pilotDlyQuery _ src => some (s.pilotDlyQ src)
  | .pilotEngQuery _ g => some (s.pilotEngQ g)
  | .pilotLastQuery _ g => some (s.pilotLastQ g)
  | .pilotCountQuery _ g => some (s.pilotCountQ g)
  | .acqGroupQuery _ g => some (s.acqGroupQ g)
  | .acqStatQuery _ g => some (s.acqStatQ g)
  | .acqDeadQuery _ g => some (s.acqDeadQ g)
  | .segDirQuery _ => some (s.segDirQ)
  | .segSeqQuery _ => some (s.segSeqQ)
  | .streamGapQuery _ g => some (s.streamGapQ g)
  | .wmarkSetQuery _ g => some (s.wmarkSetQ g)
  | .whouseStatQuery _ obj => some (s.whouseStatQ obj)
  | .whouseBinsQuery _ => some (s.whouseBinsQ)
  | .dockCfgQuery _ n => some (s.dockCfgQ n)
  | .dockCalQuery _ n => some (s.dockCalQ n)
  | .dockRefuseQuery _ => some (s.dockRefuseQ)
  | .dockStatQuery _ n => some (s.dockStatQ n)
  | .dockErrQuery _ n => some (s.dockErrQ n)
  | .tallyResQuery _ l => some (s.tallyResQ l)
  | .tallyReadQuery _ l => some (s.tallyReadQ l)
  | .tallyStatQuery _ l => some (s.tallyStatQ l)
  | .tallyCalQuery _ => some (s.tallyCalQ)
  | .knobPosQuery _ => some (s.knobPosQ)
  | .sluiceStatQuery _ n => some (s.sluiceStatQ n)
  | .sluiceMissedQuery _ n => some (s.sluiceMissedQ n)
  | .listStatQuery _ n => some (s.listStatQ n)
  | .slipStatQuery _ k => some (s.slipStatQ k)
  | .protStatQuery _ => some (s.protStatQ)
  | .bellEnQuery _ => some (s.bellEnQ)
  | .bellTargetQuery _ t => some (s.bellTargetQ t)
  | .bellClaimQuery _ t => some (s.bellClaimQ t)
  | .bellStatQuery _ => some (s.bellStatQ)
  | .bellBadQuery _ => some (s.bellBadQ)
  | .ferryStatQuery _ r => some (s.ferryStatQ r)
  | .ferryLinkQuery _ => some (s.ferryLinkQ)
  | .emicaCalQuery _ => some (s.emicaCalQ)
  | .emicaStatQuery _ => some (s.emicaStatQ)
  | .emicaValQuery _ j => some (s.emicaValQ j)
  | .emicaAbsQuery _ j => some (s.emicaAbsQ j)
  | .emicaRigofsQuery _ => some (s.emicaRigofsQ)
  | .storeStatQuery _ => some (s.storeStatQ)
  | .storeIdentQuery _ => some (s.storeIdentQ)
  | .storeRawQuery _ addr => some (s.storeRawQ addr)
  | .yardRouteQuery _ k => some (s.yardRouteQ k)
  | _ => none

/-- The same for a unit of a line. -/
def LineUnit.change (p : Fin 3) (u : LineUnit) (s : State) : Option UnitR :=
  match u with
  | .row i => rowChange p i s
  | .yard _ => none
def LineUnit.answer (p : Fin 3) (u : LineUnit) (s : State) : Option Ans :=
  match u with
  | .row i => rowAnswer p i s
  | .yard q => some (s.yardAns q)

end Sys2Proof.Machine
end

