-- ==== Sys2Proof/Machine/Lines.lean ====
section
/-! DEFINITION. Lines of the ports (R37, R38, R82 to R92): parsing, staging, what the commands of a line change as one, and the
answers of its queries. -/

namespace Sys2Proof.Machine

/-- A unit that stands alone in its line (R100, R561). -/
def LineUnit.solo : LineUnit → Bool
  | .row (.sysReset _) => true
  | .row (.abort _) => true
  | _ => false

/-- The commands of a line in unit order, each on the state the ones before it leave (R37, R40); or the number of the first
that is refused and its error. A reset that one of them asserts ends the line (R182, R183). -/
def changeUnits (p : Fin 3) (alone : Bool) : Nat → List LineUnit → State → Except (Nat × Nat) State
  | _, [], s => .ok s
  | k, u :: t, s =>
    if u.solo && !alone then .error (k, 203)
    else match u.change p s with
      | none => changeUnits p alone (k + 1) t s
      | some (.ok r) => if r.pwr.held then .ok r else changeUnits p alone (k + 1) t r
      | some (.error e) => .error (k, e)

/-- The queries of a line in unit order: their values, and the state they leave (R90, R92). -/
def answerUnits (p : Fin 3) : List LineUnit → State → List (List RVal) × State
  | [], s => ([], s)
  | u :: t, s => match u.answer p s with
    | none => answerUnits p t s
    | some (vs, s) =>
      let r := answerUnits p t s
      (vs :: r.1, r.2)

/-- A line made of queries only (R38). -/
def State.allQueries (s : State) (p : Fin 3) (us : List LineUnit) : Bool := us.all fun u => (u.answer p s).isSome

/-! ### Staged lines -/

/-- The units of the line of a port staged with a serial number. -/
def State.stagedUnits (s : State) (p : Fin 3) (k : Nat) : Option (List LineUnit) :=
  (s.port p).queue.findSome? fun l => match l.st with
    | .staged us _ _ j => if j = k then some us else none
    | _ => none

/-- How many responses a port places up to that of the line staged with a serial number. -/
def State.placeOf (s : State) (p : Fin 3) (k : Nat) : Nat :=
  ((s.port p).queue.takeWhile fun l => match l.st with
    | .staged _ _ _ j => j != k
    | _ => true).length + 1

/-- Answer the line of a port staged with a serial number. -/
def State.answerStaged (s : State) (p : Fin 3) (k : Nat) (r : Resp) : State :=
  let f := fun (l : Line) => match l.st with
    | .staged _ _ _ j => if j = k then { l with st := .answered r } else l
    | _ => l
  s.setPort p { s.port p with queue := (s.port p).queue.map f }

/-- A line due at the coming boundary: the instant it was staged, its port and its serial number. -/
abbrev DueLine := BitVec 56 × Fin 3 × Nat

/-- Order of staged lines (R43): as staged, and on one RCLK cycle in port order. -/
def DueLine.before (a b : DueLine) : Bool :=
  if a.1 = b.1 then decide (a.2.1 < b.2.1) || (a.2.1 == b.2.1 && decide (a.2.2 < b.2.2)) else decide (a.2.2 < b.2.2)

/-- Insertion of a line into lines in order. -/
def insertDue (x : DueLine) : List DueLine → List DueLine
  | [] => [x]
  | y :: t => if x.before y then x :: y :: t else y :: insertDue x t

/-- The lines that are due at the coming boundary, in the order of R43. -/
def State.dueLines (s : State) : List DueLine :=
  let of := fun (p : Fin 3) => (s.port p).queue.filterMap fun l => match l.st with
    | .staged _ late t k => if late then none else some (t, p, k)
    | _ => none
  (of 0 ++ of 1 ++ of 2).foldr insertDue []

/-- Lines staged after the cut-off are due at the next boundary (R39). -/
def State.lateLines (s : State) (p : Fin 3) : State :=
  let f := fun (l : Line) => match l.st with
    | .staged us _ t k => { l with st := .staged us false t k }
    | _ => l
  s.setPort p { s.port p with queue := (s.port p).queue.map f }

/-! ### Parsing -/

/-- A line that has been parsed takes the place of the one the queue holds behind some others. -/
def State.putLine (s : State) (p : Fin 3) (before after : List Line) (l : Line) : State :=
  s.setPort p { s.port p with queue := before ++ l :: after }

/-- A line refused in the parse stage (R88, R92). -/
def State.parseErr (s : State) (p : Fin 3) (before after : List Line) (l : Line) (code unit arg : Nat) (tagged : Bool) : State :=
  (s.putLine p before after { l with st := .answered (.er code tagged) }).setErr p code unit arg

/-- Parsed units: a line of queries is answered, at once where no earlier line of its port waits (R90, R91); a line with
commands is staged (R39, R88). -/
def State.takeUnits (s : State) (p : Fin 3) (before after : List Line) (l : Line) (us : List LineUnit) : State :=
  if s.allQueries p us then
    if before.isEmpty then
      let r := answerUnits p us s
      r.2.putLine p before after { l with st := .answered (.ok r.1) }
    else s.putLine p before after { l with st := .queries us }
  else
    let k := s.ust.serial
    ({ s with ust := { s.ust with serial := k + 1 } }).putLine p before after { l with st := .staged us s.lateNow s.tide.tb k }

/-- A line has not been parsed. -/
def Line.isText (l : Line) : Bool :=
  match l.st with
  | .text _ _ => true
  | _ => false

/-- Parsing of a port's oldest unparsed line completes (R82 to R92, R107, R112). -/
def State.parseOldest (s : State) (p : Fin 3) : State :=
  let q := (s.port p).queue
  let before := q.takeWhile fun l => !l.isText
  match q.drop before.length with
  | [] => s
  | l :: after =>
    match l.st with
    | .text cs bad =>
      if bad then s.parseErr p before after { l with tag := tagOf cs } 101 1 0 true
      else match parseLine forms p cs with
        | (tag, .err code unit arg tagged) => s.parseErr p before after { l with tag := tag } code unit arg tagged
        | (tag, .bare) => s.putLine p before after { l with tag := tag, st := .answered (.ok []) }
        | (tag, .units us) => s.takeUnits p before after { l with tag := tag } us
    | _ => s

/-! ### Placing -/

/-- A line of queries that has come to the head of its queue reads its values (R91). -/
def State.readHead (s : State) (p : Fin 3) : State :=
  match (s.port p).queue with
  | l :: after =>
    match l.st with
    | .queries us =>
      let r := answerUnits p us s
      r.2.putLine p [] after { l with st := .answered (.ok r.1) }
    | _ => s
  | [] => s

/-- The response at the head of a port's queue is placed (R91, R97, R98, R108), not while an abort is in progress (R102). -/
def State.placeResp (s : State) (p : Fin 3) : State :=
  if s.cmd.abort.isSome || !s.portUp p then s
  else
    let t := s.placeHead p
    let t := if (t.port p).queue.length < (s.port p).queue.length then t.readHead p else t
    t.cond ((t.port p).lines < (s.port p).lines) (·.takeTurned p)

/-- The oldest pending asynchronous line of a port is placed (R93, R110). -/
def State.placeAsync (s : State) (p : Fin 3) : State :=
  if s.cmd.abort.isSome || !s.portUp p then s else s.emitAsync p

/-- A line that holds only a tag arrives (R83); a value above 65 535 is no tag (R107). -/
def State.bareTag (s : State) (p : Fin 3) (tag : Nat) : State :=
  s.lineAt p fun s =>
    if tag ≤ 65535 then s.enqueue p ⟨some tag, .answered (.ok []), true⟩
    else (s.enqueue p ⟨none, .answered (.er 104 false), true⟩).setErr p 104 0 0

/-! ### Links -/

/-- The UART finishes a character (R72, R73). -/
def State.uartSent (s : State) : State :=
  if s.cmd.sending then (({ s with cmd := { s.cmd with sending := false } }).outPop 0 1).uartKick else s

/-- UART_RTS_N changes (R73). -/
def State.uartRts (s : State) (high : Bool) : State := ({ s with cmd := { s.cmd with rtsHigh := high } }).uartKick

/-- DSPI_CS_N falls (R74, R75). -/
def State.spiFall (s : State) (sckHigh : Bool) : State :=
  { s with cmd := { s.cmd with spiMode3 := sckHigh, spiInFrame := true, spiStatus := some s.spiStatusByte } }

/-- A full-duplex SPI byte (R75). -/
def State.spiByte (s : State) (mosi : Byte) : State :=
  if !s.cmd.spiInFrame then s
  else
    let s := match s.cmd.spiStatus with
      | some b => { s with cmd := { s.cmd with spiStatus := none, miso := b } }
      | none => { (s.outPop 1 1) with cmd := { (s.outPop 1 1).cmd with miso := s.cmd.spi.out.headD 0 } }
    s.rxByte 1 mosi

/-- DSPI_CS_N rises (R75, R112), within a byte where `cut`. -/
def State.spiRise (s : State) (cut : Bool) : State :=
  if !s.cmd.spiInFrame then s
  else
    let s := { s with cmd := { s.cmd with spiInFrame := false, spiStatus := none } }
    s.cond cut (·.linkError 1 false)

end Sys2Proof.Machine
end

