-- ==== Sys2Proof/Machine/Tide.lean ====
section
/-! DEFINITION. The tide edge (R35): the boundary of the unit state table (R39 to R46, R59), the other actions of tide
cycle 0, and the edge that ends a shortened tide (R65). -/

namespace Sys2Proof.Machine

/-! ### The boundary of the unit state table -/

/-- A boundary on its way: the registers its PCIe writes have set, those all its changes have set, and the lines that
have committed. -/
structure Bnd where
  s : State
  pcie : List Nat
  all : List Nat
  lines : List (Fin 3 × Nat)
  /-- The domains whose PWR_TARGET bit a line of this boundary sets (R190). -/
  own : Nat

/-- The guards due are compared with STATE_EPOCH, once (R46): an unequal one discards every write it covers, due now or
at the next boundary. -/
def State.guardCheck (s : State) : State :=
  let bad := s.ust.guards.filter fun g => !g.late && g.epoch != s.reg SYS_EPOCH
  let hit := fun (w : StagedWrite) => bad.any fun g => w.cover.contains g.serial
  let n := (s.ust.writes.filter hit).length
  let s := { s with ust := { s.ust with
    writes := s.ust.writes.filter fun w => !hit w
    guards := (s.ust.guards.filter (·.late)).map fun g => { g with late := false, open_ := false } } }
  if bad.isEmpty then s else (s.count SYS_IGNORED n).flag SYS_CONFLICT 1

/-- One staged PCIe write takes effect, or is ignored and counted (R27, R44, R47). -/
def Bnd.write (b : Bnd) (w : StagedWrite) : Bnd :=
  let s := { b.s with ust := { b.s.ust with touched := [] } }
  let v := if w.off = PWR_TARGET then (w.val.toNat &&& (0xFFFFFFFF ^^^ b.own)) ||| (s.powerTarget &&& b.own) else w.val.toNat
  let r := do
    needC s (regDom w.off)
    s.taWrite w.off v w.lo.toNat
  match r with
  | .ok t =>
    let ta := (regRow w.off).any fun r => r.ta != 0
    let set := (if ta then [w.off] else []) ++ t.ust.touched
    { b with s := t.cond ta (·.bumpEpoch), pcie := b.pcie ++ set, all := b.all ++ set }
  | .error e => { b with s := s.ignore.noteRefusal e }

/-- A line that has set what a PCIe write set at the same boundary is reported (R45). -/
def State.override (s : State) (p : Fin 3) (pcie : List Nat) : State :=
  match (s.ust.touched.filter pcie.contains).getLast? with
  | some off => ((s.flag SYS_CONFLICT 0).setFld SYS_CONFLICT 8 2 p.val).setRegN SYS_CONFLICT_ADDR off
  | none => s

/-- One staged line commits whole, or is refused whole with the error of its first refused command (R37, R40, R44). -/
def Bnd.line (b : Bnd) (x : DueLine) : Bnd :=
  let p := x.2.1
  let s := { b.s with ust := { b.s.ust with touched := [] } }
  if s.pwr.held then b
  else match s.stagedUnits p x.2.2 with
  | none => b
  | some us =>
    match changeUnits p (us.length == 1) 1 us s with
    | .ok t =>
      if t.pwr.held then { b with s := t } else
      { b with s := ((t.override p b.pcie).rateAt p (t.placeOf p x.2.2)).bumpEpoch, all := b.all ++ t.ust.touched, lines := b.lines ++ [(p, x.2.2)] }
    | .error (k, e) =>
      { b with s := ((s.noteRefusal e).setErr p (errCode e) k (errArg e)).answerStaged p x.2.2 (.er (errCode e) true) }

/-- The changes staged for the coming boundary take effect in the order of R43, those the checks of the tide have
reached (R59); the others keep their place for the next one. `own` are the domains whose bit lines set (R190). -/
def State.inOrder (s : State) (own : Nat) : Bnd :=
  let due := s.ust.writes.filter fun w => !w.late
  let lines := s.dueLines
  let n := s.tide.reach.getD (due.length + lines.length)
  let s := { s with ust := { s.ust with
    writes := due.drop n ++ (s.ust.writes.filter (·.late)).map fun w => { w with late := false } } }
  let b := (due.take n).foldl Bnd.write ⟨s, [], [], [], own⟩
  let b := (lines.take (n - due.length)).foldl Bnd.line b
  { b with s := ((b.s.lateLines 0).lateLines 1).lateLines 2 }

/-- The domains whose PWR_TARGET bit some staged lines set (R190). -/
def State.powerOwn (s : State) (ls : List (Fin 3 × Nat)) : Nat :=
  ls.foldl (fun m x => (((s.stagedUnits x.1 x.2).getD []).flatMap powerNames).foldl (fun m d => m ||| 2 ^ domNum d) m) 0

/-- The boundary (R29, R39 to R46, R190, R413): a PWR_TARGET write leaves alone the domains whose bit a line that commits sets,
whose value stands; and a trip that a line makes moors its loops ahead of every change. Those are the loops that lines
moor which commit though the loops are moored. -/
def State.boundary (s : State) : Bnd :=
  let s := s.guardCheck.recallApply
  let a := s.inOrder (s.powerOwn (s.dueLines.map (·.2)))
  let own := s.powerOwn a.lines
  let b := if own = a.own then a else s.inOrder own
  if b.s.softNow = 0 then b
  else
    let m := ((s.tripMask b.s.softNow 11 none).inOrder own).s.softNow
    (s.moorCmd m).inOrder own

/-- The queries of the lines that committed are answered with what the boundary has left (R38). -/
def State.answerLines (s : State) (ls : List (Fin 3 × Nat)) : State :=
  ls.foldl (fun s x => match s.stagedUnits x.1 x.2 with
    | some us => let r := answerUnits x.1 us s
                 r.2.answerStaged x.1 x.2 (.ok r.1)
    | none => s) s

/-! ### The knob sum (R375) -/

/-- The knob steps due at the boundary are added to the setpoint of the loop served, or discarded and counted; `set` is
what the changes of the boundary have set. -/
def State.knobSum (s : State) (set : List Nat) : State :=
  let n := s.fld KNB_SVC 4 3
  let x := s.loop n
  if !s.bit KNB_SVC 0 || s.knob.stepsN = 0 then s
  else if set.contains (SLC_L_SETP n) || s.tripped n || x.lst.st == 1 then s.count KNB_DISC 1
  else
    let v := clampInt (s.sfld KNB_LIM 0 16) (s.sfld KNB_LIM 16 16) (s.sfld (SLC_L_SETP n) 0 16 + s.knob.steps)
    ((s.setFld (SLC_L_SETP n) 0 16 (ofSigned 16 v)).modList n fun l => if l.st = 2 then { l with st := 0 } else l).bumpEpoch

/-- The steps of the next boundary come up. -/
def State.knobNext (s : State) : State :=
  s.modKnob fun k => { k with steps := k.later, stepsN := k.laterN, later := 0, laterN := 0 }

/-- The loop the knob serves has a list entry due at this boundary, which comes ahead of the knob sum (R412). -/
def State.knobWaits (s : State) : Bool := (s.loop (s.fld KNB_SVC 4 3)).lst.due

/-- The knob at a boundary (R375): the sum waits where a list entry of its loop is due. -/
def State.knobApply (s : State) (set : List Nat) : State :=
  let s := if s.knob.moved then (s.flag KNB_EVT 0).modKnob fun k => { k with moved := false } else s
  if s.knobWaits then s else (s.knobSum set).knobNext

/-! ### Tide cycle 0 -/

/-- A tide begins: what belonged to the last one is gone. -/
def State.newTide (s : State) : State :=
  let s := { s with tide := { s.tide with number := s.tide.number + 1, cycle := 0, cutoff := false, reach := none } }
  let s := { s with slc := { s.slc with
    loops := s.slc.loops.map fun (x : LoopSt) => { x with manNow := false, swapNow := false, lst := { x.lst with now := false } } } }
  let s := (s.modPrt fun x => { x with saved := none }).modClk fun x => { x with fcwNow := false }
  let s := s.modSlip fun x => { x with ports := x.ports.map fun (y : SlipPort) => { y with value := false } }
  s.cond (!s.tide.windowClosed) (·.modBrt fun x => { x with chans := x.chans.map fun (y : ChanSt) => { y with win := none, winN := 0 } })

/-- The edge is stamped, the Bell timers step, and the Yard's TIDE event is raised (R35, R57, R116, R454). -/
def State.edgeStart (s : State) : State :=
  let s := s.newTide
  let s := (s.setReg72 TIM_EDGE_Q0 s.now).setReg64 (TIM_EDGE_TIDE 0) (TIM_EDGE_TIDE 1) s.tide.number.toNat
  let s := (s.bellTimers.raise 1).drainEdges
  (foldS State.tblSwap (List.range 6) s).skewSettle

/-- The trips due on a tide edge latch ahead of its changes (R29, R413): fast ones, and MOORs the Yard delivers. -/
def State.edgeTrips (s : State) : State := s.fastLatch.arriveMoor

/-- The monitor words of the tide (R219). -/
def State.monTide (s : State) : List Quay :=
  ((List.range 8).filter fun n => s.bit BRT_MON_CFG (8 + n)).map s.monWord

/-- What the edge does after its state table changes: the ports that no tripped loop drives any more, share correction,
tide samples, loop inputs, calibration, the monitor stream, the Ferry's buffers and books (R35, R209, R217, R437, R482,
R483, R487, R516). `prev` is the state before the changes, `short` an edge that ends a shortened tide. -/
def State.edgeEnd (prev : State) (short : Bool) (s : State) : State :=
  let s := s.releasePorts.emcEdge
  let s := foldS State.loopEdge (List.range 8) { s with slc := { s.slc with short := short && !prev.tide.windowClosed } }
  let s := foldS State.latchMon (List.range 8) (s.calApply prev)
  let s := s.cond (s.on .host) fun s => s.queueMon s.monTide
  let s := foldS State.ageRing (List.range 8) s
  let s := s.cond (s.lhs == 3) fun s => foldS State.ledgerCheck (List.range 8) s
  { s with tide := { s.tide with len := s.fld SYS_TIDE_LEN 0 10, windowClosed := false } }

/-- The tide edge: the tide counter expires (R33 to R35, R41, R43, R412). -/
def State.tideEdge (s : State) : State :=
  let s := s.toEdge
  let s := s.edgeStart.edgeTrips
  let b := s.swapEdge.boundary
  if b.s.pwr.held then b.s
  else
    let t := foldS (State.listEdge false) (List.range 8) b.s
    ((State.edgeEnd s false (t.knobApply b.all)).answerLines b.lines).arrive

/-! ### The realigned edge (R65, R155, R156) -/

/-- The tide in progress ends at the realigned edge E: its output writes and exchange are missed, and every change staged
in it is carried whole to the next boundary. -/
def State.shortEdge (s : State) : State :=
  let s := (foldS State.loopShort (List.range 8) s).emcShort
  let s := s.modPrt fun x => { x with viol := x.saved.getD x.viol, due := .replicate 8 0 }
  let s := (s.flag TIM_STAT 8).edgeStart.edgeTrips
  let s := ((s.lateLines 0).lateLines 1).lateLines 2
  let s := { s with ust := { s.ust with
    writes := s.ust.writes.map fun (w : StagedWrite) => { w with late := false }
    guards := s.ust.guards.map fun (g : Guard) => { g with late := false, open_ := false } } }
  let s := s.modKnob fun k =>
    { k with steps := k.steps + k.later, stepsN := k.stepsN + k.laterN, later := 0, laterN := 0 }
  (State.edgeEnd s true (foldS (State.listEdge true) (List.range 8) s)).arrive

/-- RCLK cycles to the realignment edge E; one that has passed acts now. -/
def State.toRealign (s : State) (e : BitVec 56) : Nat :=
  let d := (e - s.tide.tb).toNat
  if 2 ^ 55 ≤ d then 0 else d / 5

/-- The realignment at E (R155, R156). On E the tide edge of its tide comes first, where E is one. -/
def State.realign (s : State) : State :=
  match s.clk.edge with
  | none => s
  | some e =>
    let n := s.toRealign e
    if s.tide.len ≤ s.tide.cycle + n then s
    else
      let t := s.toInstant n
      (if t.syncTarget 0 && t.tide.cycle != 0 then t.shortEdge else t.edgeDue).syncActs

/-! ### Other actions of the tide ledger (R35) -/

/-- The park window of the pins that switched ends on the fourth RCLK edge after their commit edge, whatever tide that
edge falls in; with no pin in a window the tide comes to its cycle 4 (R131). -/
def State.toTakeover (s : State) : State :=
  if s.yard.park = 0 then s.toCycle 4 else s.advance (4 - (s.tide.tb - s.yard.parkAt).toNat / 5)

/-- Staging closes at cycle L - 10 (R39); the checks reach the first `reach` staged changes, or all (R59). -/
def State.cutOff (s : State) (reach : Option Nat) : State :=
  let s := s.toCycle (s.tide.len - 10)
  if s.tide.cutoff then s else { s with tide := { s.tide with cutoff := true, reach := reach } }

/-- The averaging windows close at cycle L - 12 (R216). -/
def State.windowsClose (s : State) (late : List Late) : State :=
  let s := s.toCycle (s.tide.len - 12)
  if s.tide.windowClosed then s
  else
    let s := foldS (fun s n => s.windowClose late n) (List.range 8) s
    { s with tide := { s.tide with windowClosed := true } }

/-- The limit sets are evaluated at cycle 1, once in a tide (R429). -/
def State.limits (s : State) : State :=
  let s := s.toCycle 1
  if s.prt.saved.isSome then s else s.evalLimits

/-- The loop or pair of lead n writes at its cycle W (R397, R398): its ports take OUT (R417). -/
def State.loopWrite (s : State) (n : Nat) : State :=
  let k := s.lead n
  let x := s.loop k
  if !s.on .ctrl || x.mode = 0 || x.done then s
  else
    let s := s.toCycle (s.writeCycle k)
    match s.loopTide k with
    | (some out, s) => (maskBits 8 (s.fld (SLC_L_PORTS k) 0 8)).foldl (fun s p => s.portWrite out p) s
    | (none, s) => s

/-- An SPIDAC port no loop drives sends its changed value at cycle 10 (R417). -/
def State.valueSend (s : State) (p : Nat) : State :=
  if !s.on .ctrl || !(s.slipPort p).value then s
  else
    let s := (s.toCycle 10).modPort p fun x => { x with value := false }
    if s.portMode p == 1 && (s.driver p).isNone && !(s.slipPort p).held then s.reqFrame p (s.sfld (SLP_P_VALUE p) 0 20) else s

/-- What a row does on the n-th RCLK edge from here, where that edge lies in this tide. -/
def State.within (s : State) (n : Nat) (f : State → State) : State :=
  if s.tide.len ≤ s.tide.cycle + n then s else f (s.advance n)

/-- The edge on which the Bell's next delivery is due, where one of the coming n edges of this tide has one (R460). -/
def State.toDelivery : Nat → State → State
  | 0, s => s
  | n + 1, s => if s.bell.due.isSome || s.tide.len ≤ s.tide.cycle + 1 then s else toDelivery n (s.advance 1)

/-- A delivery is made on the edge it is due on, which comes within 3 edges of what calls for it (R453, R460). -/
def State.delivery (s : State) : State :=
  let t := s.toDelivery 3
  if t.bell.due.isSome then t.deliver else s

/-- The frames that wait start as the bus becomes free (R422). -/
def State.frameStart (s : State) : State :=
  if !s.on .ctrl || s.inFlight || !(List.range 8).any s.portWaits then s else s.within s.busTail (·.startFrames)

/-- The frame of port p ends as its CS_N rises (R421). -/
def State.frameEnd (s : State) (p : Nat) : State :=
  if (s.slipPort p).frame.isNone then s else s.within (s.edgesTo (s.slipPort p).ends) (·.endFrame p)

/-- HRPWM port p takes the value of its next period, 8 rc before that starts (R426). -/
def State.valueSample (s : State) (p : Nat) : State :=
  if !s.on .ctrl || s.portMode p != 2 then s else s.within (s.toSample p) (·.pwmSample p)

/-- A period of HRPWM port p starts (R424). -/
def State.periodStart (s : State) (p : Nat) : State :=
  if !s.on .ctrl || s.portMode p != 2 then s else s.within (s.toPeriod p) (·.pwmStart p)

/-- The next list entry of loop n applies at the boundary that ends a dwell (R406), ahead of the knob sum (R412). -/
def State.dwellEnd (s : State) (n : Nat) : State :=
  if !(s.loop n).lst.due then s
  else
    let waits := s.knobWaits && s.fld KNB_SVC 4 3 == n
    let s := (s.modList n fun x => { x with due := false }).listNext n
    s.cond waits fun s => (s.knobSum []).knobNext

end Sys2Proof.Machine
end

