-- ==== Sys2Proof/Machine/RowsTide.lean ====
section
/-! DEFINITION. The rows of the tide ledger, the time base and time of day. -/

namespace Sys2Proof.Machine

/-- A single-DW PCIe write row, and a PCIe read row (R472). -/
def State.pcieW (s : State) (off w : Nat) : Out := s.row (·.pcieWrite off (BitVec.ofNat 32 w) 15)
def State.pcieR (s : State) (off : Nat) : Out := s.row (·.pcieRead off)

/-- A read by a requester (R601): PCIe, or a `REG?` line of a port. -/
def State.readRow (s : State) (q : Requester) (off : Nat) : Out :=
  match q with
  | .pcie => s.pcieR off
  | .port p => s.qryRow p none (·.regQ p off)

/-- R35. The tide edge with its actions of cycle 0. -/
def execTideEdge (s : State) : Out := s.row State.tideEdge

/-- R39. Staging for the coming boundary closes at cycle L - 10. -/
def execStagingCutoff (reach : Option Nat) (s : State) : Out := s.row (·.cutOff reach)

/-- R216. The averaging windows close at cycle L - 12. -/
def execAveragingWindowClose (late : List Late) (s : State) : Out := s.row (·.windowsClose late)

/-- R429. The limit sets are evaluated at cycle 1. -/
def execLimitEvaluation (s : State) : Out := s.row State.limits

/-- R429. Trips found in the tide latch at cycle 9. -/
def execProtectionLatchCycle (s : State) : Out := s.row fun s => (s.toCycle 9).latchDue

/-- R397. A loop writes its output at its cycle W. -/
def execLoopOutputWrite (n : Fin 8) (s : State) : Out := s.row (·.loopWrite n)

/-- R131. The new functions take their pins on the fourth RCLK edge after the commit edge; `pads` are the pad levels. -/
def execPinSwitchTakeover (pads : BitVec 32) (s : State) : Out := s.row fun s => s.toTakeover.pinTakeover pads.toNat

/-- R417. An SPIDAC port no loop drives sends its changed value at cycle 10. -/
def execSlpValueSend (k : Fin 8) (s : State) : Out := s.row (·.valueSend k)

/-- R423. LDAC in CYCLE mode pulses at LDAC_CYC. -/
def execLdacCyclePulse (s : State) : Out := s.row fun s => (s.toCycle (s.fld SLP_CFG 16 10)).ldacCycle

/-- R51. The second roll-over. -/
def execSecondRollover (s : State) : Out := s.row State.secondRoll

/-- R55. One slew step. -/
def execSlewStep (s : State) : Out := s.row State.slewStep

/-- R56. A 1PPS edge. -/
def execPpsEdge (falling : Bool) (s : State) : Out := s.row (·.ppsEdge falling)

/-- R56. No accepted 1PPS edge for 1.5 s. -/
def execPpsLostTimeout (s : State) : Out := s.row State.ppsLost

/-- R53. A write of TIM_SET_CTRL.GO. -/
def execTimSetCtrlGo (s : State) : Out := s.pcieW TIM_SET_CTRL 1

/-- R54. A write of TIM_SET_CTRL.CANCEL. -/
def execTimSetCtrlCancel (s : State) : Out := s.pcieW TIM_SET_CTRL 2

/-- R55. A write of TIM_ADJ. -/
def execTimAdjWrite (v : BitVec 32) (s : State) : Out := s.pcieW TIM_ADJ v.toNat

/-- R46. A write of SYS_GUARD. -/
def execSysGuardWrite (v : BitVec 32) (s : State) : Out := s.pcieW SYS_GUARD v.toNat

/-- R601. A read of a snapshot register. -/
def execSnSnapshotRead (q : Requester) (off : Nat) (s : State) : Out := s.readRow q off

/-- R14. A read of a register with read-clear fields. -/
def execRcReadClear (q : Requester) (off : Nat) (s : State) : Out := s.readRow q off

/-- R39, R472. A single-DW PCIe write of BAR0. -/
def execRegisterWrite (off : Nat) (v : BitVec 32) (be : BitVec 4) (s : State) : Out := s.row (·.pcieWrite off v be)

/-- R472. A BAR0 read longer than one DW is refused and counted. -/
def execBar0MultiDwRead (_off : Nat) (s : State) : Out := s.row fun s => s.cond s.pcieUp fun s => s.wake.ignore.aerAbort

end Sys2Proof.Machine
end

