-- ==== Sys2Proof/Machine/RowsPort.lean ====
section
/-! DEFINITION. The rows of the Damisk ports, of aborts, and of the Signal Yard and the pins. -/

namespace Sys2Proof.Machine

/-- R78, R129. A UART character is received over the pin that carries RXD, or over the dedicated pin where none does, with a
framing error or as a break where `bad`; a pin in its park window takes none (R131). -/
def execUartByteReceived (b : BitVec 8) (bad : Bool) (s : State) : Out :=
  s.row fun s => if s.rxdParked then s else if bad then s.linkError 0 true else s.rxByte 0 b

/-- R73, R129. The host changes the dedicated UART_RTS_N: a level at a ball, which holds without RCLK too. -/
def execUartRtsChange (high : Bool) (s : State) : Out :=
  if s.live then s.row (·.uartRts high) else .next { s with cmd := { s.cmd with rtsHigh := high } }

/-- R75. DSPI_CS_N falls. -/
def execSpiCsFall (sckHigh : Bool) (s : State) : Out := s.row (·.spiFall sckHigh)

/-- R75. An SPI byte moves in both directions. -/
def execSpiByteTransfer (mosi : BitVec 8) (s : State) : Out := s.row (·.spiByte mosi)

/-- R112. DSPI_CS_N rises, within a byte where `cut`. -/
def execSpiCsRise (cut : Bool) (s : State) : Out := s.row (·.spiRise cut)

/-- R76. A write of CMD_MB_IN. -/
def execCmdMbInWrite (v : BitVec 32) (s : State) : Out := s.pcieW CMD_MB_IN v.toNat

/-- R76. A read of CMD_MB_OUT. -/
def execCmdMbOutRead (s : State) : Out := s.pcieR CMD_MB_OUT

/-- R88. Parsing of a port's oldest unparsed line completes. -/
def execLineParseComplete (p : Fin 3) (s : State) : Out := s.row (·.parseOldest p)

/-- R98. The response at the head of a port's queue is placed. -/
def execResponsePlaced (p : Fin 3) (s : State) : Out := s.row (·.placeResp p)

/-- R93. The oldest pending asynchronous line of a port is placed. -/
def execAsyncLineEmit (p : Fin 3) (s : State) : Out := s.row (·.placeAsync p)

/-- R72. The response to the line that set a new bit rate has been sent. -/
def execUartRateApply (s : State) : Out := s.row State.uartRate

/-- R83. A line that holds only a tag. -/
def execBareTag (p : Fin 3) (tag : Nat) (s : State) : Out := s.row (·.bareTag p tag)

/-- R72. The UART transmitter has sent a character. -/
def execUartCharacterSent (s : State) : Out := s.row State.uartSent

/-- R100. ABORT_N held low takes an abort. -/
def execAbortNLow (s : State) : Out := s.row State.takeAbort

/-- R100. A write of SYS_ABORT.GO takes an abort. -/
def execSysAbortGo (s : State) : Out := s.pcieW SYS_ABORT 1

/-- R101. The bursts and records of an abort are done. -/
def execAbortDrained (s : State) : Out := s.row State.abortDrained

/-- R101. !ABORTED stands on every port. -/
def execAbortedEmit (s : State) : Out := s.row State.abortedEmit

/-- R117. The level that other drivers give the pad of a multi-function pin changes; without RCLK the Yard finds it as RCLK
returns (R138). -/
def execMfPinLevelChange (n : Fin 32) (level : Bool) (s : State) : Out :=
  if s.live then s.row fun s => (s.padChange n level).uartKick else .next (s.setPad n level)

/-- R118. A write of YRD_PULSE. -/
def execYrdPulseWrite (v : BitVec 8) (s : State) : Out := s.pcieW YRD_PULSE v.toNat

/-- R127. A read of YRD_LOG_Q0. -/
def execYrdLogRead (q : Requester) (s : State) : Out := s.readRow q YRD_LOG_Q0

/-- R632, R640. A TAP instruction takes effect; EXTEST and CLAMP put the boundary register on the balls, whose contents come
over TDI and are free (log 68). The TAP runs on TCK and needs no RCLK. -/
def execTapInstructionUpdate (ir : BitVec 8) (s : State) : Out :=
  let s := s.modPwr fun x => { x with tap := ir.toNat }
  .next (if ir = 0 ∨ ir = 3 then s.tapCells else s)

end Sys2Proof.Machine
end

