-- ==== Sys2Proof/Machine/RowsClock.lean ====
section
/-! DEFINITION. The rows of the clocks, the power domains, resets and the PCIe link. -/

namespace Sys2Proof.Machine

/-- A row that acts without RCLK too: what follows an edge follows it where RCLK runs and no reset is asserted. -/
def State.anyRow (s : State) (f : State → State) : Out :=
  let t := f s
  .next (if t.live then t.settle else t)

/-! ### The reference and the Lighthouses -/

/-- R142. REFIN is declared absent; under an asserted reset only RCLK stops (R182). -/
def execRefinAbsentDeclared (s : State) : Out :=
  .next (if !s.tide.rclk then s else if s.pwr.held then { s with tide := { s.tide with rclk := false } } else s.refAbsent)

/-- R170. REFIN is declared present again; under an asserted reset only RCLK resumes (R182). -/
def execRefinPresentDeclared (s : State) : Out :=
  s.anyRow fun s =>
    if s.pwr.held then { s with tide := { s.tide with rclk := true } }
    else if s.tide.rclk then s else s.refPresent.padsReturn

/-- R148. A Lighthouse completes its pull-in. -/
def execPullInComplete (h : Synth) (s : State) : Out := s.row (·.pullIn h)

/-- R148. A counter window ends. -/
def execLockWindowEnd (h : Synth) (count : Nat) (s : State) : Out := s.row (·.windowEnd h count)

/-- R149. A LOCKED Lighthouse starts its outputs at a tide edge. -/
def execLighthouseResume (h : Synth) (s : State) : Out :=
  s.row (·.atEdge (·.resumeDue h) (·.resumeEdge h))

/-- R150. The phase monitor finds a loss of lock. -/
def execLockLossPhase (h : Synth) (s : State) : Out := s.row (·.phaseLoss h)

/-- R149. A write of CLK_LHA_CTRL.RESUME. -/
def execClkLhaResumeWrite (s : State) : Out := s.pcieW CLK_LHA_CTRL 1

/-- R149. A write of CLK_LHS_CTRL.RESUME. -/
def execClkLhsResumeWrite (s : State) : Out := s.pcieW CLK_LHS_CTRL 1

/-- R152. The Capstan delay line locks. -/
def execCapstanDllLocked (s : State) : Out := s.row State.dllLocked

/-- R153. CAP_LOCKF rises above 0.60 V. -/
def execCapstanLockSet (s : State) : Out := s.row State.capLock

/-- R154. CAP_LOCKF falls below 0.40 V. -/
def execCapstanLockClear (s : State) : Out := s.row State.capUnlock

/-- R154. A hard fault of the delay line. -/
def execCapstanHardFault (s : State) : Out := s.row State.capHard

/-- R155. An edge of SYNCIN, or of ESYNC where `esync`, is registered at S. -/
def execSyncEdgeRegister (esync falling : Bool) (s : State) : Out := s.row (·.syncEdge esync falling)

/-- R156. The realignment at E. -/
def execSyncRealign (s : State) : Out := s.row State.realign

/-- R156. A SYNCING Lighthouse-A resumes at a tide edge. -/
def execLhaSyncResume (s : State) : Out := s.row (·.atEdge State.syncDue State.syncResume)

/-! ### Power domains -/

/-- R176. A STARTING domain enters ON at a tide edge. -/
def execDomainOnEntry (d : Dom) (s : State) : Out :=
  s.row (·.atEdge (fun t => t.dom d == 1 && startTime d ≤ t.sinceCommit d && (domNeeds d).all t.on) (·.onEntry d))

/-- R180. A DRAINING domain whose work is done goes OFF at a tide edge after the edge that committed the request. -/
def execDomainOffEntry (d : Dom) (s : State) : Out :=
  s.row (·.atEdge (fun t => t.dom d == 3 && t.sinceCommit d != 0 && t.drained d) (·.offEntry d))

/-- R180. The drain limit, two edges after the edge that committed the request. -/
def execDrainLimitReached (d : Dom) (s : State) : Out :=
  s.row fun s =>
    let edges := vget s.pwr.edges (domNum d) + b2n (s.tide.cycle != 0)
    s.atEdge (fun t => t.dom d == 3 && 2 ≤ edges) (·.drainLimit edges d)

/-- R193. A power switch has not reported good in four times the STARTING time. -/
def execDomainStartFail (d : Dom) (s : State) : Out :=
  s.row (·.atEdge (fun t => t.dom d == 1 && 4 * startTime d ≤ t.sinceCommit d) (·.startFail d))

/-! ### Resets -/

/-- R613. A supply falls below its threshold. -/
def execPowerOnReset (s : State) : Out := s.anyRow (·.assertReset 0)

/-- R182. RESET_N is held low. -/
def execResetNAssert (s : State) : Out := s.anyRow (·.assertReset 1)

/-- R182, R185. PERST# goes low while HOST is ON: it resets the unit, or HOST alone where SCOPE is 1. -/
def execPerstAssert (s : State) : Out :=
  s.anyRow fun s =>
    if s.pwr.held || !s.on .host then s
    else if s.bit PWR_RST_CFG 0 then s.hostReset else s.assertReset 2

/-- R185. PERST# rises. -/
def execPerstRelease (s : State) : Out := s.anyRow (·.modPwr fun x => { x with perst := false })

/-- R183. A write of SYS_RESET. -/
def execSysResetWrite (v : BitVec 32) (s : State) : Out := s.pcieW SYS_RESET v.toNat

/-- R182. The internal reset releases, with BOOTHOST as sampled (R184). -/
def execResetRelease (boothost : Bool) (s : State) : Out := s.anyRow (·.releaseReset boothost)

/-- R642. VDDQ falls below 1.10 V: the external memory contents are lost, with DOCK ON and in the retention of a DOCK that is
OFF (R349), and RETAINED stays. -/
def execVddqFall (s : State) : Out :=
  .next (if s.pwr.held then s else (s.memLoseAll 0).memLoseAll 1)

/-! ### The PCIe link -/

/-- R184. Link training completes at a speed and width. -/
def execLinkUp (speed : Fin 4) (width : Fin 8) (s : State) : Out :=
  s.row fun s =>
    if s.on .host && !s.pwr.perst then (s.setRegN FRY_LINK (speed.val + width.val * 16 + 2 ^ 10)).kickAll else s

/-- R502. The link goes down: every ring that is not STOPPED faults, and BAR2 reads in progress are lost. -/
def execLinkDown (s : State) : Out :=
  s.row fun s =>
    if s.bit FRY_LINK 10 then
      let s := s.modFry fun x => { x with reads := [], bar2 := .none }
      foldS State.ringLink (List.range 8) (s.setRegN FRY_LINK 0)
    else s

/-- R496. The function enters D3hot, or returns to D0. -/
def execPciePowerStateChange (d3 : Bool) (s : State) : Out :=
  s.row fun s =>
    if s.on .host && s.bit FRY_LINK 10 then
      let s := s.wake.setBit FRY_LINK 9 d3
      if d3 then s else foldS State.ringFill (List.range 8) s.kickAll
    else s

/-- R461. The link enters L1. -/
def execAspmL1Entry (s : State) : Out :=
  s.row fun s => s.cond (s.on .host && s.bit FRY_LINK 10) (·.setBit FRY_LINK 8 true)

/-- R462. MSI-X Enable or Bus Master Enable changes. -/
def execMsixConfigChange (enable busMaster : Bool) (s : State) : Out :=
  s.row fun s => s.cond (s.on .host && s.bit FRY_LINK 10)
    (·.modBell fun x => { x with msixEnable := enable, busMaster := busMaster })

/-- R455. A vector is unmasked. -/
def execMsixVectorUnmask (v : Fin 16) (s : State) : Out := s.row fun s => s.cond s.pcieUp (·.wake.msiUnmask v.val)

end Sys2Proof.Machine
end

