-- ==== Sys2Proof/Machine/RowsMeas.lean ====
section
/-! DEFINITION. The rows of the Berths, the Pilot, capture, the Watermark, the Warehouse and the Dock. -/

namespace Sys2Proof.Machine

/-! ### Berths -/

/-- R204. A quay word of channel ch is handed over; `cyc` is the ACLK cycle of its first sample. The detectors see its
corrected slots, and start afresh with a run of the channel (R258). -/
def State.quayWord (s : State) (c cyc : Nat) (xs : List Sample) : State :=
  if s.delivers c && xs.length == 4 then
    let i := (vget s.brt.chans c).idx
    let s := s.cond (i == 0) (·.detReset c)
    let ys := (s.tagSamples c i cyc 0 xs).1
    (s.wordHandedOver c cyc xs).detWord c i ys
  else s

def execQuayWordHandedOver (ch : Fin 8) (cyc : Nat) (xs : List Sample) (s : State) : Out := s.row (·.quayWord ch.val cyc xs)

/-- R212. An input sample of Berth b is out of range: a Berth converts while its channel runs. -/
def execBerthOverRange (b : Fin 8) (cyc : Nat) (positive : Bool) (s : State) : Out :=
  s.row fun s => s.cond (s.converts b.val) (·.overRange b.val cyc positive)

/-- R205. A skew round ends, with the sums of its measurements in fs. -/
def execSkewRoundComplete (sums : List (Option Int)) (s : State) : Out :=
  s.row fun s => s.cond (s.bit BRT_CAL_CTRL 0 && s.skewCond) (·.skewRound sums)

/-- R207. A matching block of channel ch ends. -/
def execMatchBlockComplete (ch : Fin 8) (s : State) : Out := s.row fun s => s.cond (s.matchFull ch.val) (·.matchBlock ch.val)

/-- R209. A write of BRT_CAL_CMD.BG_CLEAR. -/
def execBrtBgClearWrite (s : State) : Out := s.pcieW BRT_CAL_CMD 1

/-! ### Pilot -/

/-- R229. A comparator crossing. -/
def execComparatorCrossing (n : Fin 8) (e : LaneEdge) (s : State) : Out := s.row (·.cmpCross n.val e)

/-- The tide comes to the end of cycle 19 of comparator n's commit tide, where it has not passed it (R230). -/
def State.toSettle (s : State) (n : Nat) : State :=
  match vget s.plt.settleFrom n with
  | some a => if (s.tide.tb - a).toNat < 100 && s.plt.settling.getLsbD n then s.advance ((a + 100 - s.tide.tb).toNat / 5) else s
  | none => s

/-- R230. The settling window of a comparator ends, with its state against the new threshold. -/
def execThresholdSettleEnd (n : Fin 8) (high : Bool) (s : State) : Out := s.row fun s => (s.toSettle n.val).settleEnd n.val high

/-- R232. An edge on TRIGIN j. -/
def execTriginEdge (j : Fin 2) (e : LaneEdge) (s : State) : Out := s.row (·.triginEdge j.val e)

/-- R236. Detector d's oldest firing becomes an event. -/
def execDigitalDetectorFire (d : Fin 8) (s : State) : Out := s.row (·.detFire d.val)

/-- R240. The next event of engine g enters it. -/
def execEngineEventEntry (g : Fin 8) (s : State) : Out := s.row (·.engineEntry g.val)

/-- R241. An AB window closes once its end has passed and no event of before it is on its way to the engine. -/
def State.abExpire (s : State) (g : Nat) : State :=
  match (s.eng g).window with
  | none => s
  | some a =>
    let fin := a.toNat + s.engWin g * 65536
    let late := fun (e : PEvent) => stampGe e.t.toNat fin
    if stampGe s.now.toNat (fin + 1) && (s.eng g).queue.all late then s.modEng g fun x => { x with window := none } else s

def execAbWindowExpire (g : Fin 8) (s : State) : Out := s.row (·.abExpire g.val)

/-- R248. The EFIRE pulse ends. -/
def execEfirePulseEnd (s : State) : Out := s.row State.efireEnd

/-- R249. A TRIGOUT pulse ends. -/
def execTrigoutPulseEnd (j : Fin 2) (s : State) : Out := s.row (·.trigOutEnd j.val)

/-- R247. A write of PLT_SOFT. -/
def execPltSoftWrite (v : BitVec 8) (s : State) : Out := s.pcieW PLT_SOFT v.toNat

/-! ### Capture and the Watermark -/

/-- R269. Group g reaches its ready sample. -/
def State.readyReached (s : State) (g : Nat) : State :=
  if s.grpState g == 1 && (s.grp g).r < s.samplesBy ((s.chans g).headD 0) (s.now.toNat + 327679) then s.setGrp g 2 else s

def execReadySampleReached (g : Fin 8) (s : State) : Out := s.row (·.readyReached g.val)

/-- R268. Sample e of group g's segment has been taken. -/
def execSegmentCaptureEnd (g : Fin 8) (s : State) : Out := s.row (·.captureEnd g.val)

/-- R274. The header and directory entry of group g's oldest segment are written. -/
def execSegmentHeaderWritten (g : Fin 8) (s : State) : Out := s.row (·.headerWritten g.val)

/-- R297. A CLOSING group has written its last record. -/
def execGroupCloseComplete (g : Fin 8) (s : State) : Out := s.row (·.closeDone g.val)

/-- R285. A stream block of group g is to begin. -/
def execStreamBlockBegin (g : Fin 8) (s : State) : Out := s.row (·.blockBegin g.val)

/-- R284. The last word of a stream block leaves the capture engine. -/
def execStreamBlockComplete (g : Fin 8) (s : State) : Out := s.row (·.blockComplete g.val)

/-- R301. A Watermark interval of channel ch of group g ends. -/
def execDecimatorIntervalEnd (g ch : Fin 8) (s : State) : Out := s.row (·.interval g.val ch.val)

/-- R265. A write of ACQ_G_CMD.ARM. -/
def execAcqGCmdArm (g : Fin 8) (s : State) : Out := s.pcieW (ACQ_G_CMD g.val) 1

/-- R275. A write of ACQ_G_CMD.DISARM. -/
def execAcqGCmdDisarm (g : Fin 8) (s : State) : Out := s.pcieW (ACQ_G_CMD g.val) 2

/-- R265. A write of ACQ_G_CMD.START. -/
def execAcqGCmdStart (g : Fin 8) (s : State) : Out := s.pcieW (ACQ_G_CMD g.val) 4

/-- R288. A write of ACQ_G_CMD.STOP. -/
def execAcqGCmdStop (g : Fin 8) (s : State) : Out := s.pcieW (ACQ_G_CMD g.val) 8

/-! ### Warehouse -/

/-- R310. A flush sweep of histogram h begins. -/
def execHistSweepStart (h : Fin 8) (s : State) : Out := s.row (·.sweepStart h.val)

/-- R310. A flush sweep of histogram h completes. -/
def execHistSweepComplete (h : Fin 8) (s : State) : Out := s.row (·.sweepDone h.val)

/-- R312. A write of WHS_H_CMD.FLUSH. -/
def execWhsHCmdFlush (h : Fin 8) (s : State) : Out := s.pcieW (WHS_H_CMD h.val) 1

/-- R314. The hits of a segment are written to map m. -/
def execMapHitsWritten (m : Fin 2) (s : State) : Out := s.row (·.mapHits m.val)

/-- R316. A due decay sweep of map m starts. -/
def execMapDecayStart (m : Fin 2) (s : State) : Out := s.row (·.decayStart m.val)

/-- R316. A decay sweep of map m completes. -/
def execMapDecayComplete (m : Fin 2) (s : State) : Out := s.row (·.decayDone m.val)

/-- R315. The clear of map m completes. -/
def execMapClearComplete (m : Fin 2) (s : State) : Out := s.row (·.mapClear m.val)

/-! ### Dock -/

/-- R330. A write of DCK_CHn_CMD.TRAIN. -/
def execDckTrainWrite (n : Fin 2) (s : State) : Out := s.pcieW (DCK_CH_CMD n.val) 1

/-- R331. A training step of Dock channel n passes. -/
def execDockTrainStepDone (n : Fin 2) (s : State) : Out :=
  s.row fun s => s.cond (s.dckState n.val == 2 && s.on .dock && s.lhs == 3) (·.trainStep n.val)

/-- R347. Training of Dock channel n has not completed in time. -/
def execDockTrainTimeout (n : Fin 2) (s : State) : Out := s.row fun s => s.cond (s.dckState n.val == 2) (·.trainFail n.val)

/-- R333. A refresh round of Dock channel n begins. -/
def execRefreshRoundStart (n : Fin 2) (s : State) : Out := s.row (·.roundStart n.val)

/-- R346. ALERT_N asserts on Dock channel n. -/
def execAlertNAssert (n : Fin 2) (s : State) : Out := s.row (·.alertN n.val)

/-- R348. Dock channel n leaves self-refresh after a Lighthouse-S resume. -/
def execDockSelfrefExit (n : Fin 2) (s : State) : Out := s.row (·.selfRefExit n.val)

/-- R339. A calendar slot of Dock channel n passes. -/
def execCalendarSlot (n : Fin 2) (s : State) : Out := s.row (·.calSlot n.val)

end Sys2Proof.Machine
end

