-- ==== Sys2Proof/Machine/RowsCtl.lean ====
section
/-! DEFINITION. The rows of the Tally, the knob, the Sluice, the Slipway and the protection. -/

namespace Sys2Proof.Machine

/-! ### Tally and knob -/

/-- R361. An edge reaches user lane l. -/
def execTallyEdgeAccepted (l : Fin 4) (e : LaneEdge) (s : State) : Out := s.row (·.tlyEdge l.val e)

/-- R366. The FREQ standstill time of lane l ends. -/
def execFreqStillTimeout (l : Fin 4) (s : State) : Out := s.row (·.freqStill l.val)

/-- R367. An interval of lane l stands open after 2^32 tc. -/
def execIntervalOverflow (l : Fin 4) (s : State) : Out := s.row (·.intervalOvf l.val)

/-- R355. The histogram of lane l is full; `h` is its counts. -/
def execTallyCalHitsComplete (l : Fin 6) (h : List Nat) (s : State) : Out := s.row (·.calHits l.val h)

/-- R357. A write of TLY_CAL_CMD.GO. -/
def execTlyCalGoWrite (m : BitVec 6) (s : State) : Out := s.pcieW TLY_CAL_CMD m.toNat

/-- R358. A write of TLY_CAL_CMD.LOAD. -/
def execTlyCalLoadWrite (m : BitVec 6) (s : State) : Out := s.pcieW TLY_CAL_CMD (m.toNat * 2 ^ 8)

/-- R358. A read of TLY_TBL_DATA, or a write where a value is given. -/
def execTlyTblDataAccess (w : Option (BitVec 16)) (s : State) : Out :=
  match w with
  | none => s.pcieR TLY_TBL_DATA
  | some v => s.pcieW TLY_TBL_DATA v.toNat

/-- R368. A write of TLY_L_CMD.START. -/
def execTlyLCmdStart (l : Fin 4) (s : State) : Out := s.pcieW (TLY_L_CMD l.val) 1

/-- R368. A write of TLY_L_CMD.STOP. -/
def execTlyLCmdStop (l : Fin 4) (s : State) : Out := s.pcieW (TLY_L_CMD l.val) 2

/-- R370. A read of TLY_L_FIFO_Q0. -/
def execTlyFifoRead (q : Requester) (l : Fin 4) (s : State) : Out := s.readRow q (TLY_L_FIFO_Q0 l.val)

/-- R372. A filtered encoder level changes at a TCLK count. -/
def execKnobCountEdge (a b : Bool) (count : Nat) (s : State) : Out := s.row (·.knobEdge a b count)

/-- R373. No knob edge for STILL. -/
def execKnobStillTimeout (s : State) : Out := s.row State.knobStill

/-! ### Sluice -/

/-- R406. The dwell of loop n's list entry has ended. -/
def execListDwellExpire (n : Fin 8) (s : State) : Out := s.row (·.dwellEnd n.val)

/-- R404. A write of SLC_SWAP. -/
def execSlcSwapWrite (m : BitVec 8) (s : State) : Out := s.pcieW SLC_SWAP m.toNat

/-- R406. A write of SLC_STEP. -/
def execSlcStepWrite (m : BitVec 8) (s : State) : Out := s.pcieW SLC_STEP m.toNat

/-- R406. A write of SLC_L_LISTCMD.RUN. -/
def execSlcListcmdRun (n : Fin 8) (s : State) : Out := s.pcieW (SLC_L_LISTCMD n.val) 1

/-- R406. A write of SLC_L_LISTCMD.STOP. -/
def execSlcListcmdStop (n : Fin 8) (s : State) : Out := s.pcieW (SLC_L_LISTCMD n.val) 2

/-! ### Slipway -/

/-- R422. The bus is free and the frames that wait start. -/
def execSpidacFrameStart (s : State) : Out := s.row State.frameStart

/-- R421. The frame of port k ends. -/
def execSpidacFrameEnd (k : Fin 8) (s : State) : Out := s.row (·.frameEnd k.val)

/-- R426. Port k takes the value for its next period. -/
def execHrpwmValueSample (k : Fin 8) (s : State) : Out :=
  s.row (·.valueSample k.val)

/-- R424. A period of port k starts. -/
def execHrpwmPeriodStart (k : Fin 8) (s : State) : Out :=
  s.row (·.periodStart k.val)

/-! ### Protection -/

/-- R430. Comparator n enters its tripping state, with RCLK running or not. -/
def execFastTripCrossing (n : Fin 8) (s : State) : Out := s.anyRow (·.fastEnter n.val)

/-- R430. Comparator n leaves its tripping state. -/
def execFastTripStateLeft (n : Fin 8) (s : State) : Out := s.anyRow (·.fastLeave n.val)

/-- R434. A write of PRT_CMD.CLEAR. -/
def execPrtCmdClear (m : BitVec 8) (s : State) : Out := s.pcieW PRT_CMD m.toNat

/-- R434. A write of PRT_CMD.MOOR. -/
def execPrtCmdMoor (m : BitVec 8) (s : State) : Out := s.pcieW PRT_CMD (m.toNat * 2 ^ 8)

end Sys2Proof.Machine
end

