-- ==== Sys2Proof/Machine/RowsHost.lean ====
section
/-! DEFINITION. The rows of the Bell, the Ferry and BAR2, the Emica link and the Tralor store. -/

namespace Sys2Proof.Machine

/-! ### Bell -/

/-- R453. One delivery, where one is due. -/
def execBellDelivery (s : State) : Out := s.row State.delivery

/-- R455. A queued MSI-X message is sent. -/
def execMsixMessageSend (s : State) : Out := s.row State.msiSend

/-- R456. A read of BEL_CLAIM_t. -/
def execBelClaimRead (t : Fin 4) (s : State) : Out := s.pcieR (BEL_CLAIM t.val)

/-- R457. A write of BEL_COMPLETE_t. -/
def execBelCompleteWrite (t : Fin 4) (n : BitVec 6) (s : State) : Out := s.pcieW (BEL_COMPLETE t.val) n.toNat

/-- R463. A write of BEL_EN_0, or of BEL_EN_1 where `hi`. -/
def execBelEnWrite (hi : Bool) (v : BitVec 32) (s : State) : Out := s.pcieW (BEL_EN (b2n hi)) v.toNat

/-! ### Ferry -/

/-- R488. A descriptor fetch of ring r completes, or fails: the Ferry takes what the host has returned while SCLK runs (R169,
log 74). -/
def execDescriptorFetchComplete (r : Fin 8) (res : Option (List Desc)) (s : State) : Out :=
  s.row fun s => s.cond (s.lhs == 3) (·.fetchDone r.val res)

/-- R486. The Ferry begins the descriptor at HEAD of ring r. -/
def State.issueNext (s : State) (r : Nat) : State :=
  match (s.ring r).fetched with
  | d :: _ => s.cond (s.mayIssue r && s.ringWork r) fun s => (s.issueDesc r d (s.nextBlock r)).ringKick r
  | [] => s

def execDescriptorIssue (r : Fin 8) (s : State) : Out := s.row (·.issueNext r.val)

/-- Records of ring r are written: RUNNING, STOPPING, or FAULTED by a bad descriptor whose record and those ahead of it are to
come (R492, R502). -/
def State.ringEnds (s : State) (r : Nat) : Bool :=
  s.ringState r == 1 || s.ringState r == 2 || (s.ringState r == 4 && s.fld (FRY_R_STAT r) 4 3 == causeDesc)

/-- R480. The oldest descriptor in flight on ring r completes. -/
def State.completeNext (s : State) (r : Nat) : State :=
  let s := s.cond s.ferryEnds (·.ferryNext r)
  if s.ferryEnds && s.mayMove && s.ringEnds r && ((s.ring r).flights.head?.any (·.ready)) then
    s.completeFlight r
  else s

def execDescriptorComplete (r : Fin 8) (s : State) : Out := s.row (·.completeNext r.val)

/-- R482. The hold of a MARK or MONITOR buffer ends, and it completes. -/
def State.holdEnd (s : State) (r : Nat) : State :=
  if s.holdExpired r then
    (s.modRing r fun x => { x with flights := match x.flights with
      | f :: t => { f with ready := true } :: t
      | [] => [] }).completeNext r
  else s

def execBufferHoldExpire (r : Fin 8) (s : State) : Out := s.row (·.holdEnd r.val)

/-- R485. The data of a LOAD of ring r arrive, or the read failed, while SCLK runs (R169, log 74). -/
def execLoadReadComplete (r : Fin 8) (res : Option (List Quay)) (s : State) : Out :=
  s.row fun s => s.cond ((s.ring r.val).loading && s.lhs == 3) (·.loadData r.val res)

/-- R492. A STOPPING ring has nothing in flight; its ledger stands still while SCLK is gated (R169). -/
def execRingStopDone (r : Fin 8) (s : State) : Out :=
  s.row fun s => s.cond (s.ringState r.val == 2 && (s.ring r.val).flights.isEmpty && s.lhs == 3) (·.fryReturn r.val)

/-- R493. A write of FRY_R_CMD.START. -/
def execFryRCmdStart (r : Fin 8) (s : State) : Out := s.pcieW (FRY_R_CMD r.val) 1

/-- R492. A write of FRY_R_CMD.STOP. -/
def execFryRCmdStop (r : Fin 8) (s : State) : Out := s.pcieW (FRY_R_CMD r.val) 2

/-- R492. A write of FRY_R_CMD.RESUME. -/
def execFryRCmdResume (r : Fin 8) (s : State) : Out := s.pcieW (FRY_R_CMD r.val) 4

/-- R486. A write of FRY_R_POST. -/
def execFryRPostWrite (r : Fin 8) (n : BitVec 16) (s : State) : Out := s.pcieW (FRY_R_POST r.val) n.toNat

/-- R474. A BAR2 read of dws DWs. -/
def execBar2Read (off dws : Nat) (s : State) : Out := s.row fun s => s.cond s.pcieUp (·.wake.bar2ReadReq off dws)

/-- R474. A BAR2 read has not been served in 1 ms. -/
def execBar2ReadTimeout (s : State) : Out := s.row State.bar2Timeout

/-- R475. A BAR2 write of one DW. -/
def execBar2Write (off : Nat) (v : BitVec 32) (s : State) : Out := s.row fun s => s.cond s.pcieUp (·.wake.bar2WriteReq off v)

/-! ### Emica -/

/-- R512. The master sends its poll at cycle 10. -/
def execEmicaPollSend (s : State) : Out := s.row fun s => (s.toCycle 10).pollSend

/-- R512. A polled member sends in its own slot. -/
def execEmicaSlotSend (s : State) : Out := s.row fun s => (s.toCycle (10 + 10 * s.ownSlot)).slotSend

/-- R514. The bits of a frame in slot j, START left out, at the end of the slot. -/
def execEmicaFrameReceived (j : Fin 8) (w : BitVec 17) (s : State) : Out :=
  s.row fun s => (s.toCycle (20 + 10 * j.val)).frameRecv j.val w.toNat

/-- R516. The response deadline at cycle L - 8, with the ECLK edges counted in the tide (R508). -/
def execEmicaDeadline (eclk : Nat) (s : State) : Out := s.row fun s => (s.toCycle (s.tide.len - 8)).deadline eclk

/-- R510. The master drives ESYNC at cycle L - 9. -/
def execEsyncPulse (s : State) : Out := s.row fun s => (s.toCycle (s.tide.len - 9)).pulse 0

/-- R520. The master drives EARM at cycle 1. -/
def execEarmPulse (s : State) : Out := s.row fun s => (s.toCycle 1).pulse 1

/-- R520. EARM has registered: the groups are armed at cycle 3. -/
def execEarmReceived (s : State) : Out := s.row fun s => (s.toCycle 3).earm

/-- R523. The master drives EFIRE for calibration from cycle 50. -/
def execCalfirePulse (s : State) : Out := s.row fun s => (s.toCycle 50).pulse 2

/-- R521. An EFIRE edge is received. -/
def execEfireReceived (e : LaneEdge) (s : State) : Out := s.row (·.efireRecv e)

/-- R510. A write of EMC_CMD.ALIGN. -/
def execEmcCmdAlign (s : State) : Out := s.pcieW EMC_CMD 1

/-- R520. A write of EMC_CMD.ARM. -/
def execEmcCmdArm (s : State) : Out := s.pcieW EMC_CMD 2

/-- R523. A write of EMC_CMD.CALFIRE. -/
def execEmcCmdCalfire (s : State) : Out := s.pcieW EMC_CMD 4

/-- R516. A write of EMC_CMD.SHCLR. -/
def execEmcCmdShclr (s : State) : Out := s.pcieW EMC_CMD 8

/-! ### Tralor store -/

/-- R541. A write of TRL_CMD with SAVE. -/
def execTrlCmdSave (rec : BitVec 5) (s : State) : Out := s.pcieW TRL_CMD (rec.toNat + 2 ^ 8)

/-- R543. A write of TRL_CMD with RECALL, and with TRIM. -/
def execTrlCmdRecall (rec : BitVec 5) (trim : Bool) (s : State) : Out :=
  s.pcieW TRL_CMD (rec.toNat + 2 ^ 9 + b2n trim * 2 ^ 10)

/-- R545. A write of TRL_CMD with VERIFY. -/
def execTrlCmdVerify (rec : BitVec 5) (s : State) : Out := s.pcieW TRL_CMD (rec.toNat + 2 ^ 11)

/-- R546. A write of TRL_APPLY.GO. -/
def execTrlApplyGo (s : State) : Out := s.pcieW TRL_APPLY 1

/-- R549. A read of TRL_RAW_DATA. -/
def execTrlRawDataRead (q : Requester) (s : State) : Out := s.readRow q TRL_RAW_DATA

/-- R541. A copy has been written and read back. -/
def execStoreSaveCopyDone (good : Bool) (s : State) : Out := s.row (·.copyDone good)

/-- R543. Both copies have been read and judged. -/
def execStoreRecallReadDone (s : State) : Out := s.row State.recallRead

/-- R545. A verify finishes. -/
def execStoreVerifyDone (s : State) : Out := s.row State.verifyDone

end Sys2Proof.Machine
end

