-- ==== Sys2Proof/Machine/Dispatch.lean ====
section
/-! DEFINITION. The dispatch of exec: one arm per constructor of Instr, each one direct call of the
meaning of its row. -/

namespace Sys2Proof.Machine

def exec (i : Instr) (s : State) : Host.Outcome State Fault Refusal :=
  match i with
  | .sysIdQuery p => Sys2Proof.Machine.execSysIdQuery p s
  | .sysStepQuery p => Sys2Proof.Machine.execSysStepQuery p s
  | .sysTide p n => Sys2Proof.Machine.execSysTide p n s
  | .sysTideQuery p => Sys2Proof.Machine.execSysTideQuery p s
  | .sysTidenumQuery p => Sys2Proof.Machine.execSysTidenumQuery p s
  | .sysEpochQuery p => Sys2Proof.Machine.execSysEpochQuery p s
  | .sysGuard p e => Sys2Proof.Machine.execSysGuard p e s
  | .sysConflictQuery p => Sys2Proof.Machine.execSysConflictQuery p s
  | .sysUart p baud rts => Sys2Proof.Machine.execSysUart p baud rts s
  | .sysEcho p on => Sys2Proof.Machine.execSysEcho p on s
  | .sysNotify p mask => Sys2Proof.Machine.execSysNotify p mask s
  | .sysErrQuery p => Sys2Proof.Machine.execSysErrQuery p s
  | .sysReset p => Sys2Proof.Machine.execSysReset p s
  | .timeQuery p => Sys2Proof.Machine.execTimeQuery p s
  | .timeSet p sec ns => Sys2Proof.Machine.execTimeSet p sec ns s
  | .timeCancel p => Sys2Proof.Machine.execTimeCancel p s
  | .timeAdj p t => Sys2Proof.Machine.execTimeAdj p t s
  | .timePps p on fall => Sys2Proof.Machine.execTimePps p on fall s
  | .timePpslim p t step => Sys2Proof.Machine.execTimePpslim p t step s
  | .timePpsQuery p => Sys2Proof.Machine.execTimePpsQuery p s
  | .timeStampQuery p => Sys2Proof.Machine.execTimeStampQuery p s
  | .reg p off v => Sys2Proof.Machine.execReg p off v s
  | .regQuery p off => Sys2Proof.Machine.execRegQuery p off s
  | .abort p => Sys2Proof.Machine.execAbort p s
  | .clkAclk p fcw => Sys2Proof.Machine.execClkAclk p fcw s
  | .clkAclkQuery p => Sys2Proof.Machine.execClkAclkQuery p s
  | .clkFcw p v => Sys2Proof.Machine.execClkFcw p v s
  | .clkBw p h n => Sys2Proof.Machine.execClkBw p h n s
  | .clkLockwin p h n => Sys2Proof.Machine.execClkLockwin p h n s
  | .clkPhlim p h n => Sys2Proof.Machine.execClkPhlim p h n s
  | .clkAutores p h on => Sys2Proof.Machine.execClkAutores p h on s
  | .clkResume p h => Sys2Proof.Machine.execClkResume p h s
  | .clkDdr p r => Sys2Proof.Machine.execClkDdr p r s
  | .clkSync p on esync fall mask cont => Sys2Proof.Machine.execClkSync p on esync fall mask cont s
  | .clkStatQuery p => Sys2Proof.Machine.execClkStatQuery p s
  | .clkCountQuery p h => Sys2Proof.Machine.execClkCountQuery p h s
  | .pwrOn p d => Sys2Proof.Machine.execPwrOn p d s
  | .pwrOff p d => Sys2Proof.Machine.execPwrOff p d s
  | .pwrStateQuery p d => Sys2Proof.Machine.execPwrStateQuery p d s
  | .pwrDiscQuery p d => Sys2Proof.Machine.execPwrDiscQuery p d s
  | .pwrCauseQuery p => Sys2Proof.Machine.execPwrCauseQuery p s
  | .pwrPerst p host => Sys2Proof.Machine.execPwrPerst p host s
  | .berthRoute p n mask => Sys2Proof.Machine.execBerthRoute p n mask s
  | .berthRouteQuery p n => Sys2Proof.Machine.execBerthRouteQuery p n s
  | .berthMap p v => Sys2Proof.Machine.execBerthMap p v s
  | .berthMapQuery p => Sys2Proof.Machine.execBerthMapQuery p s
  | .berthCal p run which => Sys2Proof.Machine.execBerthCal p run which s
  | .berthCalQuery p => Sys2Proof.Machine.execBerthCalQuery p s
  | .berthBgclear p => Sys2Proof.Machine.execBerthBgclear p s
  | .berthTrim p b v => Sys2Proof.Machine.execBerthTrim p b v s
  | .berthTrimQuery p b => Sys2Proof.Machine.execBerthTrimQuery p b s
  | .berthCalofs p b v => Sys2Proof.Machine.execBerthCalofs p b v s
  | .berthCalgain p b v => Sys2Proof.Machine.execBerthCalgain p b v s
  | .berthMonQuery p n => Sys2Proof.Machine.execBerthMonQuery p n s
  | .berthSnapQuery p n => Sys2Proof.Machine.execBerthSnapQuery p n s
  | .berthMonchk p n on => Sys2Proof.Machine.execBerthMonchk p n on s
  | .berthMonstream p mask => Sys2Proof.Machine.execBerthMonstream p mask s
  | .berthOvrQuery p b => Sys2Proof.Machine.execBerthOvrQuery p b s
  | .berthStatQuery p => Sys2Proof.Machine.execBerthStatQuery p s
  | .pilotComp p n th hyst edge => Sys2Proof.Machine.execPilotComp p n th hyst edge s
  | .pilotCompQuery p n => Sys2Proof.Machine.execPilotCompQuery p n s
  | .pilotDly p src v => Sys2Proof.Machine.execPilotDly p src v s
  | .pilotDlyQuery p src => Sys2Proof.Machine.execPilotDlyQuery p src s
  | .pilotTrigin p j th edge => Sys2Proof.Machine.execPilotTrigin p j th edge s
  | .pilotDig p d ch ty dir th1 th2 hyst ovrq => Sys2Proof.Machine.execPilotDig p d ch ty dir th1 th2 hyst ovrq s
  | .pilotWidth p d cond w1 w2 => Sys2Proof.Machine.execPilotWidth p d cond w1 w2 s
  | .pilotSpan p d n => Sys2Proof.Machine.execPilotSpan p d n s
  | .pilotEng p g ab srcA srcB win => Sys2Proof.Machine.execPilotEng p g ab srcA srcB win s
  | .pilotEngQuery p g => Sys2Proof.Machine.execPilotEngQuery p g s
  | .pilotRef p g ch => Sys2Proof.Machine.execPilotRef p g ch s
  | .pilotQual p g src pol => Sys2Proof.Machine.execPilotQual p g src pol s
  | .pilotHold p g count v => Sys2Proof.Machine.execPilotHold p g count v s
  | .pilotOn p g => Sys2Proof.Machine.execPilotOn p g s
  | .pilotOff p g => Sys2Proof.Machine.execPilotOff p g s
  | .pilotEfire p on src group width => Sys2Proof.Machine.execPilotEfire p on src group width s
  | .pilotTrigout p j mode sel width => Sys2Proof.Machine.execPilotTrigout p j mode sel width s
  | .pilotLastQuery p g => Sys2Proof.Machine.execPilotLastQuery p g s
  | .pilotCountQuery p g => Sys2Proof.Machine.execPilotCountQuery p g s
  | .trig p gs => Sys2Proof.Machine.execTrig p gs s
  | .acqGroup p g stream mask => Sys2Proof.Machine.execAcqGroup p g stream mask s
  | .acqGroupQuery p g => Sys2Proof.Machine.execAcqGroupQuery p g s
  | .acqMem p g mem base size => Sys2Proof.Machine.execAcqMem p g mem base size s
  | .acqDisarm p g => Sys2Proof.Machine.execAcqDisarm p g s
  | .acqStatQuery p g => Sys2Proof.Machine.execAcqStatQuery p g s
  | .acqDeadQuery p g => Sys2Proof.Machine.execAcqDeadQuery p g s
  | .arm p gs => Sys2Proof.Machine.execArm p gs s
  | .segLen p g pre post => Sys2Proof.Machine.execSegLen p g pre post s
  | .segOverlap p g on => Sys2Proof.Machine.execSegOverlap p g on s
  | .segBuf p g ring count => Sys2Proof.Machine.execSegBuf p g ring count s
  | .segDir p mem base len => Sys2Proof.Machine.execSegDir p mem base len s
  | .segDirQuery p => Sys2Proof.Machine.execSegDirQuery p s
  | .segSeqQuery p => Sys2Proof.Machine.execSegSeqQuery p s
  | .streamSrc p g wmark => Sys2Proof.Machine.execStreamSrc p g wmark s
  | .streamBlock p g log2 nbuf => Sys2Proof.Machine.execStreamBlock p g log2 nbuf s
  | .streamStart p g => Sys2Proof.Machine.execStreamStart p g s
  | .streamStop p g => Sys2Proof.Machine.execStreamStop p g s
  | .streamGapQuery p g => Sys2Proof.Machine.execStreamGapQuery p g s
  | .wmarkSet p g mode d => Sys2Proof.Machine.execWmarkSet p g mode d s
  | .wmarkSetQuery p g => Sys2Proof.Machine.execWmarkSetQuery p g s
  | .whouseHist p h src res ovrx => Sys2Proof.Machine.execWhouseHist p h src res ovrx s
  | .whouseGate p h seg group => Sys2Proof.Machine.execWhouseGate p h seg group s
  | .whouseTwin p h ofs shift => Sys2Proof.Machine.execWhouseTwin p h ofs shift s
  | .whouseFlusht p h t => Sys2Proof.Machine.execWhouseFlusht p h t s
  | .whouseMem p obj mem base => Sys2Proof.Machine.execWhouseMem p obj mem base s
  | .whouseMap p m group ch cols rows ovrx => Sys2Proof.Machine.execWhouseMap p m group ch cols rows ovrx s
  | .whouseRate p m r => Sys2Proof.Machine.execWhouseRate p m r s
  | .whouseDecay p m k => Sys2Proof.Machine.execWhouseDecay p m k s
  | .whouseStart p obj clear => Sys2Proof.Machine.execWhouseStart p obj clear s
  | .whouseStop p obj => Sys2Proof.Machine.execWhouseStop p obj s
  | .whouseFlush p h => Sys2Proof.Machine.execWhouseFlush p h s
  | .whouseStatQuery p obj => Sys2Proof.Machine.execWhouseStatQuery p obj s
  | .whouseBinsQuery p => Sys2Proof.Machine.execWhouseBinsQuery p s
  | .dockCfg p n x16 dens8 ranks => Sys2Proof.Machine.execDockCfg p n x16 dens8 ranks s
  | .dockCfgNone p n => Sys2Proof.Machine.execDockCfgNone p n s
  | .dockCfgQuery p n => Sys2Proof.Machine.execDockCfgQuery p n s
  | .dockTim p n cl cwl trcd trp twr trc tfaw trfc trrdl tccdl => Sys2Proof.Machine.execDockTim p n cl cwl trcd trp twr trc tfaw trfc trrdl tccdl s
  | .dockTrain p n => Sys2Proof.Machine.execDockTrain p n s
  | .dockFerry p n units => Sys2Proof.Machine.execDockFerry p n units s
  | .dockCalQuery p n => Sys2Proof.Machine.execDockCalQuery p n s
  | .dockRefuseQuery p => Sys2Proof.Machine.execDockRefuseQuery p s
  | .dockStatQuery p n => Sys2Proof.Machine.execDockStatQuery p n s
  | .dockErrQuery p n => Sys2Proof.Machine.execDockErrQuery p n s
  | .tallyIn p l src edge => Sys2Proof.Machine.execTallyIn p l src edge s
  | .tallyMode p l mode partner => Sys2Proof.Machine.execTallyMode p l mode partner s
  | .tallyHold p l t => Sys2Proof.Machine.execTallyHold p l t s
  | .tallyGate p l t => Sys2Proof.Machine.execTallyGate p l t s
  | .tallyStill p l t => Sys2Proof.Machine.execTallyStill p l t s
  | .tallyDly p l v => Sys2Proof.Machine.execTallyDly p l v s
  | .tallyEdgein p j th hyst => Sys2Proof.Machine.execTallyEdgein p j th hyst s
  | .tallyStats p l n cont => Sys2Proof.Machine.execTallyStats p l n cont s
  | .tallyStart p l => Sys2Proof.Machine.execTallyStart p l s
  | .tallyStop p l => Sys2Proof.Machine.execTallyStop p l s
  | .tallyResQuery p l => Sys2Proof.Machine.execTallyResQuery p l s
  | .tallyReadQuery p l => Sys2Proof.Machine.execTallyReadQuery p l s
  | .tallyStatQuery p l => Sys2Proof.Machine.execTallyStatQuery p l s
  | .tallyCal p m => Sys2Proof.Machine.execTallyCal p m s
  | .tallyCalQuery p => Sys2Proof.Machine.execTallyCalQuery p s
  | .knobCfg p filt still inv => Sys2Proof.Machine.execKnobCfg p filt still inv s
  | .knobPosQuery p => Sys2Proof.Machine.execKnobPosQuery p s
  | .knobPos p v => Sys2Proof.Machine.execKnobPos p v s
  | .knobSvc p on loop detent => Sys2Proof.Machine.execKnobSvc p on loop detent s
  | .knobLim p mn mx => Sys2Proof.Machine.execKnobLim p mn mx s
  | .knobAcc p k thresh inc => Sys2Proof.Machine.execKnobAcc p k thresh inc s
  | .sluiceMode p n mode => Sys2Proof.Machine.execSluiceMode p n mode s
  | .sluiceIn p n ch neg => Sys2Proof.Machine.execSluiceIn p n ch neg s
  | .sluiceShare p n on => Sys2Proof.Machine.execSluiceShare p n on s
  | .sluiceLaw p n hyst band => Sys2Proof.Machine.execSluiceLaw p n hyst band s
  | .sluiceTiming p n deadline cycle => Sys2Proof.Machine.execSluiceTiming p n deadline cycle s
  | .sluicePair p n on => Sys2Proof.Machine.execSluicePair p n on s
  | .sluicePorts p n mask => Sys2Proof.Machine.execSluicePorts p n mask s
  | .sluicePhsrc p n src => Sys2Proof.Machine.execSluicePhsrc p n src s
  | .sluiceSwpreset p n on => Sys2Proof.Machine.execSluiceSwpreset p n on s
  | .sluiceSetp p n code => Sys2Proof.Machine.execSluiceSetp p n code s
  | .sluiceManout p n v => Sys2Proof.Machine.execSluiceManout p n v s
  | .sluiceSafe p n v => Sys2Proof.Machine.execSluiceSafe p n v s
  | .sluiceOutlim p n mn mx => Sys2Proof.Machine.execSluiceOutlim p n mn mx s
  | .sluiceIlim p n lo hi => Sys2Proof.Machine.execSluiceIlim p n lo hi s
  | .sluiceStages p n k => Sys2Proof.Machine.execSluiceStages p n k s
  | .sluiceCoef p n k b0 b1 b2 a1 a2 => Sys2Proof.Machine.execSluiceCoef p n k b0 b1 b2 a1 a2 s
  | .sluiceCoefraw p n k e m0 m1 m2 m3 m4 => Sys2Proof.Machine.execSluiceCoefraw p n k e m0 m1 m2 m3 m4 s
  | .sluiceKi p n ki => Sys2Proof.Machine.execSluiceKi p n ki s
  | .sluiceDband p n ix v => Sys2Proof.Machine.execSluiceDband p n ix v s
  | .sluiceRipple p n ix v => Sys2Proof.Machine.execSluiceRipple p n ix v s
  | .sluiceSwap p ns => Sys2Proof.Machine.execSluiceSwap p ns s
  | .sluiceMoorafter p n => Sys2Proof.Machine.execSluiceMoorafter p n s
  | .sluiceStatQuery p n => Sys2Proof.Machine.execSluiceStatQuery p n s
  | .sluiceMissedQuery p n => Sys2Proof.Machine.execSluiceMissedQuery p n s
  | .listEntry p ix sp dwell => Sys2Proof.Machine.execListEntry p ix sp dwell s
  | .listRange p n first last rep => Sys2Proof.Machine.execListRange p n first last rep s
  | .listRun p n => Sys2Proof.Machine.execListRun p n s
  | .listStop p n => Sys2Proof.Machine.execListStop p n s
  | .listStep p n => Sys2Proof.Machine.execListStep p n s
  | .listStatQuery p n => Sys2Proof.Machine.execListStatQuery p n s
  | .slipMode p k mode => Sys2Proof.Machine.execSlipMode p k mode s
  | .slipBus p sckdiv cpol ldac cyc => Sys2Proof.Machine.execSlipBus p sckdiv cpol ldac cyc s
  | .slipFrame p k len vbits vpos prefixv signed ldac => Sys2Proof.Machine.execSlipFrame p k len vbits vpos prefixv signed ldac s
  | .slipPwm p k per phase hshift bmode dt => Sys2Proof.Machine.execSlipPwm p k per phase hshift bmode dt s
  | .slipSafe p k v => Sys2Proof.Machine.execSlipSafe p k v s
  | .slipValue p k v => Sys2Proof.Machine.execSlipValue p k v s
  | .slipStatQuery p k => Sys2Proof.Machine.execSlipStatQuery p k s
  | .protChan p n v ix => Sys2Proof.Machine.execProtChan p n v ix s
  | .protLimit p n kind value => Sys2Proof.Machine.execProtLimit p n kind value s
  | .protPersist p n k => Sys2Proof.Machine.execProtPersist p n k s
  | .protUvdly p n k => Sys2Proof.Machine.execProtUvdly p n k s
  | .protOvrt p n on => Sys2Proof.Machine.execProtOvrt p n on s
  | .protFast p n th below mask => Sys2Proof.Machine.execProtFast p n th below mask s
  | .protFastOff p n => Sys2Proof.Machine.execProtFastOff p n s
  | .protTripout p j mask => Sys2Proof.Machine.execProtTripout p j mask s
  | .protMoor p ns => Sys2Proof.Machine.execProtMoor p ns s
  | .protClear p ns => Sys2Proof.Machine.execProtClear p ns s
  | .protStatQuery p => Sys2Proof.Machine.execProtStatQuery p s
  | .bellEn p n on => Sys2Proof.Machine.execBellEn p n on s
  | .bellEnQuery p => Sys2Proof.Machine.execBellEnQuery p s
  | .bellTarget p t on count time => Sys2Proof.Machine.execBellTarget p t on count time s
  | .bellTargetQuery p t => Sys2Proof.Machine.execBellTargetQuery p t s
  | .bellVec p n v => Sys2Proof.Machine.execBellVec p n v s
  | .bellClaimQuery p t => Sys2Proof.Machine.execBellClaimQuery p t s
  | .bellComplete p t n => Sys2Proof.Machine.execBellComplete p t n s
  | .bellStatQuery p => Sys2Proof.Machine.execBellStatQuery p s
  | .bellBadQuery p => Sys2Proof.Machine.execBellBadQuery p s
  | .ferryRing p r ty szlog2 groups => Sys2Proof.Machine.execFerryRing p r ty szlog2 groups s
  | .ferryBase p r d c => Sys2Proof.Machine.execFerryBase p r d c s
  | .ferryMod p r every hold => Sys2Proof.Machine.execFerryMod p r every hold s
  | .ferryStart p r => Sys2Proof.Machine.execFerryStart p r s
  | .ferryStop p r => Sys2Proof.Machine.execFerryStop p r s
  | .ferryResume p r => Sys2Proof.Machine.execFerryResume p r s
  | .ferryPost p r n => Sys2Proof.Machine.execFerryPost p r n s
  | .ferryStatQuery p r => Sys2Proof.Machine.execFerryStatQuery p r s
  | .ferryBar2 p mem base => Sys2Proof.Machine.execFerryBar2 p mem base s
  | .ferryAbrec p addr => Sys2Proof.Machine.execFerryAbrec p addr s
  | .ferryLinkQuery p => Sys2Proof.Machine.execFerryLinkQuery p s
  | .emicaRole p role slot => Sys2Proof.Machine.execEmicaRole p role slot s
  | .emicaMembers p mask => Sys2Proof.Machine.execEmicaMembers p mask s
  | .emicaShare p ch on => Sys2Proof.Machine.execEmicaShare p ch on s
  | .emicaGain p ks clamp => Sys2Proof.Machine.execEmicaGain p ks clamp s
  | .emicaMoor p on => Sys2Proof.Machine.execEmicaMoor p on s
  | .emicaCalrx p on => Sys2Proof.Machine.execEmicaCalrx p on s
  | .emicaEarm p mask => Sys2Proof.Machine.execEmicaEarm p mask s
  | .emicaAlign p => Sys2Proof.Machine.execEmicaAlign p s
  | .emicaArm p => Sys2Proof.Machine.execEmicaArm p s
  | .emicaCalfire p => Sys2Proof.Machine.execEmicaCalfire p s
  | .emicaCal p v => Sys2Proof.Machine.execEmicaCal p v s
  | .emicaCalQuery p => Sys2Proof.Machine.execEmicaCalQuery p s
  | .emicaShclr p => Sys2Proof.Machine.execEmicaShclr p s
  | .emicaStatQuery p => Sys2Proof.Machine.execEmicaStatQuery p s
  | .emicaValQuery p j => Sys2Proof.Machine.execEmicaValQuery p j s
  | .emicaAbsQuery p j => Sys2Proof.Machine.execEmicaAbsQuery p j s
  | .emicaRigofsQuery p => Sys2Proof.Machine.execEmicaRigofsQuery p s
  | .storeSave p rec => Sys2Proof.Machine.execStoreSave p rec s
  | .storeRecall p rec trim => Sys2Proof.Machine.execStoreRecall p rec trim s
  | .storeApply p => Sys2Proof.Machine.execStoreApply p s
  | .storeVerify p rec => Sys2Proof.Machine.execStoreVerify p rec s
  | .storeStatQuery p => Sys2Proof.Machine.execStoreStatQuery p s
  | .storeIdentQuery p => Sys2Proof.Machine.execStoreIdentQuery p s
  | .storeRawQuery p addr => Sys2Proof.Machine.execStoreRawQuery p addr s
  | .pinFunc p n func index park => Sys2Proof.Machine.execPinFunc p n func index park s
  | .pinInv p n on => Sys2Proof.Machine.execPinInv p n on s
  | .pinGpo p n hi => Sys2Proof.Machine.execPinGpo p n hi s
  | .yardRoute p k src task target edge => Sys2Proof.Machine.execYardRoute p k src task target edge s
  | .yardRouteQuery p k => Sys2Proof.Machine.execYardRouteQuery p k s
  | .yardOff p k => Sys2Proof.Machine.execYardOff p k s
  | .yardPulse p j => Sys2Proof.Machine.execYardPulse p j s
  | .yardBell p j src => Sys2Proof.Machine.execYardBell p j src s
  | .yardLogmask p src on => Sys2Proof.Machine.execYardLogmask p src on s
  | .pinFuncQuery p n => Sys2Proof.Machine.execPinFuncQuery p n s
  | .pinLevelQuery p n => Sys2Proof.Machine.execPinLevelQuery p n s
  | .yardBellQuery p => Sys2Proof.Machine.execYardBellQuery p s
  | .yardLogQuery p => Sys2Proof.Machine.execYardLogQuery p s
  | .yardCoincQuery p task => Sys2Proof.Machine.execYardCoincQuery p task s
  | .yardIgnQuery p task => Sys2Proof.Machine.execYardIgnQuery p task s
  | .yardAbortedQuery p => Sys2Proof.Machine.execYardAbortedQuery p s
  | .yardSnapQuery p => Sys2Proof.Machine.execYardSnapQuery p s
  | .tideEdge => Sys2Proof.Machine.execTideEdge s
  | .stagingCutoff reach => Sys2Proof.Machine.execStagingCutoff reach s
  | .averagingWindowClose late => Sys2Proof.Machine.execAveragingWindowClose late s
  | .limitEvaluation => Sys2Proof.Machine.execLimitEvaluation s
  | .protectionLatchCycle => Sys2Proof.Machine.execProtectionLatchCycle s
  | .loopOutputWrite n => Sys2Proof.Machine.execLoopOutputWrite n s
  | .pinSwitchTakeover pads => Sys2Proof.Machine.execPinSwitchTakeover pads s
  | .slpValueSend k => Sys2Proof.Machine.execSlpValueSend k s
  | .ldacCyclePulse => Sys2Proof.Machine.execLdacCyclePulse s
  | .secondRollover => Sys2Proof.Machine.execSecondRollover s
  | .slewStep => Sys2Proof.Machine.execSlewStep s
  | .ppsEdge falling => Sys2Proof.Machine.execPpsEdge falling s
  | .ppsLostTimeout => Sys2Proof.Machine.execPpsLostTimeout s
  | .uartByteReceived b bad => Sys2Proof.Machine.execUartByteReceived b bad s
  | .uartRtsChange high => Sys2Proof.Machine.execUartRtsChange high s
  | .spiCsFall sckHigh => Sys2Proof.Machine.execSpiCsFall sckHigh s
  | .spiByteTransfer mosi => Sys2Proof.Machine.execSpiByteTransfer mosi s
  | .spiCsRise cut => Sys2Proof.Machine.execSpiCsRise cut s
  | .cmdMbInWrite v => Sys2Proof.Machine.execCmdMbInWrite v s
  | .cmdMbOutRead => Sys2Proof.Machine.execCmdMbOutRead s
  | .lineParseComplete p => Sys2Proof.Machine.execLineParseComplete p s
  | .responsePlaced p => Sys2Proof.Machine.execResponsePlaced p s
  | .asyncLineEmit p => Sys2Proof.Machine.execAsyncLineEmit p s
  | .uartRateApply => Sys2Proof.Machine.execUartRateApply s
  | .bareTag p tag => Sys2Proof.Machine.execBareTag p tag s
  | .abortNLow => Sys2Proof.Machine.execAbortNLow s
  | .sysAbortGo => Sys2Proof.Machine.execSysAbortGo s
  | .abortDrained => Sys2Proof.Machine.execAbortDrained s
  | .abortedEmit => Sys2Proof.Machine.execAbortedEmit s
  | .mfPinLevelChange n level => Sys2Proof.Machine.execMfPinLevelChange n level s
  | .yrdPulseWrite v => Sys2Proof.Machine.execYrdPulseWrite v s
  | .yrdLogRead q => Sys2Proof.Machine.execYrdLogRead q s
  | .refinAbsentDeclared => Sys2Proof.Machine.execRefinAbsentDeclared s
  | .refinPresentDeclared => Sys2Proof.Machine.execRefinPresentDeclared s
  | .pullInComplete h => Sys2Proof.Machine.execPullInComplete h s
  | .lockWindowEnd h count => Sys2Proof.Machine.execLockWindowEnd h count s
  | .lighthouseResume h => Sys2Proof.Machine.execLighthouseResume h s
  | .lockLossPhase h => Sys2Proof.Machine.execLockLossPhase h s
  | .capstanDllLocked => Sys2Proof.Machine.execCapstanDllLocked s
  | .capstanLockSet => Sys2Proof.Machine.execCapstanLockSet s
  | .capstanLockClear => Sys2Proof.Machine.execCapstanLockClear s
  | .capstanHardFault => Sys2Proof.Machine.execCapstanHardFault s
  | .syncEdgeRegister esync falling => Sys2Proof.Machine.execSyncEdgeRegister esync falling s
  | .syncRealign => Sys2Proof.Machine.execSyncRealign s
  | .lhaSyncResume => Sys2Proof.Machine.execLhaSyncResume s
  | .domainOnEntry d => Sys2Proof.Machine.execDomainOnEntry d s
  | .domainOffEntry d => Sys2Proof.Machine.execDomainOffEntry d s
  | .drainLimitReached d => Sys2Proof.Machine.execDrainLimitReached d s
  | .domainStartFail d => Sys2Proof.Machine.execDomainStartFail d s
  | .powerOnReset => Sys2Proof.Machine.execPowerOnReset s
  | .resetNAssert => Sys2Proof.Machine.execResetNAssert s
  | .perstAssert => Sys2Proof.Machine.execPerstAssert s
  | .perstRelease => Sys2Proof.Machine.execPerstRelease s
  | .sysResetWrite v => Sys2Proof.Machine.execSysResetWrite v s
  | .resetRelease boothost => Sys2Proof.Machine.execResetRelease boothost s
  | .linkUp speed width => Sys2Proof.Machine.execLinkUp speed width s
  | .linkDown => Sys2Proof.Machine.execLinkDown s
  | .pciePowerStateChange d3 => Sys2Proof.Machine.execPciePowerStateChange d3 s
  | .msixConfigChange enable busMaster => Sys2Proof.Machine.execMsixConfigChange enable busMaster s
  | .msixVectorUnmask v => Sys2Proof.Machine.execMsixVectorUnmask v s
  | .berthOverRange b cyc positive => Sys2Proof.Machine.execBerthOverRange b cyc positive s
  | .skewRoundComplete sums => Sys2Proof.Machine.execSkewRoundComplete sums s
  | .matchBlockComplete ch => Sys2Proof.Machine.execMatchBlockComplete ch s
  | .brtBgClearWrite => Sys2Proof.Machine.execBrtBgClearWrite s
  | .comparatorCrossing n e => Sys2Proof.Machine.execComparatorCrossing n e s
  | .thresholdSettleEnd n high => Sys2Proof.Machine.execThresholdSettleEnd n high s
  | .triginEdge j e => Sys2Proof.Machine.execTriginEdge j e s
  | .digitalDetectorFire d => Sys2Proof.Machine.execDigitalDetectorFire d s
  | .engineEventEntry g => Sys2Proof.Machine.execEngineEventEntry g s
  | .abWindowExpire g => Sys2Proof.Machine.execAbWindowExpire g s
  | .efirePulseEnd => Sys2Proof.Machine.execEfirePulseEnd s
  | .trigoutPulseEnd j => Sys2Proof.Machine.execTrigoutPulseEnd j s
  | .pltSoftWrite v => Sys2Proof.Machine.execPltSoftWrite v s
  | .readySampleReached g => Sys2Proof.Machine.execReadySampleReached g s
  | .segmentCaptureEnd g => Sys2Proof.Machine.execSegmentCaptureEnd g s
  | .segmentHeaderWritten g => Sys2Proof.Machine.execSegmentHeaderWritten g s
  | .groupCloseComplete g => Sys2Proof.Machine.execGroupCloseComplete g s
  | .streamBlockBegin g => Sys2Proof.Machine.execStreamBlockBegin g s
  | .streamBlockComplete g => Sys2Proof.Machine.execStreamBlockComplete g s
  | .decimatorIntervalEnd g ch => Sys2Proof.Machine.execDecimatorIntervalEnd g ch s
  | .acqGCmdArm g => Sys2Proof.Machine.execAcqGCmdArm g s
  | .acqGCmdDisarm g => Sys2Proof.Machine.execAcqGCmdDisarm g s
  | .acqGCmdStart g => Sys2Proof.Machine.execAcqGCmdStart g s
  | .acqGCmdStop g => Sys2Proof.Machine.execAcqGCmdStop g s
  | .histSweepStart h => Sys2Proof.Machine.execHistSweepStart h s
  | .histSweepComplete h => Sys2Proof.Machine.execHistSweepComplete h s
  | .whsHCmdFlush h => Sys2Proof.Machine.execWhsHCmdFlush h s
  | .mapHitsWritten m => Sys2Proof.Machine.execMapHitsWritten m s
  | .mapDecayStart m => Sys2Proof.Machine.execMapDecayStart m s
  | .mapDecayComplete m => Sys2Proof.Machine.execMapDecayComplete m s
  | .dckTrainWrite n => Sys2Proof.Machine.execDckTrainWrite n s
  | .dockTrainStepDone n => Sys2Proof.Machine.execDockTrainStepDone n s
  | .dockTrainTimeout n => Sys2Proof.Machine.execDockTrainTimeout n s
  | .refreshRoundStart n => Sys2Proof.Machine.execRefreshRoundStart n s
  | .alertNAssert n => Sys2Proof.Machine.execAlertNAssert n s
  | .dockSelfrefExit n => Sys2Proof.Machine.execDockSelfrefExit n s
  | .bar2Read off dws => Sys2Proof.Machine.execBar2Read off dws s
  | .bar2ReadTimeout => Sys2Proof.Machine.execBar2ReadTimeout s
  | .bar2Write off v => Sys2Proof.Machine.execBar2Write off v s
  | .tallyEdgeAccepted l e => Sys2Proof.Machine.execTallyEdgeAccepted l e s
  | .freqStillTimeout l => Sys2Proof.Machine.execFreqStillTimeout l s
  | .intervalOverflow l => Sys2Proof.Machine.execIntervalOverflow l s
  | .tallyCalHitsComplete l h => Sys2Proof.Machine.execTallyCalHitsComplete l h s
  | .tlyCalGoWrite m => Sys2Proof.Machine.execTlyCalGoWrite m s
  | .tlyCalLoadWrite m => Sys2Proof.Machine.execTlyCalLoadWrite m s
  | .tlyTblDataAccess w => Sys2Proof.Machine.execTlyTblDataAccess w s
  | .tlyLCmdStart l => Sys2Proof.Machine.execTlyLCmdStart l s
  | .tlyLCmdStop l => Sys2Proof.Machine.execTlyLCmdStop l s
  | .tlyFifoRead q l => Sys2Proof.Machine.execTlyFifoRead q l s
  | .knobCountEdge a b count => Sys2Proof.Machine.execKnobCountEdge a b count s
  | .knobStillTimeout => Sys2Proof.Machine.execKnobStillTimeout s
  | .listDwellExpire n => Sys2Proof.Machine.execListDwellExpire n s
  | .slcSwapWrite m => Sys2Proof.Machine.execSlcSwapWrite m s
  | .slcStepWrite m => Sys2Proof.Machine.execSlcStepWrite m s
  | .slcListcmdRun n => Sys2Proof.Machine.execSlcListcmdRun n s
  | .slcListcmdStop n => Sys2Proof.Machine.execSlcListcmdStop n s
  | .spidacFrameStart => Sys2Proof.Machine.execSpidacFrameStart s
  | .spidacFrameEnd k => Sys2Proof.Machine.execSpidacFrameEnd k s
  | .hrpwmValueSample k => Sys2Proof.Machine.execHrpwmValueSample k s
  | .hrpwmPeriodStart k => Sys2Proof.Machine.execHrpwmPeriodStart k s
  | .fastTripCrossing n => Sys2Proof.Machine.execFastTripCrossing n s
  | .prtCmdClear m => Sys2Proof.Machine.execPrtCmdClear m s
  | .prtCmdMoor m => Sys2Proof.Machine.execPrtCmdMoor m s
  | .bellDelivery => Sys2Proof.Machine.execBellDelivery s
  | .msixMessageSend => Sys2Proof.Machine.execMsixMessageSend s
  | .belClaimRead t => Sys2Proof.Machine.execBelClaimRead t s
  | .belCompleteWrite t n => Sys2Proof.Machine.execBelCompleteWrite t n s
  | .belEnWrite hi v => Sys2Proof.Machine.execBelEnWrite hi v s
  | .descriptorFetchComplete r res => Sys2Proof.Machine.execDescriptorFetchComplete r res s
  | .descriptorIssue r => Sys2Proof.Machine.execDescriptorIssue r s
  | .descriptorComplete r => Sys2Proof.Machine.execDescriptorComplete r s
  | .bufferHoldExpire r => Sys2Proof.Machine.execBufferHoldExpire r s
  | .loadReadComplete r res => Sys2Proof.Machine.execLoadReadComplete r res s
  | .ringStopDone r => Sys2Proof.Machine.execRingStopDone r s
  | .fryRCmdStart r => Sys2Proof.Machine.execFryRCmdStart r s
  | .fryRCmdStop r => Sys2Proof.Machine.execFryRCmdStop r s
  | .fryRCmdResume r => Sys2Proof.Machine.execFryRCmdResume r s
  | .fryRPostWrite r n => Sys2Proof.Machine.execFryRPostWrite r n s
  | .emicaPollSend => Sys2Proof.Machine.execEmicaPollSend s
  | .emicaSlotSend => Sys2Proof.Machine.execEmicaSlotSend s
  | .emicaFrameReceived j w => Sys2Proof.Machine.execEmicaFrameReceived j w s
  | .emicaDeadline eclk => Sys2Proof.Machine.execEmicaDeadline eclk s
  | .esyncPulse => Sys2Proof.Machine.execEsyncPulse s
  | .earmPulse => Sys2Proof.Machine.execEarmPulse s
  | .earmReceived => Sys2Proof.Machine.execEarmReceived s
  | .calfirePulse => Sys2Proof.Machine.execCalfirePulse s
  | .efireReceived e => Sys2Proof.Machine.execEfireReceived e s
  | .emcCmdAlign => Sys2Proof.Machine.execEmcCmdAlign s
  | .emcCmdArm => Sys2Proof.Machine.execEmcCmdArm s
  | .emcCmdCalfire => Sys2Proof.Machine.execEmcCmdCalfire s
  | .emcCmdShclr => Sys2Proof.Machine.execEmcCmdShclr s
  | .trlCmdSave rec => Sys2Proof.Machine.execTrlCmdSave rec s
  | .trlCmdRecall rec trim => Sys2Proof.Machine.execTrlCmdRecall rec trim s
  | .trlCmdVerify rec => Sys2Proof.Machine.execTrlCmdVerify rec s
  | .trlApplyGo => Sys2Proof.Machine.execTrlApplyGo s
  | .trlRawDataRead q => Sys2Proof.Machine.execTrlRawDataRead q s
  | .storeSaveCopyDone good => Sys2Proof.Machine.execStoreSaveCopyDone good s
  | .storeRecallReadDone => Sys2Proof.Machine.execStoreRecallReadDone s
  | .storeVerifyDone => Sys2Proof.Machine.execStoreVerifyDone s
  | .timSetCtrlGo => Sys2Proof.Machine.execTimSetCtrlGo s
  | .timSetCtrlCancel => Sys2Proof.Machine.execTimSetCtrlCancel s
  | .timAdjWrite v => Sys2Proof.Machine.execTimAdjWrite v s
  | .sysGuardWrite v => Sys2Proof.Machine.execSysGuardWrite v s
  | .clkLhaResumeWrite => Sys2Proof.Machine.execClkLhaResumeWrite s
  | .clkLhsResumeWrite => Sys2Proof.Machine.execClkLhsResumeWrite s
  | .snSnapshotRead q off => Sys2Proof.Machine.execSnSnapshotRead q off s
  | .rcReadClear q off => Sys2Proof.Machine.execRcReadClear q off s
  | .registerWrite off v be => Sys2Proof.Machine.execRegisterWrite off v be s
  | .tapInstructionUpdate ir => Sys2Proof.Machine.execTapInstructionUpdate ir s
  | .uartCharacterSent => Sys2Proof.Machine.execUartCharacterSent s
  | .quayWordHandedOver ch cyc xs => Sys2Proof.Machine.execQuayWordHandedOver ch cyc xs s
  | .calendarSlot n => Sys2Proof.Machine.execCalendarSlot n s
  | .mapClearComplete m => Sys2Proof.Machine.execMapClearComplete m s
  | .fastTripStateLeft n => Sys2Proof.Machine.execFastTripStateLeft n s
  | .aspmL1Entry => Sys2Proof.Machine.execAspmL1Entry s
  | .bar0MultiDwRead off => Sys2Proof.Machine.execBar0MultiDwRead off s
  | .vddqFall => Sys2Proof.Machine.execVddqFall s

end Sys2Proof.Machine
end

