-- ==== Sys2Proof/Safety.lean ====
section
/-! DEFINITION. The terms the claims use: a safe step, a line that a port takes, a row that completes with an effect,
and the shapes that many rows share (a line that sets fields, a query that answers). -/

namespace Sys2Proof

/-- A step from s answers a next state: the command at the front of the queue neither faults nor is refused. -/
def StepSafe (s : Machine.State) : Prop := ∃ t, Machine.step s = .next t

namespace Machine

/-- RCLK runs, no reset is asserted, port p is there, and one of its 16 queue slots is free (R67, R96, R97, R113, R182). -/
abbrev Takes (s : State) (p : Fin 3) : Prop := s.live = true ∧ s.portUp p = true ∧ (s.port p).lines < 16

/-- RCLK runs, no reset is asserted, HOST is ON and the PCIe link is up outside D3hot (R67, R179, R182, R472, R496). -/
abbrev HostUp (s : State) : Prop := s.live = true ∧ s.pcieUp = true

/-- The row c answers a next state: its own effect u, then what settles on the same edge (`State.settle`: a save that waits takes
its snapshot, engines whose ground to run has ended stop, and the Bell follows its sources). The events it raised register
as the edge ends (`State.edgeClose`). -/
def Gives (s : State) (c : Instr) (u : State) : Prop := exec c s = .next u.settle

/-- A change stands in the state: the bits of its mask hold its value. -/
def Chg.Stands (c : Chg) (s : State) : Prop := s.regN c.off &&& c.mask = c.val &&& c.mask

/-- Every change of a list is in range and one the state in force allows (R27, R29, R89): none of the refusals of the
spec's tables applies. -/
def State.Allows (s : State) (cs : List Chg) : Prop := s.checkAll (s.putAll cs) cs = .ok ()

/-- Nothing but BAR0 registers, their low parts (R602) and the note of what was set differs. -/
def State.RegsOnly (s u : State) : Prop :=
  u = { s with regs := u.regs, lows := u.lows, ust := { s.ust with touched := u.ust.touched } }

/-- The registers outside a list hold what they held. -/
def State.KeepsRegs (s u : State) (offs : List Nat) : Prop := ∀ off, off ∉ offs → u.reg off = s.reg off

/-- How a line c that a port takes, with its arguments in range, is refused where it sets fields of a block of domain d
(kind C of R555): ER 202 while d is DRAINING, then the error of the first check that fails; nothing but the error record
of the port (and, for ER 301 and an APPLY, what R337 and R546 keep of a refusal) changes. -/
def Refuses (c : Fin 3 → Instr) (d : Dom) (cs : Fin 3 → List Chg) : Prop :=
  ∀ p s, Takes s p → argsBad (c p) = none →
    (s.dom d = 3 → Gives s (c p) (s.fail p 202 0)) ∧
    ∀ e, s.dom d ≠ 3 → s.checkAll (s.putAll (cs p)) (cs p) = .error e →
      Gives s (c p) ((s.noteRefusal e).fail p (errCode e) (errArg e))

/-- The line c, taken by a port, its arguments in range, domain d not DRAINING (kind C of R555) and its changes allowed,
commits: its fields hold their values, no other register but those of `also` changes, STATE_EPOCH advances and the
answer is OK (R40, R44, R92); else it is refused. -/
def Configures (c : Fin 3 → Instr) (d : Dom) (cs : Fin 3 → List Chg) (also : List Nat) : Prop :=
  Refuses c d cs ∧
  ∀ p s, Takes s p → argsBad (c p) = none → s.dom d ≠ 3 → s.Allows (cs p) →
    ∃ u, Gives s (c p) (u.okLine p) ∧ (∀ x ∈ cs p, x.Stands u) ∧ s.KeepsRegs u ((cs p).map Chg.off ++ also)

/-- The same for a line that changes nothing but registers. -/
def ConfiguresOnly (c : Fin 3 → Instr) (d : Dom) (cs : List Chg) (also : List Nat) : Prop :=
  Refuses c d (fun _ => cs) ∧
  ∀ p s, Takes s p → argsBad (c p) = none → s.dom d ≠ 3 → s.Allows cs →
    ∃ u, Gives s (c p) (u.okLine p) ∧ (∀ x ∈ cs, x.Stands u) ∧ s.KeepsRegs u (cs.map Chg.off ++ also) ∧ s.RegsOnly u

/-- The place of a word of the inactive coefficient bank of loop n (R386, R403). -/
def State.spareWord (s : State) (n off : Nat) : Nat := bankAt n (!(s.loop n).bank) off

/-- The line c, taken by a port and its arguments in range, commits in a state that meets `pre`: its effect is as `post`
says, STATE_EPOCH advances and the answer is OK (R44, R92). -/
def Commits (c : Fin 3 → Instr) (pre : State → Prop) (post : State → State → Prop) : Prop :=
  ∀ p s, Takes s p → argsBad (c p) = none → pre s → ∃ u, Gives s (c p) (u.okLine p) ∧ post s u

/-- The line c, taken by a port and its arguments in range, is refused in a state that meets `pre`: nothing changes but the
error record of the port (R92, R103). -/
def Errs (c : Fin 3 → Instr) (pre : State → Prop) (code arg : Nat) : Prop :=
  ∀ p s, Takes s p → argsBad (c p) = none → pre s → Gives s (c p) (s.fail p code arg)

/-- The line c acts on a block of domain d (kinds A and L of R555): ER 201 while d is OFF or STARTING, ER 202 while it is
DRAINING. -/
def NeedsOn (c : Fin 3 → Instr) (d : Dom) : Prop :=
  Errs c (fun s => s.dom d = 0 ∨ s.dom d = 1) 201 0 ∧ Errs c (fun s => s.dom d = 3) 202 0

/-- The event row c has its effect in a state on RCLK that meets `pre`: it is as `post` says. -/
def Effects (c : Instr) (pre : State → Prop) (post : State → State → Prop) : Prop :=
  ∀ s, s.live = true → pre s → ∃ u, Gives s c u ∧ post s u

/-- The line c, taken by a port and its arguments in range, commits in a state that meets `pre` and leaves `f` of it,
STATE_EPOCH advanced and OK answered (R44, R92). -/
def CommitsTo (c : Fin 3 → Instr) (pre : State → Prop) (f : State → State) : Prop :=
  ∀ p s, Takes s p → argsBad (c p) = none → pre s → Gives s (c p) ((f s).okLine p)

/-- The event row c turns a state on RCLK that meets `pre` into `f` of it. -/
def Turns (c : Instr) (pre : State → Prop) (f : State → State) : Prop :=
  ∀ s, s.live = true → pre s → Gives s c (f s)

/-- The event row c of the tide ledger, which first brings the tide to its cycle n (R35), has its effect there: in a state that
then meets `pre` it is as `post` says. -/
def EffectsAt (c : Instr) (n : State → Nat) (pre : State → Prop) (post : State → State → Prop) : Prop :=
  ∀ s, s.live = true → pre (s.toCycle (n s)) → ∃ u, Gives s c u ∧ post (s.toCycle (n s)) u

/-- The event row c of the tide ledger turns the state at its cycle n, which meets `pre`, into `f` of it. -/
def TurnsAt (c : Instr) (n : State → Nat) (pre : State → Prop) (f : State → State) : Prop :=
  ∀ s, s.live = true → pre (s.toCycle (n s)) → Gives s c (f (s.toCycle (n s)))

/-- The event row c acts at a tide edge, ahead of the changes of its boundary (R176): at the edge that began the tide while
none of its cycles has passed, at the coming one otherwise; and it changes nothing where `can` does not hold there. -/
def ActsAtEdge (c : Instr) (can : State → Prop) (f : State → State) : Prop :=
  ∀ s, s.live = true →
    (s.tide.cycle = 0 → can s → Gives s c (f s)) ∧
    (s.tide.cycle = 0 → ¬ can s → Gives s c s) ∧
    (s.tide.cycle ≠ 0 → can s.toEdge → ∃ r,
      r = f { s.toEdge with tide := { s.toEdge.tide with number := s.toEdge.tide.number + 1 } } ∧
      Gives s c { r with tide := { r.tide with number := s.toEdge.tide.number } }) ∧
    (s.tide.cycle ≠ 0 → ¬ can s.toEdge → Gives s c s)

/-- The PCIe write row c, on a link that is up, does what the unit `u` does, and a write that the unit refuses is ignored and
counted (R39, R47, R472). -/
def WriteActs (c : Instr) (u : State → UnitR) : Prop :=
  ∀ s, HostUp s →
    (∀ t, u s.wake = .ok t → Gives s c t) ∧
    ∀ e, u s.wake = .error e → Gives s c (s.wake.ignore.noteRefusal e)

/-- The read row c, by a requester q, reads the register at `off` (R472, R601): over PCIe its completion carries the value,
and a REG? line of a port is answered with it. -/
def ReadsReg (c : Instr) (q : Requester) (off : Nat) : Prop :=
  match q with
  | .pcie => ∀ s, HostUp s → ∃ u, Gives s c u ∧ u.rdata = (s.wake.readReg .pcie off).1 ∧
      u = { (s.wake.readReg .pcie off).2 with rdata := u.rdata }
  | .port p => ∀ s, Takes s p →
      Gives s c ((s.readReg (.port p) off).2.answer p (.ok [[.hex 8 (s.readReg (.port p) off).1.toNat]]))

/-- The query c, taken by a port and its arguments in range, is answered with the values `vals` reads from the state, and
clears the read-clear fields of the registers `clr` (R90, R92). -/
def Answers (c : Fin 3 → Instr) (vals : Fin 3 → State → List RVal) (clr : List Nat) : Prop :=
  ∀ p s, Takes s p → argsBad (c p) = none →
    Gives s (c p) ((clr.foldl State.clearRc s).answer p (.ok [vals p s]))

/-- The port a Damisk row arrives at. -/
def linePort : Instr → Option (Fin 3)
  | .sysIdQuery p | .sysStepQuery p | .sysTide p _ | .sysTideQuery p | .sysTidenumQuery p | .sysEpochQuery p
  | .sysGuard p _ | .sysConflictQuery p | .sysUart p _ _ | .sysEcho p _ | .sysNotify p _ | .sysErrQuery p
  | .sysReset p | .timeQuery p | .timeSet p _ _ | .timeCancel p | .timeAdj p _ | .timePps p _ _ | .timePpslim p _ _
  | .timePpsQuery p | .timeStampQuery p | .reg p _ _ | .regQuery p _ | .abort p | .clkAclk p _ | .clkAclkQuery p
  | .clkFcw p _ | .clkBw p _ _ | .clkLockwin p _ _ | .clkPhlim p _ _ | .clkAutores p _ _ | .clkResume p _
  | .clkDdr p _ | .clkSync p _ _ _ _ _ | .clkStatQuery p | .clkCountQuery p _ | .pwrOn p _ | .pwrOff p _
  | .pwrStateQuery p _ | .pwrDiscQuery p _ | .pwrCauseQuery p | .pwrPerst p _ | .berthRoute p _ _
  | .berthRouteQuery p _ | .berthMap p _ | .berthMapQuery p | .berthCal p _ _ | .berthCalQuery p | .berthBgclear p
  | .berthTrim p _ _ | .berthTrimQuery p _ | .berthCalofs p _ _ | .berthCalgain p _ _ | .berthMonQuery p _
  | .berthSnapQuery p _ | .berthMonchk p _ _ | .berthMonstream p _ | .berthOvrQuery p _ | .berthStatQuery p
  | .pilotComp p _ _ _ _ | .pilotCompQuery p _ | .pilotDly p _ _ | .pilotDlyQuery p _ | .pilotTrigin p _ _ _
  | .pilotDig p _ _ _ _ _ _ _ _ | .pilotWidth p _ _ _ _ | .pilotSpan p _ _ | .pilotEng p _ _ _ _ _
  | .pilotEngQuery p _ | .pilotRef p _ _ | .pilotQual p _ _ _ | .pilotHold p _ _ _ | .pilotOn p _ | .pilotOff p _
  | .pilotEfire p _ _ _ _ | .pilotTrigout p _ _ _ _ | .pilotLastQuery p _ | .pilotCountQuery p _ | .trig p _
  | .acqGroup p _ _ _ | .acqGroupQuery p _ | .acqMem p _ _ _ _ | .acqDisarm p _ | .acqStatQuery p _
  | .acqDeadQuery p _ | .arm p _ | .segLen p _ _ _ | .segOverlap p _ _ | .segBuf p _ _ _ | .segDir p _ _ _
  | .segDirQuery p | .segSeqQuery p | .streamSrc p _ _ | .streamBlock p _ _ _ | .streamStart p _ | .streamStop p _
  | .streamGapQuery p _ | .wmarkSet p _ _ _ | .wmarkSetQuery p _ | .whouseHist p _ _ _ _ | .whouseGate p _ _ _
  | .whouseTwin p _ _ _ | .whouseFlusht p _ _ | .whouseMem p _ _ _ | .whouseMap p _ _ _ _ _ _ | .whouseRate p _ _
  | .whouseDecay p _ _ | .whouseStart p _ _ | .whouseStop p _ | .whouseFlush p _ | .whouseStatQuery p _
  | .whouseBinsQuery p | .dockCfg p _ _ _ _ | .dockCfgNone p _ | .dockCfgQuery p _ | .dockTim p _ _ _ _ _ _ _ _ _ _ _
  | .dockTrain p _ | .dockFerry p _ _ | .dockCalQuery p _ | .dockRefuseQuery p | .dockStatQuery p _
  | .dockErrQuery p _ | .tallyIn p _ _ _ | .tallyMode p _ _ _ | .tallyHold p _ _ | .tallyGate p _ _
  | .tallyStill p _ _ | .tallyDly p _ _ | .tallyEdgein p _ _ _ | .tallyStats p _ _ _ | .tallyStart p _
  | .tallyStop p _ | .tallyResQuery p _ | .tallyReadQuery p _ | .tallyStatQuery p _ | .tallyCal p _
  | .tallyCalQuery p | .knobCfg p _ _ _ | .knobPosQuery p | .knobPos p _ | .knobSvc p _ _ _ | .knobLim p _ _
  | .knobAcc p _ _ _ | .sluiceMode p _ _ | .sluiceIn p _ _ _ | .sluiceShare p _ _ | .sluiceLaw p _ _ _
  | .sluiceTiming p _ _ _ | .sluicePair p _ _ | .sluicePorts p _ _ | .sluicePhsrc p _ _ | .sluiceSwpreset p _ _
  | .sluiceSetp p _ _ | .sluiceManout p _ _ | .sluiceSafe p _ _ | .sluiceOutlim p _ _ _ | .sluiceIlim p _ _ _
  | .sluiceStages p _ _ | .sluiceCoef p _ _ _ _ _ _ _ | .sluiceCoefraw p _ _ _ _ _ _ _ _ | .sluiceKi p _ _
  | .sluiceDband p _ _ _ | .sluiceRipple p _ _ _ | .sluiceSwap p _ | .sluiceMoorafter p _ | .sluiceStatQuery p _
  | .sluiceMissedQuery p _ | .listEntry p _ _ _ | .listRange p _ _ _ _ | .listRun p _ | .listStop p _ | .listStep p _
  | .listStatQuery p _ | .slipMode p _ _ | .slipBus p _ _ _ _ | .slipFrame p _ _ _ _ _ _ _ | .slipPwm p _ _ _ _ _ _
  | .slipSafe p _ _ | .slipValue p _ _ | .slipStatQuery p _ | .protChan p _ _ _ | .protLimit p _ _ _
  | .protPersist p _ _ | .protUvdly p _ _ | .protOvrt p _ _ | .protFast p _ _ _ _ | .protFastOff p _
  | .protTripout p _ _ | .protMoor p _ | .protClear p _ | .protStatQuery p | .bellEn p _ _ | .bellEnQuery p
  | .bellTarget p _ _ _ _ | .bellTargetQuery p _ | .bellVec p _ _ | .bellClaimQuery p _ | .bellComplete p _ _
  | .bellStatQuery p | .bellBadQuery p | .ferryRing p _ _ _ _ | .ferryBase p _ _ _ | .ferryMod p _ _ _
  | .ferryStart p _ | .ferryStop p _ | .ferryResume p _ | .ferryPost p _ _ | .ferryStatQuery p _ | .ferryBar2 p _ _
  | .ferryAbrec p _ | .ferryLinkQuery p | .emicaRole p _ _ | .emicaMembers p _ | .emicaShare p _ _ | .emicaGain p _ _
  | .emicaMoor p _ | .emicaCalrx p _ | .emicaEarm p _ | .emicaAlign p | .emicaArm p | .emicaCalfire p | .emicaCal p _
  | .emicaCalQuery p | .emicaShclr p | .emicaStatQuery p | .emicaValQuery p _ | .emicaAbsQuery p _
  | .emicaRigofsQuery p | .storeSave p _ | .storeRecall p _ _ | .storeApply p | .storeVerify p _ | .storeStatQuery p
  | .storeIdentQuery p | .storeRawQuery p _ | .pinFunc p _ _ _ _ | .pinInv p _ _ | .pinGpo p _ _
  | .yardRoute p _ _ _ _ _ | .yardRouteQuery p _ | .yardOff p _ | .yardPulse p _ | .yardBell p _ _
  | .yardLogmask p _ _ | .pinFuncQuery p _ | .pinLevelQuery p _ | .yardBellQuery p | .yardLogQuery p
  | .yardCoincQuery p _ | .yardIgnQuery p _ | .yardAbortedQuery p | .yardSnapQuery p => some p
  | _ => none

/-- The row acts though RCLK does not run, or while a reset is asserted: REFIN, the resets, the supplies, the TAP, the
host's UART_RTS_N and the fast comparators (R67, R73, R142, R182, R430, R640). -/
def actsUnclocked : Instr → Bool
  | .refinAbsentDeclared | .refinPresentDeclared | .powerOnReset | .resetNAssert | .perstAssert | .perstRelease
  | .resetRelease _ | .vddqFall | .tapInstructionUpdate _ | .mfPinLevelChange _ _ | .uartRtsChange _ | .fastTripCrossing _
  | .fastTripStateLeft _ => true
  | _ => false

/-- Every sparse store of the state is in canonical form: keys rising, and no entry that holds what an unlisted key reads as.
They are the registers with their low parts and snapshot latches, the notes of what an edge has set and added, the words of the
three memories and of the Tralor store, the lanes' tables and the histograms' partial bins. -/
def State.wf (s : State) : Bool :=
  smWf resetValue s.regs && smWf (fun _ => 0) s.lows && smWf (fun _ => 0) s.latches &&
  smWf (fun _ => 0) s.edge.sets && smWf (fun _ => 0) s.edge.adds && smWf (fun _ => 0) s.edge.olds &&
  s.mem.toList.all MemSt.wf && smWf storeDefault s.store.words &&
  s.lanes.toList.all (fun x => smWf (fun _ => 0) x.table && smWf (fun _ => 0) x.spare) &&
  s.hists.toList.all (fun x => smWf (fun _ => 0) x.part)

end Machine

end Sys2Proof
end

