-- ==== Sys2Proof/Certificates/Slice0/Obligations.lean ====
section
/-! DEFINITION. The claims about the unit, one `Obligations.<Name>` each. -/

open Sys2Proof Sys2Proof.Machine

/-! ### Lines that set fields -/

/-- The SYS, CLK and PWR lines that set fields of their own registers alone (R41, R45, R72, R74, R141, R144, R151, R168,
R182, R555, R561, R562): each commits where its checks pass. -/
def Obligations.SysClkPwrLinesSetTheirFields : Prop :=
  (∀ n, ConfiguresOnly (fun p => .sysTide p n) .aon [chg SYS_TIDE_LEN 0 10 n] []) ∧
  (∀ on, Configures (fun p => .sysEcho p on) .aon (fun p => [chg (CMD_PCFG p) 0 1 (b2n on)]) []) ∧
  (∀ m, Configures (fun p => .sysNotify p m) .aon (fun p => [chg (CMD_PCFG p) 8 7 m]) []) ∧
  (∀ h n, ConfiguresOnly (fun p => .clkBw p h n) (synthDom h) [chg (synthCfg h) 0 2 n] []) ∧
  (∀ h n, ConfiguresOnly (fun p => .clkLockwin p h n) (synthDom h) [chg (synthCfg h) 8 8 n] []) ∧
  (∀ h n, ConfiguresOnly (fun p => .clkPhlim p h n) (synthDom h) [chg (synthCfg h) 16 6 n] []) ∧
  (∀ h on, ConfiguresOnly (fun p => .clkAutores p h on) (synthDom h) [chg (synthCfg h) 24 1 (b2n on)] []) ∧
  (∀ r, ConfiguresOnly (fun p => .clkDdr p r) .lhs [chg CLK_LHS_CFG 28 2 (ddrCode r)] [DCK_CH_TSTAT 0, DCK_CH_TSTAT 1]) ∧
  (∀ on esync fall m cont, ConfiguresOnly (fun p => .clkSync p on esync fall m cont) .aon
    (chg CLK_SYNC_CTRL 0 1 (b2n on) ::
      (chgB CLK_SYNC_CTRL 1 esync ++ chgB CLK_SYNC_CTRL 2 fall ++ chgN CLK_SYNC_CTRL 4 4 m ++ chgB CLK_SYNC_CTRL 3 cont)) []) ∧
  (∀ host, ConfiguresOnly (fun p => .pwrPerst p host) .aon [chg PWR_RST_CFG 0 1 (b2n host)] [])

/-- The BERTH and PILOT lines that set fields (R209, R217, R225, R227, R233 to R236, R240 to R249, R555, R563, R564). -/
def Obligations.BerthPilotLinesSetTheirFields : Prop :=
  (∀ run which, Configures (fun p => .berthCal p run which) .aon (fun _ => [match which with
    | .skew => chg BRT_CAL_CTRL 0 1 (b2n run)
    | .gain => chg BRT_CAL_CTRL 1 1 (b2n run)
    | .offset => chg BRT_CAL_CTRL 2 1 (b2n run)
    | .all => chg BRT_CAL_CTRL 0 3 (7 * b2n run)]) [BRT_CAL_STAT]) ∧
  (∀ b v, ConfiguresOnly (fun p => .berthTrim p b v) (berthDom b) [chg (BRT_TRIM b) 0 16 v] []) ∧
  (∀ b v, ConfiguresOnly (fun p => .berthCalofs p b v) (berthDom b) [chgI (BRT_OFS b) 0 16 v] []) ∧
  (∀ b v, ConfiguresOnly (fun p => .berthCalgain p b v) (berthDom b) [chgI (BRT_GAIN b) 0 16 v] []) ∧
  (∀ n on, ConfiguresOnly (fun p => .berthMonchk p n on) .aon [chg BRT_MON_CFG n 1 (b2n on)] []) ∧
  (∀ m, ConfiguresOnly (fun p => .berthMonstream p m) .aon [chg BRT_MON_CFG 8 8 m] []) ∧
  (∀ n th hyst edge, Configures (fun p => .pilotComp p n th hyst edge) .ctrl
    (fun _ => chg (PLT_CMP n) 0 12 th :: (chgN (PLT_CMP n) 12 8 hyst ++ chgE (PLT_CMP n) 20 edge)) []) ∧
  (∀ src v, ConfiguresOnly (fun p => .pilotDly p src v) .aon [chgI (dlyReg src) 0 20 v] []) ∧
  (∀ j th edge, ConfiguresOnly (fun p => .pilotTrigin p j th edge) .aon
    (chg (PLT_TRIGIN j) 0 12 th :: chgE (PLT_TRIGIN j) 12 edge) []) ∧
  (∀ d ch ty dir t1 t2 h q, Configures (fun p => .pilotDig p d ch ty dir t1 t2 h q) .acq
    (fun _ => [chg (PLT_DIG_CFG d) 0 3 ch, chg (PLT_DIG_CFG d) 4 3 (digCode ty), chg (PLT_DIG_CFG d) 8 2 dir,
      chgI (PLT_DIG_TH d) 0 16 t1] ++ chgZ (PLT_DIG_TH d) 16 16 t2 ++ chgN (PLT_DIG_CFG d) 16 12 h ++
      chgB (PLT_DIG_CFG d) 15 q) []) ∧
  (∀ d cond w1 w2, ConfiguresOnly (fun p => .pilotWidth p d cond w1 w2) .acq
    ([chg (PLT_DIG_CFG d) 12 2 cond, chg (PLT_DIG_W1 d) 0 32 w1] ++ chgN (PLT_DIG_W2 d) 0 32 w2) []) ∧
  (∀ d n, ConfiguresOnly (fun p => .pilotSpan p d n) .acq [chg (PLT_DIG_SPAN d) 0 8 n] []) ∧
  (∀ g ab a b w, ConfiguresOnly (fun p => .pilotEng p g ab a b w) .acq
    ([chg (PLT_ENG_CFG g) 1 1 (b2n ab), chg (PLT_ENG_CFG g) 8 7 a] ++ chgN (PLT_ENG_CFG g) 16 7 b ++
      chgN (PLT_ENG_WIN g) 0 32 w) []) ∧
  (∀ g ch, ConfiguresOnly (fun p => .pilotRef p g ch) .acq [chg (PLT_ENG_CFG g) 24 3 ch] []) ∧
  (∀ g src pol, ConfiguresOnly (fun p => .pilotQual p g src pol) .acq
    (chg (PLT_ENG_QUAL g) 8 1 (b2n src.isSome) :: (chgN (PLT_ENG_QUAL g) 0 7 src ++ chgN (PLT_ENG_QUAL g) 7 1 pol)) []) ∧
  (∀ g count v, ConfiguresOnly (fun p => .pilotHold p g count v) .acq
    [⟨PLT_ENG_HOLD_HI g, 0x800000FF, v / 2 ^ 32 + b2n count * 2 ^ 31, v % 2 ^ 32⟩] []) ∧
  (∀ g, ConfiguresOnly (fun p => .pilotOn p g) .acq [chg (PLT_ENG_CFG g) 0 1 1] []) ∧
  (∀ g, ConfiguresOnly (fun p => .pilotOff p g) .acq [chg (PLT_ENG_CFG g) 0 1 0] []) ∧
  (∀ on src grp w, ConfiguresOnly (fun p => .pilotEfire p on src grp w) .aon
    (chg PLT_EFIRE_CFG 7 1 (b2n on) :: (chgN PLT_EFIRE_CFG 0 7 src ++ chgN PLT_EFIRE_CFG 8 3 grp ++ chgN PLT_EFIRE_CFG 16 8 w)) []) ∧
  (∀ j mode sel w, Configures (fun p => .pilotTrigout p j mode sel w) .aon
    (fun _ => chg (PLT_TRIGOUT j) 0 2 (trigoutCode mode) :: (chgN (PLT_TRIGOUT j) 2 7 sel ++ chgN (PLT_TRIGOUT j) 16 16 w)) [])

/-- The ACQ, SEG, STREAM, WMARK, WHOUSE and DOCK lines that set fields (R252, R267, R270, R281, R291, R299, R302 to R319,
R329, R333, R341, R555, R565, R566). -/
def Obligations.CaptureLinesSetTheirFields : Prop :=
  (∀ g stream m, ConfiguresOnly (fun p => .acqGroup p g stream m) .acq
    [chg (ACQ_G_CFG g) 0 1 (b2n stream), chg (ACQ_G_CFG g) 8 8 m] []) ∧
  (∀ g mem b z, ConfiguresOnly (fun p => .acqMem p g mem b z) .acq
    [chg (ACQ_G_CFG g) 4 2 (memCode mem), chg (ACQ_G_BASE g) 0 32 b, chg (ACQ_G_SIZE g) 0 32 z] []) ∧
  (∀ g pre post, ConfiguresOnly (fun p => .segLen p g pre post) .acq [chg (ACQ_G_PRE g) 0 21 pre, chg (ACQ_G_POST g) 0 32 post] []) ∧
  (∀ g on, ConfiguresOnly (fun p => .segOverlap p g on) .acq [chg (ACQ_G_CFG g) 1 1 (b2n on)] []) ∧
  (∀ g ring n, ConfiguresOnly (fun p => .segBuf p g ring n) .acq [chg (ACQ_G_CFG g) 2 1 (b2n ring), chg (ACQ_G_COUNT g) 0 32 n] []) ∧
  (∀ mem b len, ConfiguresOnly (fun p => .segDir p mem b len) .acq
    [chg MAN_DIR_CFG 0 2 (memCode mem), chg MAN_DIR_BASE 0 32 b, chg MAN_DIR_LEN 0 25 len] [MAN_DIR_NEXT]) ∧
  (∀ g w, ConfiguresOnly (fun p => .streamSrc p g w) .acq [chg (ACQ_G_CFG g) 3 1 (b2n w)] []) ∧
  (∀ g l n, ConfiguresOnly (fun p => .streamBlock p g l n) .acq [chg (ACQ_G_CFG g) 16 4 l, chg (ACQ_G_CFG g) 20 4 n] []) ∧
  (∀ g mode d, ConfiguresOnly (fun p => .wmarkSet p g mode d) .acq [chg (WMK_G_CFG g) 0 2 (wmkCode mode), chg (WMK_G_D g) 0 25 d] []) ∧
  (∀ h src res x, ConfiguresOnly (fun p => .whouseHist p h src res x) .acq
    ([chg (WHS_H_CFG h) 0 4 src, chg (WHS_H_CFG h) 4 5 res] ++ chgB (WHS_H_CFG h) 9 x) []) ∧
  (∀ h seg g, ConfiguresOnly (fun p => .whouseGate p h seg g) .acq (chg (WHS_H_CFG h) 10 1 (b2n seg) :: chgN (WHS_H_CFG h) 11 3 g) []) ∧
  (∀ h ofs sh, ConfiguresOnly (fun p => .whouseTwin p h ofs sh) .acq
    [⟨WHS_H_OFS_HI h, 0x3FFFFF, ofs / 2 ^ 32 + sh * 2 ^ 16, ofs % 2 ^ 32⟩] []) ∧
  (∀ h t, ConfiguresOnly (fun p => .whouseFlusht p h t) .acq [chg (WHS_H_CFG h) 16 10 t] []) ∧
  (∀ o mem b, ConfiguresOnly (fun p => .whouseMem p o mem b) .acq (match o with
    | .hist h => [chg (WHS_H_CFG h) 14 2 (memCode mem), chg (WHS_H_BASE h) 0 32 b]
    | .map m => [chg (WHS_M_CFG m) 8 2 (memCode mem), chg (WHS_M_BASE m) 0 32 b]) []) ∧
  (∀ m g ch cols rows x, ConfiguresOnly (fun p => .whouseMap p m g ch cols rows x) .acq
    ([chg (WHS_M_CFG m) 0 3 g, chg (WHS_M_CFG m) 4 3 ch, chg (WHS_M_SIZE m) 0 13 cols, chg (WHS_M_SIZE m) 16 4 rows.log2] ++
      chgB (WHS_M_CFG m) 7 x) []) ∧
  (∀ m r, ConfiguresOnly (fun p => .whouseRate p m r) .acq [chg (WHS_M_RATE m) 0 20 r] []) ∧
  (∀ m k, ConfiguresOnly (fun p => .whouseDecay p m k) .acq [chg (WHS_M_DECAY m) 0 16 k] []) ∧
  (∀ n x16 d8 ranks, ConfiguresOnly (fun p => .dockCfg p n x16 d8 ranks) .dock
    [chg (DCK_CH_CFG n) 0 4 (1 + 2 * b2n x16 + 4 * b2n d8 + 8 * (ranks - 1))] [DCK_CH_TSTAT n]) ∧
  (∀ n, ConfiguresOnly (fun p => .dockCfgNone p n) .dock [chg (DCK_CH_CFG n) 0 1 0] [DCK_CH_TSTAT n, DCK_CH_SIZE n, DCK_STAT]) ∧
  (∀ n cl cwl trcd trp twr trc tfaw trfc trrdl tccdl,
    ConfiguresOnly (fun p => .dockTim p n cl cwl trcd trp twr trc tfaw trfc trrdl tccdl) .dock
      [chg (DCK_CH_TIM0 n) 0 6 cl, chg (DCK_CH_TIM0 n) 8 6 cwl, chg (DCK_CH_TIM0 n) 16 6 trcd, chg (DCK_CH_TIM0 n) 24 6 trp,
        chg (DCK_CH_TIM1 n) 0 6 twr, chg (DCK_CH_TIM1 n) 8 8 trc, chg (DCK_CH_TIM1 n) 16 8 tfaw,
        chg (DCK_CH_TIM2 n) 0 10 trfc, chg (DCK_CH_TIM2 n) 16 4 trrdl, chg (DCK_CH_TIM2 n) 24 4 tccdl] []) ∧
  (∀ n u, ConfiguresOnly (fun p => .dockFerry p n u) .dock [chg (DCK_CH_FERRY n) 0 7 u] [])

/-- The TALLY, KNOB, SLUICE and LIST lines that set fields (R346, R363 to R381, R383 to R408, R555, R567, R568). -/
def Obligations.TallySluiceLinesSetTheirFields : Prop :=
  (∀ l src e, ConfiguresOnly (fun p => .tallyIn p l src e) .tally (chg (TLY_L_CFG l) 4 4 src :: chgE (TLY_L_CFG l) 8 e) []) ∧
  (∀ l mode pt, ConfiguresOnly (fun p => .tallyMode p l mode pt) .tally
    (chg (TLY_L_CFG l) 0 3 (tlyCode mode) :: chgN (TLY_L_CFG l) 12 2 pt) []) ∧
  (∀ l t, ConfiguresOnly (fun p => .tallyHold p l t) .tally [chg (TLY_L_HOLD l) 0 24 t] []) ∧
  (∀ l t, ConfiguresOnly (fun p => .tallyGate p l t) .tally [chg (TLY_L_GATE l) 0 24 t] []) ∧
  (∀ l t, ConfiguresOnly (fun p => .tallyStill p l t) .tally [chg (TLY_L_STILL l) 0 16 t] []) ∧
  (∀ l v, ConfiguresOnly (fun p => .tallyDly p l v) .tally [chgI (TLY_L_DLY l) 0 20 v] []) ∧
  (∀ j th h, ConfiguresOnly (fun p => .tallyEdgein p j th h) .tally (chg (TLY_EDGEIN j) 0 12 th :: chgN (TLY_EDGEIN j) 12 8 h) []) ∧
  (∀ l n cont, ConfiguresOnly (fun p => .tallyStats p l n cont) .tally
    (chg (TLY_L_CFG l) 17 1 (b2n n.isSome) :: (chgN (TLY_L_N l) 0 32 n ++ chgB (TLY_L_CFG l) 16 cont)) []) ∧
  (∀ f st inv, ConfiguresOnly (fun p => .knobCfg p f st inv) .tally
    [chg KNB_CFG 0 10 f, chg KNB_CFG 10 16 st, chg KNB_CFG 31 1 (b2n inv)] []) ∧
  (∀ v, Configures (fun p => .knobPos p v) .tally (fun _ => [chgI KNB_SETPOS 0 32 v]) [KNB_POS]) ∧
  (∀ on l d, ConfiguresOnly (fun p => .knobSvc p on l d) .tally
    (chg KNB_SVC 0 1 (b2n on) :: (chgN KNB_SVC 4 3 l ++ chgN KNB_SVC 8 2 (d.map detentCode))) []) ∧
  (∀ mn mx, ConfiguresOnly (fun p => .knobLim p mn mx) .tally [chgI KNB_LIM 0 16 mn, chgI KNB_LIM 16 16 mx] []) ∧
  (∀ i t st, ConfiguresOnly (fun p => .knobAcc p i t st) .tally [chg (KNB_ACC i) 0 16 t, chg (KNB_ACC i) 16 16 st] []) ∧
  (∀ n ch neg, ConfiguresOnly (fun p => .sluiceIn p n ch neg) .ctrl [chg (SLC_L_CFG n) 4 3 ch, chg (SLC_L_CFG n) 2 1 (b2n neg)] []) ∧
  (∀ n on, ConfiguresOnly (fun p => .sluiceShare p n on) .ctrl [chg (SLC_L_CFG n) 9 1 (b2n on)] []) ∧
  (∀ n hyst band, ConfiguresOnly (fun p => .sluiceLaw p n hyst band) .ctrl
    (chg (SLC_L_CFG n) 0 1 (b2n hyst) :: chgN (SLC_L_BAND n) 0 15 band) []) ∧
  (∀ n on, ConfiguresOnly (fun p => .sluicePair p n on) .ctrl [chg (SLC_L_CFG n) 8 1 (b2n on)] []) ∧
  (∀ n m, ConfiguresOnly (fun p => .sluicePorts p n m) .ctrl [chg (SLC_L_PORTS n) 0 8 m] []) ∧
  (∀ n src, ConfiguresOnly (fun p => .sluicePhsrc p n src) .ctrl [chg (SLC_L_CFG n) 12 3 src] []) ∧
  (∀ n on, ConfiguresOnly (fun p => .sluiceSwpreset p n on) .ctrl [chg (SLC_L_CFG n) 10 1 (b2n on)] []) ∧
  (∀ n c, Configures (fun p => .sluiceSetp p n c) .ctrl (fun _ => [chgI (SLC_L_SETP n) 0 16 c]) []) ∧
  (∀ n v, Configures (fun p => .sluiceManout p n v) .ctrl (fun _ => [chgI (SLC_L_MANOUT n) 0 20 v]) []) ∧
  (∀ n v, ConfiguresOnly (fun p => .sluiceSafe p n v) .ctrl [chgI (SLC_L_SAFE n) 0 20 v] []) ∧
  (∀ n a b, ConfiguresOnly (fun p => .sluiceOutlim p n a b) .ctrl [chgI (SLC_L_OUTMIN n) 0 20 a, chgI (SLC_L_OUTMAX n) 0 20 b] []) ∧
  (∀ n a b, ConfiguresOnly (fun p => .sluiceIlim p n a b) .ctrl [chgI (SLC_L_ILO n) 0 24 a, chgI (SLC_L_IHI n) 0 24 b] []) ∧
  (∀ n, ConfiguresOnly (fun p => .sluiceMoorafter p n) .ctrl [chg SLC_MOOR_AFTER 0 8 n] []) ∧
  (∀ i sp d, ConfiguresOnly (fun p => .listEntry p i sp d) .ctrl [chgI (SLC_LIST i) 0 16 sp, chg (SLC_LIST i) 16 16 d] []) ∧
  (∀ n a b r, ConfiguresOnly (fun p => .listRange p n a b r) .ctrl
    ([chg (SLC_L_LIST n) 0 12 a, chg (SLC_L_LIST n) 16 12 b] ++ chgN (SLC_L_REPEAT n) 0 16 r) [])

/-- The SLIP, PROT, FERRY, EMICA, PIN and YARD lines that set fields (R118, R119, R128, R129, R417 to R431,
R476 to R478, R494, R497, R512 to R526, R555, R569 to R572). The low three bits of FRY_BAR2_BASE are written as zero
(R497). -/
def Obligations.OutputHostLinesSetTheirFields : Prop :=
  (∀ k mode, Configures (fun p => .slipMode p k mode) .ctrl (fun _ => [chg (SLP_P_CFG k) 0 2 (portCode mode)])
    [SLP_P_STAT k, SLP_P_LATE k]) ∧
  (∀ d cpol ldac cyc, ConfiguresOnly (fun p => .slipBus p d cpol ldac cyc) .ctrl
    ([chg SLP_CFG 0 8 d, chg SLP_CFG 8 1 (b2n cpol), chg SLP_CFG 9 2 (ldacCode ldac)] ++ chgN SLP_CFG 16 10 cyc) []) ∧
  (∀ k len vb vp pf sg ld, ConfiguresOnly (fun p => .slipFrame p k len vb vp pf sg ld) .ctrl
    ([chg (SLP_P_FMT k) 0 24 pf, chg (SLP_P_CFG k) 8 5 len, chg (SLP_P_CFG k) 16 5 vb, chg (SLP_P_CFG k) 21 5 vp] ++
      chgB (SLP_P_CFG k) 26 sg ++ chgB (SLP_P_CFG k) 27 ld) []) ∧
  (∀ k per ph hs bm dt, Configures (fun p => .slipPwm p k per ph hs bm dt) .ctrl
    (fun _ => [chg (SLP_P_PWM k) 0 12 per, chg (SLP_P_PWM k) 16 12 ph, chg (SLP_P_PWM2 k) 4 3 hs] ++
      chgN (SLP_P_PWM2 k) 0 2 (bm.map bmodeCode) ++ chgN (SLP_P_PWM2 k) 8 10 (dt.map (·.1)) ++
      chgN (SLP_P_PWM2 k) 20 10 (dt.map (·.2))) [SLP_P_STAT k, SLP_P_LATE k]) ∧
  (∀ k v, ConfiguresOnly (fun p => .slipSafe p k v) .ctrl [chgI (SLP_P_SAFE k) 0 20 v] []) ∧
  (∀ k v, Configures (fun p => .slipValue p k v) .ctrl (fun _ => [chgI (SLP_P_VALUE k) 0 20 v]) []) ∧
  (∀ n v i, ConfiguresOnly (fun p => .protChan p n v i) .ctrl [chg (PRT_L_CFG n) 0 3 v, chg (PRT_L_CFG n) 4 3 i] []) ∧
  (∀ n k v, ConfiguresOnly (fun p => .protLimit p n k v) .ctrl (match v with
    | some v => [limitChg n v k, chg (PRT_L_CFG n) (limitBit k) 1 1]
    | none => [chg (PRT_L_CFG n) (limitBit k) 1 0]) []) ∧
  (∀ n k, ConfiguresOnly (fun p => .protPersist p n k) .ctrl [chg (PRT_L_CFG n) 16 8 k] []) ∧
  (∀ n k, ConfiguresOnly (fun p => .protUvdly p n k) .ctrl [chg (PRT_L_UVDLY n) 0 16 k] []) ∧
  (∀ n on, ConfiguresOnly (fun p => .protOvrt p n on) .ctrl [chg (PRT_L_CFG n) 13 1 (b2n on)] []) ∧
  (∀ n, ConfiguresOnly (fun p => .protFastOff p n) .ctrl [chg (PRT_FAST n) 16 8 0] []) ∧
  (∀ j m, ConfiguresOnly (fun p => .protTripout p j m) .ctrl [chg (PRT_TRIPOUT j) 0 8 m] []) ∧
  (∀ r ty z g, ConfiguresOnly (fun p => .ferryRing p r ty z g) .host
    ([chg (FRY_R_CFG r) 0 3 (ringCode ty), chg (FRY_R_CFG r) 4 4 z] ++ chgN (FRY_R_CFG r) 8 8 g) []) ∧
  (∀ r d c, ConfiguresOnly (fun p => .ferryBase p r d c) .host
    (addrChgs (FRY_R_DBASE_LO r) (FRY_R_DBASE_HI r) d ++ addrChgs (FRY_R_CBASE_LO r) (FRY_R_CBASE_HI r) c) []) ∧
  (∀ r e h, ConfiguresOnly (fun p => .ferryMod p r e h) .host [chg (FRY_R_CFG r) 16 8 e, chg (FRY_R_CFG r) 24 8 h] []) ∧
  (∀ a, ConfiguresOnly (fun p => .ferryAbrec p a) .host (addrChgs FRY_ABREC_LO FRY_ABREC_HI a) []) ∧
  (∀ ch on, ConfiguresOnly (fun p => .emicaShare p ch on) .emica [chg EMC_CFG 9 3 ch, chg EMC_CFG 8 1 (b2n on)] []) ∧
  (∀ ks c, ConfiguresOnly (fun p => .emicaGain p ks c) .emica [chg EMC_SHARE 0 9 ks, chg EMC_SHARE 16 15 c] []) ∧
  (∀ on, ConfiguresOnly (fun p => .emicaMoor p on) .emica [chg EMC_CFG 12 1 (b2n on)] []) ∧
  (∀ on, ConfiguresOnly (fun p => .emicaCalrx p on) .emica [chg EMC_CFG 13 1 (b2n on)] []) ∧
  (∀ m, ConfiguresOnly (fun p => .emicaEarm p m) .emica [chg EMC_EARM 0 8 m] []) ∧
  (∀ v, ConfiguresOnly (fun p => .emicaCal p v) .emica [chgI EMC_CAL 0 32 v]
    [EMC_RIGOFS_Q0, EMC_RIGOFS_Q0 + 4, EMC_RIGOFS_Q0 + 8]) ∧
  (∀ n f ix pk, Configures (fun p => .pinFunc p n f ix pk) .aon
    (fun _ => [chg (PMX_PIN n) 0 4 f, chg (PMX_PIN n) 4 5 ix] ++ chgN (PMX_PIN n) 12 2 pk) []) ∧
  (∀ n on, Configures (fun p => .pinInv p n on) .aon (fun _ => [chg (PMX_PIN n) 16 1 (b2n on)]) []) ∧
  (∀ n hi, ConfiguresOnly (fun p => .pinGpo p n hi) .aon [chg PMX_GPO n 1 hi] []) ∧
  (∀ k src task tgt e, ConfiguresOnly (fun p => .yardRoute p k src task tgt e) .aon
    [chg (YRD_ROUTE k) 0 1 1, chg (YRD_ROUTE k) 2 2 (edgeCode e), chg (YRD_ROUTE k) 4 7 src, chg (YRD_ROUTE k) 12 3 task,
      chg (YRD_ROUTE k) 16 16 tgt] []) ∧
  (∀ k, ConfiguresOnly (fun p => .yardOff p k) .aon [chg (YRD_ROUTE k) 0 1 0] []) ∧
  (∀ j src, ConfiguresOnly (fun p => .yardBell p j src) .aon [chg (YRD_BELL_SEL j) 0 7 src] []) ∧
  (∀ src on, ConfiguresOnly (fun p => .yardLogmask p src on) .aon [chg (YRD_LOG_MASK (src / 32)) (src % 32) 1 (b2n on)] [])

/-! ### Lines that act on SYS, TIME, REG, CLK and PWR -/

/-- SYS:GUARD, SYS:UART, SYS:RESET and ABORT (R46, R72, R73, R100, R182, R561): a guard that is not STATE_EPOCH refuses its
line; a bit rate waits for its own response and RTS is set where it is named; SYS:RESET resets the unit as a source of
its own, without an answer; ABORT is taken. -/
def Obligations.GuardUartResetAbortActAsNamed : Prop :=
  (∀ e, CommitsTo (fun p => .sysGuard p e) (fun s => s.regN SYS_EPOCH = e) id) ∧
  (∀ e, Errs (fun p => .sysGuard p e) (fun s => s.regN SYS_EPOCH ≠ e) 203 0) ∧
  (∀ baud rts p s, Takes s p → argsBad (.sysUart p baud rts) = none → s.dom .aon ≠ 3 → s.cmd.newDiv = none → ∃ u,
    Gives s (.sysUart p baud rts) (u.okLine p) ∧ u.regN CMD_UART_DIV = (roundDiv 25600000000 baud).toNat ∧
    u.cmd.newDiv = none ∧
    u.cmd.rates = s.cmd.rates ++ [⟨(roundDiv 25600000000 baud).toNat, p, (s.port p).queue.length + 1, 0⟩] ∧
    u.cmd.uartDiv = s.cmd.uartDiv ∧ u.bit (CMD_PCFG 0) 1 = rts.getD (s.bit (CMD_PCFG 0) 1) ∧
    s.KeepsRegs u [CMD_UART_DIV, CMD_PCFG 0]) ∧
  (∀ p s, Takes s p → ∃ u, Gives s (.sysReset p) u ∧ u.pwr.held = true ∧ u.pwr.causes = 8 ∧
    (∀ off, off ≠ PWR_RST_CAUSE → u.reg off = resetValue off) ∧ (u.port p).queue = []) ∧
  (∀ p s, s.live = true → s.portUp p = true → ∃ u, Gives s (.abort p) u ∧ (u.port p).queue = [] ∧ (u.port p).chars = [] ∧
    u.cmd.abort.isSome = true)

/-- The TIME lines that act, and REG (R53 to R57, R61, R63, R104, R560, R561): a set is staged and skips a roll-over that is within
1 µs, a cancel withdraws it, an adjustment joins the slew remainder (but for one on the edge of a committing set), and the
discipline starts or stops with its count and last edge cleared. REG puts a value into the writable fields where the PCIe
write would be taken, and notes the register as set; a register that is not assigned or a place of the BEL window refuses
with ER 203, a DRAINING domain with ER 202. (Of REG, for the registers whose change does nothing beside their fields and
that take every value as written; SYS_GUARD, PWR_TARGET, TRL_APPLY and SLC_L_LISTCMD act.) -/
def Obligations.TimeAndRegLinesAct : Prop :=
  ((∀ sec ns, Commits (fun p => .timeSet p sec ns) (fun _ => True) fun s u =>
       u.bit TIM_STAT 0 = true ∧ u.tod.setSec = BitVec.ofNat 48 sec ∧ u.tod.setNs = ns ∧
       u.tod.setSkip = (if 999999000 ≤ s.tod.ns then 1 else 0) ∧ u.tod.sec = s.tod.sec ∧ u.tod.ns = s.tod.ns ∧
       u.regN TIM_SET_SEC_LO = sec % 2 ^ 32 ∧ u.regN TIM_SET_SEC_HI = sec / 2 ^ 32 ∧ u.regN TIM_SET_NS = ns ∧
       s.KeepsRegs u [TIM_STAT, TIM_SET_SEC_LO, TIM_SET_SEC_HI, TIM_SET_NS]) ∧
     Commits (fun p => .timeCancel p) (fun _ => True) (fun s u =>
       u.bit TIM_STAT 0 = false ∧ u.tod = s.tod ∧ s.KeepsRegs u [TIM_STAT]) ∧
     (∀ t, Commits (fun p => .timeAdj p t) (fun s => s.tod.setAt ≠ some s.tide.tb) fun s u =>
       u.tod.slew = clampInt (-2147483647) 2147483647 (s.tod.slew + t) ∧ u.tod.ns = s.tod.ns ∧ u.regs = s.regs) ∧
     (∀ t, CommitsTo (fun p => .timeAdj p t) (fun s => s.tod.setAt = some s.tide.tb) id) ∧
     (∀ on fall, Commits (fun p => .timePps p on fall) (fun _ => True) fun s u =>
       u.bit TIM_PPS_CTRL 0 = on ∧ u.bit TIM_PPS_CTRL 1 = fall.getD (s.bit TIM_PPS_CTRL 1) ∧
       (s.bit TIM_PPS_CTRL 0 ≠ on → u.tod.ppsLast = none ∧ u.tod.ppsFrom = s.tide.tb ∧ u.tod.ppsSlews = 0) ∧
       (s.bit TIM_PPS_CTRL 0 = on → u.tod = s.tod) ∧ s.KeepsRegs u [TIM_PPS_CTRL]) ∧
     (∀ t step, Commits (fun p => .timePpslim p t step) (fun _ => True) fun s u =>
       u.fld TIM_PPS_CTRL 8 16 = t ∧ u.bit TIM_PPS_CTRL 2 = step.getD (s.bit TIM_PPS_CTRL 2) ∧ u.tod = s.tod ∧
       s.KeepsRegs u [TIM_PPS_CTRL])) ∧
  ((∀ off v, regRow off = none → Errs (fun p => .reg p off v) (fun _ => True) 203 0) ∧
     (∀ off v, 0x22000 ≤ off → off < 0x24000 → Errs (fun p => .reg p off v) (fun _ => True) 203 0) ∧
     (∀ off v r, regRow off = some r → r.ta ≠ 0 → (off < 0x22000 ∨ 0x24000 ≤ off) → off ≠ SYS_GUARD →
       Errs (fun p => .reg p off v) (fun s => s.dom (regDom off) = 3) 202 0 ∧
       (off ≠ PWR_TARGET → off ≠ TRL_APPLY → off ≠ CLK_LHA_FCW_HI →
         (∀ n < 8, off ≠ SLC_L_LISTCMD n) → (∀ w, regCoerce off w = w) →
         (∀ s t : State, ∀ c : Chg, c.off = off → s.effect t c = t) →
         Commits (fun p => .reg p off v)
           (fun s => s.dom (regDom off) ≠ 3 ∧ s.Allows [⟨off, taMask off, v, (s.holding off).toNat⟩]) fun s u =>
           u.regN off &&& r.ta = v &&& r.ta ∧ off ∈ u.ust.touched ∧ s.KeepsRegs u [off])))

/-- The CLK lines that act, and PWR:ON and PWR:OFF (R113, R149, R158, R172, R173, R175, R176, R178, R180, R562): a new FCW is in
force at once, with its low part, and Lighthouse-A, where it is on, acquires again with RETUNE set; one equal to the FCW in force
does nothing more; RESUME is noted while LOCKED, for a later tide edge, and refused otherwise. A power request for the state a
domain has or is coming to does nothing; an ON request is refused while the domain drains, while a domain it needs is OFF
or drains, and begins STARTING otherwise; an OFF request is refused while the domain starts, while a domain that needs it
is not OFF and while its own blocks are in use (`offCheck`), and begins DRAINING otherwise; one for HOST that came by the mailbox
has no port left to answer at, and is counted among what HOST discards. -/
def Obligations.ClkAndPowerLinesAct : Prop :=
  ((∀ v, Refuses (fun p => .clkAclk p v) .lha (fun _ => [fcwChg v]) ∧ Refuses (fun p => .clkFcw p v) .lha (fun _ => [fcwChg v])) ∧
     (∀ v, CommitsTo (fun p => .clkAclk p v) (fun s => s.dom .lha ≠ 3 ∧ s.Allows [fcwChg v])
         (fun s => ((s.putAll [fcwChg v]).fcwEffect s.fcw).touch CLK_LHA_FCW_HI) ∧
       CommitsTo (fun p => .clkFcw p v) (fun s => s.dom .lha ≠ 3 ∧ s.Allows [fcwChg v])
         (fun s => ((s.putAll [fcwChg v]).fcwEffect s.fcw).touch CLK_LHA_FCW_HI)) ∧
     (∀ v (s t u : State), 0x200000000000 ≤ v → v ≤ 0x500000000000 → t = s.putAll [fcwChg v] → u = t.fcwEffect s.fcw →
       t.fcw = v ∧ s.RegsOnly t ∧ s.KeepsRegs t [CLK_LHA_FCW_HI, CLK_LHA_FCW_NOW_LO] ∧
       (v = s.fcw → u = t) ∧
       (v ≠ s.fcw → u.fcw = v ∧ u.clk.fcwNow = true ∧ (s.dom .lha ≠ 2 → u.regs = t.regs) ∧
         (s.dom .lha = 2 → u.lha = 1 ∧ u.bit CLK_LHA_STAT 3 = true ∧ u.clk.lha = SynthSt.reset))) ∧
     (∀ h, NeedsOn (fun p => .clkResume p h) (synthDom h) ∧
       Errs (fun p => .clkResume p h) (fun s => s.dom (synthDom h) = 2 ∧ s.synthState h ≠ 2) 203 0 ∧
       Commits (fun p => .clkResume p h) (fun s => s.dom (synthDom h) = 2 ∧ s.synthState h = 2)
         (fun s u => (u.synth h).resume = true ∧ (u.synth h).resumeAt = s.tide.tb ∧ u.regs = s.regs ∧
           (s.bit (synthCfg h) 24 = false → u.resumeDue h = false)))) ∧
  ((∀ d, CommitsTo (fun p => .pwrOn p d) (fun s => s.dom d = 1 ∨ s.dom d = 2) (·.touch PWR_TARGET) ∧
       Errs (fun p => .pwrOn p d) (fun s => s.dom d = 3) 202 0 ∧
       Errs (fun p => .pwrOn p d) (fun s => s.dom d = 0 ∧ ∃ e ∈ domNeeds d, s.dom e = 0) 201 0 ∧
       Errs (fun p => .pwrOn p d) (fun s => s.dom d = 0 ∧ (∀ e ∈ domNeeds d, s.dom e ≠ 0) ∧ ∃ e ∈ domNeeds d, s.dom e = 3) 202 0 ∧
       Commits (fun p => .pwrOn p d) (fun s => s.dom d = 0 ∧ ∀ e ∈ domNeeds d, s.dom e = 1 ∨ s.dom e = 2) fun s u =>
         u.dom d = 1 ∧ (∀ e, e ≠ d → u.dom e = s.dom e) ∧ s.KeepsRegs u [PWR_STATE] ∧
         vget u.pwr.since (domNum d) = s.tide.tb) ∧
     (∀ d, CommitsTo (fun p => .pwrOff p d) (fun s => s.dom d = 0 ∨ s.dom d = 3) (·.touch PWR_TARGET) ∧
       Errs (fun p => .pwrOff p d) (fun s => s.dom d = 1) 203 0 ∧
       Errs (fun p => .pwrOff p d) (fun s => s.dom d = 2 ∧ ∃ e ∈ dependants d, s.dom e ≠ 0) 203 0 ∧
       ∀ p s, d ≠ .aon → Takes s p → s.dom d = 2 → s.offCheck d = .ok () →
         ∃ t, t.dom d = 3 ∧ (∀ e, e ≠ d → t.dom e = s.dom e) ∧ s.KeepsRegs t [PWR_STATE] ∧
           vget t.pwr.since (domNum d) = s.tide.tb ∧
           (d ≠ .host ∨ p ≠ 2 → Gives s (.pwrOff p d) (((t.drainStops d).touch PWR_TARGET).okLine p)) ∧
           (d = .host → p = 2 →
             Gives s (.pwrOff p d) ((((t.drainStops d).touch PWR_TARGET).bumpEpoch).discard .host 1))))

/-! ### Lines that act on BERTH, TRIG, ACQ, ARM, STREAM, WHOUSE, DOCK and TALLY -/

/-- BERTH:ROUTE, BERTH:MAP and BERTH:BGCLEAR (R198, R200, R208, R209, R563): BRT_ROUTE takes the map, the channels whose
Berths change stop, restart their matching and reset their detectors, and the map is refused as its checks say; BGCLEAR
waits for the next update. -/
def Obligations.BerthLinesRouteAndClear : Prop :=
  (∀ v, Refuses (fun p => .berthMap p v) .aon (fun _ => [chg BRT_ROUTE 0 32 v])) ∧
  (∀ v p s, Takes s p → v < 2 ^ 32 → s.dom .aon ≠ 3 → s.Allows [chg BRT_ROUTE 0 32 v] →
    ∃ t, t.regN BRT_ROUTE = v ∧ s.KeepsRegs t [BRT_ROUTE] ∧ s.RegsOnly t ∧
      Gives s (.berthMap p v) (((s.routeEffect t).touch BRT_ROUTE).okLine p) ∧
      ∀ n m, n < 8 → m < 256 → v = routeWith s.route n m →
        Gives s (.berthRoute p n m) (((s.routeEffect t).touch BRT_ROUTE).okLine p)) ∧
  Commits (fun p => .berthBgclear p) (fun _ => True) (fun s u => u.brt.bgClear = true ∧ u.regs = s.regs)

/-- TRIG (R89, R228, R238, R247, R564): each running engine among the groups named takes a SOFT event stamped with the tide edge
at which the line commits; a group that is not armed or streaming refuses the line. -/
def Obligations.TrigLinesFireTheirEngines : Prop :=
  (∀ gs, NeedsOn (fun p => .trig p gs) .acq) ∧
  Errs (fun p => .trig p .all) (fun s => s.dom .acq = 2 ∧ ∀ g < 8, s.grpBusy g = false) 203 0 ∧
  (∀ l, Errs (fun p => .trig p (.list l)) (fun s => s.dom .acq = 2 ∧ ∃ g ∈ l, s.grpBusy g = false) 203 0) ∧
  (∀ l, Commits (fun p => .trig p (.list l)) (fun s => s.dom .acq = 2 ∧ ∀ g ∈ l, s.grpBusy g = true) fun s u =>
    u.regs = s.regs ∧ ∀ g < 8, (u.eng g).queue = (s.eng g).queue ++
      (if g ∈ l ∧ s.engRuns g = true then [⟨25, stampOf s.tideTb, none, false, false⟩] else [])) ∧
  Commits (fun p => .trig p .all) (fun s => s.dom .acq = 2 ∧ ∃ g < 8, s.grpBusy g = true) (fun s u =>
    u.regs = s.regs ∧ ∀ g < 8, (u.eng g).queue = (s.eng g).queue ++
      (if s.engRuns g = true then [⟨25, stampOf s.tideTb, none, false, false⟩] else []))

/-- ARM, ACQ:DISARM, STREAM:START and STREAM:STOP (R264 to R267, R273, R275, R286, R288, R565): a group that passes the checks of
R266 is ARMED_FILLING with its counts at zero, several are armed in the order named and all or none; a disarm ends a group
without open segments at once with END DISARM, holds one that still writes in CLOSING, and waits for the segment of one
that captures; a stream starts at the first sample at or after 20 ns from the edge, with a START mark; a stop ends it at
the last sample taken, in CLOSING. -/
def Obligations.GroupLinesArmDisarmStartAndStop : Prop :=
  ((∀ gs, NeedsOn (fun p => .arm p gs) .acq) ∧
     (∀ g e, ∀ p s, Takes s p → g < 8 → s.dom .acq = 2 → s.armCheck g = .error e →
       Gives s (.arm p (.list [g])) ((s.noteRefusal e).fail p (errCode e) (errArg e))) ∧
     (∀ g, Commits (fun p => .arm p (.list [g])) (fun s => s.dom .acq = 2 ∧ s.armCheck g = .ok ()) fun s u =>
       u.grpState g = 1 ∧ u.regN (ACQ_G_SEGS g) = 0 ∧ u.regN (ACQ_G_NEXTREC g) = 0 ∧
       (u.grp g).a0 = s.sampleAfter ((s.chans g).headD 0) (s.now.toNat + twentyNs) ∧
       (u.grp g).r = (u.grp g).a0 + s.pre g ∧ ∀ h < 8, h ≠ g → u.grpState h = s.grpState h) ∧
     (∀ gs p s t ns, Takes s p → argsBad (.arm p gs) = none → s.dom .acq = 2 →
       selObjs ((List.range 8).filter fun g => s.grpState g == 0 && !s.bit (ACQ_G_CFG g) 0) gs = .ok ns →
       eachU State.armU ns s = .ok t → Gives s (.arm p gs) (t.okLine p)) ∧
     (∀ g, NeedsOn (fun p => .acqDisarm p g) .acq ∧
       Errs (fun p => .acqDisarm p g) (fun s => s.dom .acq = 2 ∧ (s.grpState g = 0 ∨ 4 ≤ s.grpState g)) 203 0 ∧
       Commits (fun p => .acqDisarm p g) (fun s => s.dom .acq = 2 ∧ s.grpState g = 3)
         (fun s u => u.regs = s.regs ∧ (u.grp g).disarm = true) ∧
       Commits (fun p => .acqDisarm p g)
         (fun s => s.dom .acq = 2 ∧ 1 ≤ s.grpState g ∧ s.grpState g ≤ 2 ∧ (s.grp g).await = [])
         (fun s u => u.grpState g = 0 ∧ u.fld (ACQ_G_STAT g) 4 3 = 3 ∧ u.bit ACQ_EVT (8 + g) = true ∧
           u.yard.raised = s.yard.raised ++ [5]) ∧
       Commits (fun p => .acqDisarm p g)
         (fun s => s.dom .acq = 2 ∧ 1 ≤ s.grpState g ∧ s.grpState g ≤ 2 ∧ (s.grp g).await ≠ [])
         (fun s u => u.grpState g = 5 ∧ (u.grp g).close = 3 ∧ s.KeepsRegs u [ACQ_G_STAT g, ACQ_STAT]))) ∧
  ((∀ g p s e, Takes s p → g < 8 → s.startCheck g = .error e →
       Gives s (.streamStart p g) ((s.noteRefusal e).fail p (errCode e) (errArg e))) ∧
     (∀ g p s, Takes s p → g < 8 → s.startCheck g = .ok () → ∃ t a0,
       a0 = s.sampleAfter ((s.chans g).headD 0) (s.now.toNat + twentyNs) ∧ t.grpState g = 4 ∧ (t.grp g).a0 = a0 ∧
       s.KeepsRegs t [ACQ_G_STAT g, ACQ_STAT] ∧ Gives s (.streamStart p g) ((t.endMark g 0 a0 0 0).okLine p)) ∧
     (∀ g, NeedsOn (fun p => .streamStop p g) .acq ∧
       Errs (fun p => .streamStop p g) (fun s => s.dom .acq = 2 ∧ s.grpState g ≠ 4) 203 0 ∧
       Commits (fun p => .streamStop p g) (fun s => s.dom .acq = 2 ∧ s.grpState g = 4) fun s u =>
         u.grpState g = 5 ∧ (u.grp g).close = 4 ∧ (u.grp g).stopAt.isSome = true ∧ s.KeepsRegs u [ACQ_G_STAT g, ACQ_STAT]))

/-- WHOUSE:START, STOP and FLUSH (R306, R308, R312, R315, R325, R565): an accumulation that passes its checks runs from the
edge, cleared where CLEAR is named; a stop ends a running one with END STOP; a flush of a running histogram is due. -/
def Obligations.WarehouseLinesStartStopFlush : Prop :=
  (∀ o clear p s e, Takes s p → o.ok = true →
    s.checkAll (s.putAll [chg (whsCtrl o) 0 2 (1 + 2 * b2n clear)]) [chg (whsCtrl o) 0 2 (1 + 2 * b2n clear)] = .error e →
    Gives s (.whouseStart p o clear) ((s.noteRefusal e).fail p (errCode e) (errArg e))) ∧
  (∀ h clear, Commits (fun p => .whouseStart p (.hist h) clear) (fun s => s.Allows [chg (WHS_H_CTRL h) 0 2 (1 + 2 * b2n clear)])
    fun s u => u.bit (WHS_H_STAT h) 0 = true ∧ u.bit (WHS_H_STAT h) 1 = clear ∧ u.fld (WHS_H_STAT h) 4 3 = 0 ∧
      (vget u.hists h).start = some s.now ∧ (clear = true → (vget u.hists h).part = []) ∧
      s.KeepsRegs u [WHS_H_CTRL h, WHS_H_STAT h]) ∧
  (∀ m clear, Commits (fun p => .whouseStart p (.map m) clear) (fun s => s.Allows [chg (WHS_M_CTRL m) 0 2 (1 + 2 * b2n clear)])
    fun s u => u.bit (WHS_M_STAT m) 0 = true ∧ u.bit (WHS_M_STAT m) 1 = clear ∧ u.fld (WHS_M_STAT m) 4 3 = 0 ∧
      (vget u.maps m).taking = true ∧ u.regN (WHS_M_TAKEN m) = 0 ∧
      s.KeepsRegs u [WHS_M_CTRL m, WHS_M_STAT m, WHS_M_TAKEN m]) ∧
  (∀ o, NeedsOn (fun p => .whouseStop p o) .acq ∧
    Errs (fun p => .whouseStop p o) (fun s => s.dom .acq = 2 ∧ s.whsRuns o = false) 203 0 ∧
    CommitsTo (fun p => .whouseStop p o) (fun s => s.dom .acq = 2 ∧ s.whsRuns o = true) (·.made [chg (whsCtrl o) 0 1 0])) ∧
  (∀ h, Commits (fun p => .whouseStop p (.hist h)) (fun s => s.dom .acq = 2 ∧ s.whsRuns (.hist h) = true) fun s u =>
    u.bit (WHS_H_STAT h) 0 = false ∧ u.fld (WHS_H_STAT h) 4 3 = 1 ∧ u.bit (WHS_H_CTRL h) 0 = false ∧
    (vget u.hists h).stop = some s.now ∧ s.KeepsRegs u [WHS_H_CTRL h, WHS_H_STAT h]) ∧
  (∀ h, NeedsOn (fun p => .whouseFlush p h) .acq ∧
    Errs (fun p => .whouseFlush p h) (fun s => s.dom .acq = 2 ∧ s.bit (WHS_H_STAT h) 0 = false) 203 0 ∧
    Commits (fun p => .whouseFlush p h) (fun s => s.dom .acq = 2 ∧ s.bit (WHS_H_STAT h) 0 = true) fun s u =>
      u.bit (WHS_H_STAT h) 2 = true ∧ (vget u.hists h).flushReq = true ∧ s.KeepsRegs u [WHS_H_STAT h])

/-- DOCK:TRAIN, TALLY:START, STOP and CAL (R330, R357, R363, R368, R379, R566, R567), with the order of their refusals: domain,
clock, state, and a lane under calibration; a start on the edge on which the lane has been stopped leaves it IDLE. -/
def Obligations.DockTallyLinesTrainStartStopCalibrate : Prop :=
  (∀ n, NeedsOn (fun p => .dockTrain p n) .dock ∧
    Errs (fun p => .dockTrain p n) (fun s => s.dom .dock = 2 ∧ s.lhs ≠ 3) 401 0 ∧
    Errs (fun p => .dockTrain p n) (fun s => s.dom .dock = 2 ∧ s.lhs = 3 ∧
      (s.bit (DCK_CH_CFG n) 0 = false ∨ s.dckState n = 2)) 203 0 ∧
    Errs (fun p => .dockTrain p n) (fun s => s.dom .dock = 2 ∧ s.lhs = 3 ∧ s.bit (DCK_CH_CFG n) 0 = true ∧ s.dckState n ≠ 2 ∧
      s.timingOk n = false) 105 0 ∧
    Commits (fun p => .dockTrain p n) (fun s => s.dom .dock = 2 ∧ s.lhs = 3 ∧ s.bit (DCK_CH_CFG n) 0 = true ∧
      s.dckState n ≠ 2 ∧ s.timingOk n = true) fun s u =>
      u.dckState n = 2 ∧ u.fld (DCK_CH_TSTAT n) 4 3 = 1 ∧ u.regN (DCK_CH_SIZE n) = 0 ∧ u.bit DCK_STAT n = false ∧
      s.KeepsRegs u [DCK_CH_TSTAT n, DCK_STAT, DCK_CH_SIZE n]) ∧
  (∀ l, NeedsOn (fun p => .tallyStart p l) .tally ∧
    Errs (fun p => .tallyStart p l) (fun s => s.dom .tally = 2 ∧ s.lhs ≠ 3) 401 0 ∧
    Errs (fun p => .tallyStart p l) (fun s => s.dom .tally = 2 ∧ s.lhs = 3 ∧
      (s.tlyState l ≠ 0 ∨ s.tlyPairs l = true ∧ s.tlyState (s.tlyPartner l) ≠ 0)) 203 0 ∧
    Errs (fun p => .tallyStart p l) (fun s => s.dom .tally = 2 ∧ s.lhs = 3 ∧ s.tlyState l = 0 ∧
      (s.tlyPairs l = true → s.tlyState (s.tlyPartner l) = 0) ∧
      (s.calBusy l = true ∨ s.tlyPairs l = true ∧ s.calBusy (s.tlyPartner l) = true)) 303 0 ∧
    CommitsTo (fun p => .tallyStart p l) (fun s => s.tlyStartCheck l = .ok () ∧ s.edge.stops.getLsbD l = true) id ∧
    Commits (fun p => .tallyStart p l) (fun s => s.tlyStartCheck l = .ok () ∧ s.edge.stops.getLsbD l = false) fun s u =>
      ((s.tlyPairs l = false ∨ s.tlyPartner l ≠ l) → u.tlyState l = 1) ∧
      (s.tlyPairs l = true → u.tlyState (s.tlyPartner l) = 2) ∧
      s.KeepsRegs u [TLY_L_STAT l, TLY_L_STAT (s.tlyPartner l), TLY_STAT]) ∧
  (∀ l, NeedsOn (fun p => .tallyStop p l) .tally ∧
    Errs (fun p => .tallyStop p l) (fun s => s.dom .tally = 2 ∧ s.tlyState l ≠ 1) 203 0 ∧
    Commits (fun p => .tallyStop p l) (fun s => s.dom .tally = 2 ∧ s.tlyState l = 1) fun s u =>
      u.tlyState l = 0 ∧ u.fld (TLY_L_STAT l) 4 3 = 1 ∧ u.edge.stops.getLsbD l = true ∧
      s.KeepsRegs u [TLY_STAT, TLY_L_STAT 0, TLY_L_STAT 1, TLY_L_STAT 2, TLY_L_STAT 3]) ∧
  (∀ m, NeedsOn (fun p => .tallyCal p m) .tally ∧
    Errs (fun p => .tallyCal p m) (fun s => s.dom .tally = 2 ∧ s.lhs ≠ 3) 401 0 ∧
    Errs (fun p => .tallyCal p m) (fun s => s.dom .tally = 2 ∧ s.lhs = 3 ∧
      ∃ l ∈ maskBits 6 (m.getD 0x3F), s.laneInUse l = true) 303 0 ∧
    Commits (fun p => .tallyCal p m) (fun s => s.dom .tally = 2 ∧ s.lhs = 3 ∧
      ∀ l ∈ maskBits 6 (m.getD 0x3F), s.laneInUse l = false) fun s u =>
      (∀ l < 6, u.calBusy l = (s.calBusy l || (m.getD 0x3F).testBit l)) ∧ s.KeepsRegs u [TLY_STAT])

/-! ### Lines that act on SLUICE, LIST, PROT, BELL, FERRY, EMICA, STORE and YARD -/

/-- The SLUICE lines that act (R383, R384, R386, R392, R395, R396, R403, R408, R568): a mode change that passes its checks stands,
and SLC_L_MANOUT alone may follow it; a timing past the end of the tide is an argument out of range; stages, coefficients,
integral gain, dead band and ripple are written into the bank the loop does not use, and nothing else changes; SLUICE:SWAP
exchanges the banks of the loops named, once in a tide. -/
def Obligations.SluiceLinesSetModesTimingsAndBanks : Prop :=
  ((∀ n, NeedsOn (fun p => .sluiceMode p n .off) .ctrl) ∧
     (∀ n mode p s e, Takes s p → n < 8 → (mode = .off → s.dom .ctrl = 2) →
       s.checkAll (s.putAll [chg (SLC_L_MODE n) 0 2 (loopCode mode)]) [chg (SLC_L_MODE n) 0 2 (loopCode mode)] = .error e →
       Gives s (.sluiceMode p n mode) ((s.noteRefusal e).fail p (errCode e) (errArg e))) ∧
     (∀ n mode, Commits (fun p => .sluiceMode p n mode)
       (fun s => (mode = .off → s.dom .ctrl = 2) ∧ s.Allows [chg (SLC_L_MODE n) 0 2 (loopCode mode)]) fun s u =>
       u.fld (SLC_L_MODE n) 0 2 = loopCode mode ∧ s.KeepsRegs u [SLC_L_MODE n, SLC_L_MANOUT n]) ∧
     (∀ n deadline cyc, let cs := [chg (SLC_L_CFG n) 1 1 (b2n deadline), chg (SLC_L_TIME n) (if deadline then 16 else 0) 10 cyc]
       Refuses (fun p => .sluiceTiming p n deadline cyc) .ctrl (fun _ => cs) ∧
       Errs (fun p => .sluiceTiming p n deadline cyc)
         (fun s => s.dom .ctrl ≠ 3 ∧ s.Allows cs ∧ s.fld SYS_TIDE_LEN 0 10 < cyc + 10) 105 3 ∧
       Commits (fun p => .sluiceTiming p n deadline cyc)
         (fun s => s.dom .ctrl ≠ 3 ∧ s.Allows cs ∧ cyc + 10 ≤ s.fld SYS_TIDE_LEN 0 10) fun s u =>
         (∀ x ∈ cs, x.Stands u) ∧ s.KeepsRegs u [SLC_L_CFG n, SLC_L_TIME n] ∧ s.RegsOnly u)) ∧
  ((∀ n k, Commits (fun p => .sluiceStages p n k) (fun s => s.dom .ctrl ≠ 3) fun s u =>
       bits (u.regN (s.spareWord n 0x78)) 20 3 = k ∧
       (∀ lo w, lo + w ≤ 20 ∨ 23 ≤ lo → bits (u.regN (s.spareWord n 0x78)) lo w = bits (s.regN (s.spareWord n 0x78)) lo w) ∧
       s.KeepsRegs u [s.spareWord n 0x78] ∧ s.RegsOnly u) ∧
     (∀ n k e m0 m1 m2 m3 m4, Commits (fun p => .sluiceCoefraw p n k e m0 m1 m2 m3 m4) (fun s => s.dom .ctrl ≠ 3) fun s u =>
       u.regN (s.spareWord n (20 * k)) = ofSigned 20 m0 + ofSigned 6 e * 2 ^ 24 ∧
       u.regN (s.spareWord n (20 * k + 4)) = ofSigned 20 m1 ∧ u.regN (s.spareWord n (20 * k + 8)) = ofSigned 20 m2 ∧
       u.regN (s.spareWord n (20 * k + 12)) = ofSigned 20 m3 ∧ u.regN (s.spareWord n (20 * k + 16)) = ofSigned 20 m4 ∧
       s.KeepsRegs u ((List.range 5).map fun j => s.spareWord n (20 * k + 4 * j)) ∧ s.RegsOnly u) ∧
     (∀ n k b0 b1 b2 a1 a2 e m0 m1 m2 m3 m4, normalise [b0, b1, b2] = some (e, [m0, m1, m2]) → normA a1 = some m3 →
       normA a2 = some m4 → ∀ p s, Takes s p → n < 8 → k < 6 → s.dom .ctrl ≠ 3 → ∃ u,
         Gives s (.sluiceCoef p n k b0 b1 b2 a1 a2) (u.okLine p) ∧
         u.regN (s.spareWord n (20 * k)) = ofSigned 20 m0 + ofSigned 6 e * 2 ^ 24 ∧
         u.regN (s.spareWord n (20 * k + 4)) = ofSigned 20 m1 ∧ u.regN (s.spareWord n (20 * k + 8)) = ofSigned 20 m2 ∧
         u.regN (s.spareWord n (20 * k + 12)) = ofSigned 20 m3 ∧ u.regN (s.spareWord n (20 * k + 16)) = ofSigned 20 m4 ∧
         s.KeepsRegs u ((List.range 5).map fun j => s.spareWord n (20 * k + 4 * j)) ∧ s.RegsOnly u) ∧
     (∀ n ki e m, normalise [ki] = some (e, [m]) → ∀ p s, Takes s p → n < 8 → s.dom .ctrl ≠ 3 → ∃ u,
         Gives s (.sluiceKi p n ki) (u.okLine p) ∧
         u.regN (s.spareWord n 0x78) = ofSigned 20 m + ofSigned 6 e * 2 ^ 24 + bits (s.regN (s.spareWord n 0x78)) 20 3 * 2 ^ 20 ∧
         s.KeepsRegs u [s.spareWord n 0x78] ∧ s.RegsOnly u) ∧
     (∀ n i v, Commits (fun p => .sluiceDband p n i v) (fun s => s.dom .ctrl ≠ 3) fun s u =>
       let at_ := s.spareWord n (0x80 + 4 * (i / 2))
       bits (u.regN at_) (16 * (i % 2)) 16 = ofSigned 16 v ∧
       bits (u.regN at_) (16 * (1 - i % 2)) 16 = bits (s.regN at_) (16 * (1 - i % 2)) 16 ∧ s.KeepsRegs u [at_] ∧ s.RegsOnly u) ∧
     (∀ n i v, Commits (fun p => .sluiceRipple p n i v) (fun s => s.dom .ctrl ≠ 3) fun s u =>
       let at_ := s.spareWord n (0x100 + 4 * (i / 2))
       bits (u.regN at_) (16 * (i % 2)) 16 = ofSigned 16 v ∧
       bits (u.regN at_) (16 * (1 - i % 2)) 16 = bits (s.regN at_) (16 * (1 - i % 2)) 16 ∧ s.KeepsRegs u [at_] ∧ s.RegsOnly u) ∧
     (∀ ns, Commits (fun p => .sluiceSwap p ns) (fun s => s.dom .ctrl ≠ 3) fun s u => u.regs = s.regs ∧ ∀ n < 8,
       (u.loop n).bank = ((s.loop n).bank != (decide (n ∈ ns) && !(s.loop n).swapNow)) ∧
       (u.loop n).swapNow = ((s.loop n).swapNow || decide (n ∈ ns))) ∧
     (∀ ns, Errs (fun p => .sluiceSwap p ns) (fun s => s.dom .ctrl = 3) 202 0) ∧
     (∀ n k, Errs (fun p => .sluiceStages p n k) (fun s => s.dom .ctrl = 3) 202 0))

/-- LIST:RUN, STOP and STEP, and PROT:FAST, MOOR and CLEAR (R406, R430, R434, R442, R568, R569): a run of a loop that is not
tripped starts at FIRST, a stop of a running list holds it, and a step of a running list goes to its next entry; a fast
limit stands, and acts where its comparator is already past it; a moor trips each loop named with cause SOFT; a clear
releases the loops named whose trip no longer stands, but for those a MOOR of the same edge trips, and ER 203 answers a CLEAR ALL with nothing tripped. -/
def Obligations.ListAndProtLinesAct : Prop :=
  ((∀ n, NeedsOn (fun p => .listRun p n) .ctrl ∧
       Errs (fun p => .listRun p n) (fun s => s.dom .ctrl = 2 ∧ s.tripped n = true) 204 0 ∧
       Commits (fun p => .listRun p n) (fun s => s.dom .ctrl = 2 ∧ s.tripped n = false) fun s u =>
         (u.loop n).lst.st = 1 ∧ (u.loop n).lst.passes = 0 ∧ (u.loop n).lst.idx = s.fld (SLC_L_LIST n) 0 12 ∧
         (u.loop n).lst.sp = s.sfld (SLC_LIST (s.fld (SLC_L_LIST n) 0 12)) 0 16 ∧
         (u.loop n).lst.left = s.fld (SLC_LIST (s.fld (SLC_L_LIST n) 0 12)) 16 16 ∧ u.regs = s.regs) ∧
     (∀ n, NeedsOn (fun p => .listStop p n) .ctrl ∧
       Errs (fun p => .listStop p n) (fun s => s.dom .ctrl = 2 ∧ (s.loop n).lst.st ≠ 1) 203 0 ∧
       Commits (fun p => .listStop p n) (fun s => s.dom .ctrl = 2 ∧ (s.loop n).lst.st = 1) fun s u =>
         (u.loop n).lst.st = 2 ∧ (u.loop n).lst.idx = (s.loop n).lst.idx ∧ u.regs = s.regs) ∧
     (∀ n, NeedsOn (fun p => .listStep p n) .ctrl ∧
       Errs (fun p => .listStep p n) (fun s => s.dom .ctrl = 2 ∧ (s.loop n).lst.st ≠ 1) 203 0 ∧
       Commits (fun p => .listStep p n)
         (fun s => s.dom .ctrl = 2 ∧ (s.loop n).lst.st = 1 ∧ (s.loop n).lst.idx < s.fld (SLC_L_LIST n) 16 12) fun s u =>
         (u.loop n).lst.idx = (s.loop n).lst.idx + 1 ∧ (u.loop n).lst.st = 1 ∧ (u.loop n).lst.step = false ∧
         (u.loop n).lst.sp = s.sfld (SLC_LIST ((s.loop n).lst.idx + 1)) 0 16 ∧ u.regs = s.regs)) ∧
  ((∀ n th below m, Refuses (fun p => .protFast p n th below m) .ctrl
       (fun _ => [chg (PRT_FAST n) 0 13 (th + 4096 * b2n below), chg (PRT_FAST n) 16 8 m])) ∧
     (∀ n th below m, Commits (fun p => .protFast p n th below m)
       (fun s => s.dom .ctrl ≠ 3 ∧ s.Allows [chg (PRT_FAST n) 0 13 (th + 4096 * b2n below), chg (PRT_FAST n) 16 8 m] ∧
         s.fastHigh n = false) fun s u =>
       u.fld (PRT_FAST n) 0 12 = th ∧ u.bit (PRT_FAST n) 12 = below ∧ u.fld (PRT_FAST n) 16 8 = m ∧
         s.KeepsRegs u [PRT_FAST n]) ∧
     (∀ n th below m, CommitsTo (fun p => .protFast p n th below m)
       (fun s => s.dom .ctrl ≠ 3 ∧ s.Allows [chg (PRT_FAST n) 0 13 (th + 4096 * b2n below), chg (PRT_FAST n) 16 8 m])
       (·.made [chg (PRT_FAST n) 0 13 (th + 4096 * b2n below), chg (PRT_FAST n) 16 8 m])) ∧
     (∀ ns, NeedsOn (fun p => .protMoor p ns) .ctrl ∧
       Commits (fun p => .protMoor p ns) (fun s => s.dom .ctrl = 2) fun s u =>
         (∀ n ∈ ns, u.tripped n = true ∧ u.bit (PRT_L_CAUSE n) 11 = true) ∧
         ∀ n < 8, s.tripped n = true → u.tripped n = true) ∧
     (∀ ns, NeedsOn (fun p => .protClear p ns) .ctrl) ∧
     Errs (fun p => .protClear p .all) (fun s => s.dom .ctrl = 2 ∧ ∀ n < 8, s.tripped n = false) 203 0 ∧
     (∀ l, CommitsTo (fun p => .protClear p (.list l)) (fun s => s.dom .ctrl = 2) (·.clearCmd (maskOfSel l))) ∧
     (∀ l, Commits (fun p => .protClear p (.list l)) (fun s => s.dom .ctrl = 2 ∧ s.softNow = 0 ∧ s.yardNow = 0 ∧ s.prt.fast = 0) fun s u =>
       (∀ n ∈ l, u.tripped n = false) ∧ ∀ n < 8, s.tripped n = false → u.tripped n = false))

/-- The BELL lines, YARD:PULSE and the FERRY lines that act (R123, R452, R456, R457, R459, R463, R464, R476, R486, R487, R492,
R493, R497, R570, R572): an enable and a vector stand, a target that is switched off loses its delivery, a completion by
the serving target ends the service and any other is counted, and a pulse is a Yard event of its own; START resets the
books and runs the ring, STOP and RESUME move it, a post adds its slots to TAIL and DEV and takes them from HOST, and BAR2
takes its base in units of eight words. -/
def Obligations.BellYardAndFerryLinesAct : Prop :=
  ((∀ n on, Commits (fun p => .bellEn p n on) (fun _ => True) fun s u =>
       u.belEnabled n = on ∧ (∀ m < 48, m ≠ n → u.belEnabled m = s.belEnabled m) ∧ s.KeepsRegs u [BEL_EN (n / 32)]) ∧
     (∀ n v, Commits (fun p => .bellVec p n v) (fun _ => True) fun s u =>
       u.fld (BEL_VEC (n / 8)) (4 * (n % 8)) 3 = v ∧ s.KeepsRegs u [BEL_VEC (n / 8)]) ∧
     (∀ t n, Commits (fun p => .bellComplete p t n) (fun s => (s.tgt t).serving = some n) fun s u =>
       (u.tgt t).serving = none ∧ u.regs = s.regs ∧ ∀ v < 4, v ≠ t → u.tgt v = s.tgt v) ∧
     (∀ t n, Commits (fun p => .bellComplete p t n) (fun s => (s.tgt t).serving ≠ some n) fun s u =>
       u.fld BEL_BAD_COMPLETE 0 16 = satAdd 65535 (s.fld BEL_BAD_COMPLETE 0 16) 1 ∧ u.bell = s.bell ∧
       s.KeepsRegs u [BEL_BAD_COMPLETE]) ∧
     (∀ t on n tm, let cs := chg (BEL_TGT t) 0 1 (b2n on) :: (chgN (BEL_TGT t) 8 7 n ++ chgN (BEL_TGT t) 16 16 tm)
       Refuses (fun p => .bellTarget p t on n tm) .aon (fun _ => cs) ∧
       Commits (fun p => .bellTarget p t on n tm) (fun s => s.dom .aon ≠ 3 ∧ s.Allows cs) fun s u =>
         (∀ x ∈ cs, x.Stands u) ∧ (∀ off, off ≠ BEL_TGT t → (∀ k, off ≠ MSIX_PBA k) → u.reg off = s.reg off) ∧
         (s.bit (BEL_TGT t) 0 = true → on = false → (u.tgt t).delivered = false ∧ ∀ m ∈ u.bell.msgs, m.tgt ≠ t)) ∧
     (∀ j, Commits (fun p => .yardPulse p j) (fun _ => True) fun s u =>
       u.yard.raised = s.yard.raised ++ [64 + j] ∧ u.regs = s.regs)) ∧
  ((∀ r p s e, Takes s p → r < 8 → s.fryStartCheck r = .error e →
       Gives s (.ferryStart p r) ((s.noteRefusal e).fail p (errCode e) (errArg e))) ∧
     (∀ r, NeedsOn (fun p => .ferryStart p r) .host ∧
       Errs (fun p => .ferryStart p r) (fun s => s.dom .host = 2 ∧ s.lhs ≠ 3) 401 0 ∧
       Commits (fun p => .ferryStart p r) (fun s => s.fryStartCheck r = .ok ()) fun s u =>
         u.ringState r = 1 ∧ u.tail r = 0 ∧ u.dev r = 0 ∧ u.infl r = 0 ∧ u.host r = (s.ringSize r : Int) ∧
         s.KeepsRegs u [FRY_R_PTR r, FRY_R_TAIL r, FRY_R_LDG0 r, FRY_R_LDG1 r, FRY_R_STAT r]) ∧
     (∀ r, NeedsOn (fun p => .ferryStop p r) .host ∧
       Errs (fun p => .ferryStop p r) (fun s => s.dom .host = 2 ∧ (s.ringState r = 0 ∨ s.ringState r = 2)) 203 0 ∧
       Commits (fun p => .ferryStop p r) (fun s => s.fryStopCheck r = .ok ()) fun s u =>
         u.ringState r = 2 ∧ s.KeepsRegs u [FRY_R_STAT r]) ∧
     (∀ r, NeedsOn (fun p => .ferryResume p (some r)) .host ∧
       Errs (fun p => .ferryResume p (some r)) (fun s => s.dom .host = 2 ∧ s.ringState r ≠ 3) 203 0 ∧
       Commits (fun p => .ferryResume p (some r)) (fun s => s.dom .host = 2 ∧ s.ringState r = 3) fun s u =>
         u.ringState r = 1 ∧ s.KeepsRegs u [FRY_R_STAT r, FRY_TAGS, FRY_LINK]) ∧
     Errs (fun p => .ferryResume p none) (fun s => s.dom .host = 2 ∧ ∀ r < 8, s.ringState r ≠ 3) 203 0 ∧
     (∀ p s t, Takes s p → s.dom .host = 2 → (∃ r < 8, s.ringState r = 3) →
       eachU State.ringResumeU ((List.range 8).filter fun r => s.ringState r == 3) s = .ok t →
       Gives s (.ferryResume p none) (t.okLine p)) ∧
     (∀ r n, NeedsOn (fun p => .ferryPost p r n) .host ∧
       Errs (fun p => .ferryPost p r n) (fun s => s.dom .host = 2 ∧ s.ringState r = 0) 203 0 ∧
       Errs (fun p => .ferryPost p r n) (fun s => s.dom .host = 2 ∧ s.ringState r ≠ 0 ∧ s.ringSize r < n) 105 2 ∧
       Commits (fun p => .ferryPost p r n) (fun s => s.dom .host = 2 ∧ s.ringState r ≠ 0 ∧ n ≤ s.ringSize r) fun s u =>
         u.tail r = (s.tail r + n) % s.ringSize r ∧ u.dev r = (s.dev r + n) % 2 ^ 16 ∧
         u.fld (FRY_R_LDG1 r) 0 17 = ofSigned 17 (s.host r - n) ∧ u.ringState r = s.ringState r ∧
         s.KeepsRegs u [FRY_R_TAIL r, FRY_R_LDG0 r, FRY_R_LDG1 r, FRY_TAGS, FRY_LINK]) ∧
     (∀ mem b, let cs := [chg FRY_BAR2_CFG 0 2 (memCode mem), chg FRY_BAR2_BASE 0 32 b]
       Refuses (fun p => .ferryBar2 p mem b) .host (fun _ => cs) ∧
       Commits (fun p => .ferryBar2 p mem b) (fun s => s.dom .host ≠ 3 ∧ s.Allows cs) fun s u =>
         u.fld FRY_BAR2_CFG 0 2 = memCode mem ∧ u.regN FRY_BAR2_BASE = b / 8 * 8 ∧
         s.KeepsRegs u [FRY_BAR2_CFG, FRY_BAR2_BASE] ∧ s.RegsOnly u))

/-- The EMICA and STORE lines that act (R509 to R511, R516, R517, R520, R523, R540, R541, R544 to R549, R571, R572): a role and a
member set restart the rig (MEMBER needs its slot, R87), a master stores SLOT 0, each of ALIGN, ARM and CALFIRE needs the master and its own condition
and is then requested, and SHCLR clears the share correction at the boundary; the store runs one operation at a time, a
recall only of a record that is not bad and whose domains are up, and an APPLY only of a recalled setup; a refused APPLY
keeps its error in APPLY_ERR. -/
def Obligations.EmicaAndStoreLinesAct : Prop :=
  (Errs (fun p => .emicaRole p .member none) (fun _ => True) 104 2 ∧
     (∀ role slot, role ≠ .member ∨ slot.isSome = true → NeedsOn (fun p => .emicaRole p role slot) .emica ∧
       Commits (fun p => .emicaRole p role slot)
         (fun s => s.dom .emica = 2 ∧ s.Allows (chg EMC_CFG 0 2 (roleCode role) :: chgN EMC_CFG 4 3 slot)) fun s u =>
         u.role = roleCode role ∧
         u.fld EMC_CFG 4 3 = (if role = .master then 0 else slot.getD (s.fld EMC_CFG 4 3)) ∧
         u.emcState = (if role = .master then 2 else if role = .member then 1 else 0) ∧
         u.regN EMC_SLOTS = (if role = .off then 0 else s.fld EMC_MEMBERS 0 8 * 2 ^ 16) ∧
         s.KeepsRegs u [EMC_CFG, EMC_SLOTS, EMC_STAT]) ∧
     (∀ m, NeedsOn (fun p => .emicaMembers p m) .emica ∧
       Commits (fun p => .emicaMembers p m) (fun s => s.dom .emica = 2 ∧ s.Allows [chg EMC_MEMBERS 0 8 m]) fun s u =>
         u.fld EMC_MEMBERS 0 8 = m ∧ u.regN EMC_SLOTS = (if s.role = 0 then 0 else m * 2 ^ 16) ∧
         s.KeepsRegs u [EMC_MEMBERS, EMC_SLOTS, EMC_STAT]) ∧
     (let rows : List ((Fin 3 → Instr) × Nat) := [(fun p => .emicaAlign p, 0), (fun p => .emicaArm p, 1), (fun p => .emicaCalfire p, 2)]
       ∀ x ∈ rows, NeedsOn x.1 .emica ∧
         Errs x.1 (fun s => s.dom .emica = 2 ∧ s.role ≠ 1) 203 0 ∧
         Commits x.1 (fun s => s.pulseCheck x.2 = .ok ()) fun s u => u.regs = s.regs ∧
           (s.tide.cycle = 0 → u.emc.due = s.emc.due ||| BitVec.ofNat 3 (2 ^ x.2) ∧ u.emc.want = s.emc.want) ∧
           (s.tide.cycle ≠ 0 → u.emc.want = s.emc.want ||| BitVec.ofNat 3 (2 ^ x.2) ∧ u.emc.due = s.emc.due)) ∧
     Errs (fun p => .emicaAlign p) (fun s => s.dom .emica = 2 ∧ s.role = 1 ∧ s.fld CLK_SYNC_CTRL 0 3 ≠ 3) 203 0 ∧
     Errs (fun p => .emicaArm p) (fun s => s.dom .emica = 2 ∧ s.role = 1 ∧ s.emcState ≠ 2) 203 0 ∧
     Errs (fun p => .emicaCalfire p) (fun s => s.dom .emica = 2 ∧ s.role = 1 ∧ (s.emcState ≠ 2 ∨ s.anyArmed = true)) 203 0 ∧
     NeedsOn (fun p => .emicaShclr p) .emica ∧
     Commits (fun p => .emicaShclr p) (fun s => s.dom .emica = 2 ∧ s.tide.cycle = 0)
       (fun s u => u.regN EMC_CRAW = 0 ∧ u.regN EMC_CORR = 0 ∧ u.slc.share = 0 ∧ s.KeepsRegs u [EMC_CRAW, EMC_CORR]) ∧
     Commits (fun p => .emicaShclr p) (fun s => s.dom .emica = 2 ∧ s.tide.cycle ≠ 0)
       (fun s u => u.emc.clear = true ∧ u.regs = s.regs)) ∧
  ((∀ r, Errs (fun p => .storeSave p r) (fun s => s.storeFree = false) 203 0 ∧
       Commits (fun p => .storeSave p r) (fun s => s.storeFree = true) (fun _ u => u.store.op = .saveWait r)) ∧
     (∀ r tr p s e, Takes s p → argsBad (.storeRecall p r tr) = none → s.storeCheck opRecall r = .error e →
       Gives s (.storeRecall p r tr) ((s.noteRefusal e).fail p (errCode e) (errArg e))) ∧
     (∀ r tr, Errs (fun p => .storeRecall p r tr) (fun s => (∀ d ∈ recallDoms r, s.dom d = 2) ∧ s.bit TRL_BAD r = true) 403 0 ∧
       Commits (fun p => .storeRecall p r tr) (fun s => s.storeCheck opRecall r = .ok ())
         (fun _ u => u.store.op = .reading r tr)) ∧
     (∀ r, Errs (fun p => .storeVerify p r) (fun s => s.storeFree = false) 203 0 ∧
       Commits (fun p => .storeVerify p r) (fun s => s.storeFree = true)
         (fun s u => u.store.op = .verifying r ∧ u.store.buf = s.store.buf ∧ u.bit TRL_STAT 12 = s.bit TRL_STAT 12)) ∧
     (∀ s : State, s.storeFree = true ↔ s.store.op = .idle ∧ s.store.endAt ≠ some s.tide.tb) ∧
     (∀ p s, Takes s p → (s.bit TRL_STAT 12 = false ∨ s.storeFree = false) → Gives s (.storeApply p) ((s.setFld TRL_APPLY 16 10 203).fail p 203 0)) ∧
     (∀ p s e, Takes s p → s.storeApply = .error e →
       Gives s (.storeApply p) ((s.noteRefusal e).fail p (errCode e) (errArg e))) ∧
     (∀ p s t, Takes s p → s.storeApply = .ok t → t.fld TRL_APPLY 16 10 = 0 ∧ Gives s (.storeApply p) (t.okLine p)))

/-! ### Queries -/

/-- What the SYS, TIME, CLK, PWR, BERTH, PILOT, ACQ, SEG, STREAM, WMARK, WHOUSE, DOCK, TALLY and KNOB queries answer (R90, R561 to
R567): the values in force, and the counters and latched values they clear; a Tally result leaves its FIFO with the
answer. -/
def Obligations.SysToKnobQueriesAnswer : Prop :=
  (Answers (fun p => .sysIdQuery p) (fun _ s => [s.hx SYS_ID]) [] ∧
     Answers (fun p => .sysStepQuery p) (fun _ s => [s.hx SYS_STEP]) [] ∧
     Answers (fun p => .sysTideQuery p) (fun _ s => [s.nm SYS_TIDE_LEN]) [] ∧
     Answers (fun p => .sysTidenumQuery p) (fun _ s => [.dec s.tide.number.toNat]) [] ∧
     Answers (fun p => .sysEpochQuery p) (fun _ s => [s.hx SYS_EPOCH]) [] ∧
     Answers (fun p => .sysConflictQuery p) (fun _ s => [s.hx SYS_CONFLICT, s.hx SYS_CONFLICT_ADDR, s.nm SYS_IGNORED]) [SYS_IGNORED] ∧
     Answers (fun p => .sysErrQuery p)
       (fun p s => [s.fv (CMD_ERR p) 0 10, s.fv (CMD_ERR p) 10 5, s.fv (CMD_ERR p) 15 5]) [] ∧
     Answers (fun p => .timeQuery p) (fun _ s => [.tod s.tod.sec.toNat s.tod.ns]) [] ∧
     Answers (fun p => .timePpsQuery p)
       (fun _ s => [s.fv TIM_STAT 4 1, s.zv TIM_PPS_ERR 0 32, s.fv TIM_PPS_COUNT 0 16, s.fv TIM_PPS_COUNT 16 16]) [] ∧
     Answers (fun p => .timeStampQuery p) (fun _ s => [.hex 18 (s.tide.tb.toNat * 2 ^ 16)]) [] ∧
     Answers (fun p => .clkAclkQuery p)
       (fun _ s => [.hex 12 s.fcw, .dec (8 + 4 * s.divCode), .dec (roundDiv (10 ^ 8 * s.fcw) (2 ^ 44))]) [] ∧
     Answers (fun p => .clkStatQuery p) (fun _ s => [lhWord s.lha, lhWord s.lhs, s.fv CLK_CAP_STAT 0 1, s.hx CLK_STAT]) [] ∧
     (∀ h, Answers (fun p => .clkCountQuery p h) (fun _ s => [s.fv (synthCount h) 0 20]) []) ∧
     Answers (fun p => .pwrStateQuery p none) (fun _ s => [s.hx PWR_STATE]) [] ∧
     (∀ d, Answers (fun p => .pwrStateQuery p (some d)) (fun _ s => [.word (domStateWord (s.dom d))]) []) ∧
     Answers (fun p => .pwrDiscQuery p .aon) (fun _ _ => [.dec 0]) [] ∧
     (∀ d, d ≠ .aon → Answers (fun p => .pwrDiscQuery p d) (fun _ s => [s.nm (PWR_DISCARD (domNum d - 1))])
       [PWR_DISCARD (domNum d - 1)]) ∧
     Answers (fun p => .pwrCauseQuery p) (fun _ s => [s.hx PWR_RST_CAUSE, s.hx PWR_STRAP]) [] ∧
     (∀ n, Answers (fun p => .berthRouteQuery p n) (fun _ s => [.dec (maskOf (s.berths n)), .dec (s.kOf n)]) []) ∧
     Answers (fun p => .berthMapQuery p) (fun _ s => [s.hx BRT_ROUTE]) [] ∧
     Answers (fun p => .berthCalQuery p) (fun _ s => [s.hx BRT_CAL_STAT, s.nm BRT_SKEW_ROUNDS]) [] ∧
     (∀ b, Answers (fun p => .berthTrimQuery p b) (fun _ s => [s.fv (BRT_TRIM b) 0 16, s.zv (BRT_SKEW_ERR b) 0 16]) []) ∧
     (∀ n, Answers (fun p => .berthMonQuery p n)
       (fun _ s => [s.zv (BRT_MON n) 0 20, s.fv (BRT_MON n) 20 1, s.fv (BRT_MON n) 21 1, s.fv (BRT_MON n) 31 1]) [BRT_MON n]) ∧
     (∀ n, Answers (fun p => .berthSnapQuery p n)
       (fun _ s => [s.zv (BRT_SNAP n) 0 20, s.fv (BRT_SNAP n) 20 1, s.fv (BRT_SNAP n) 21 1, s.fv (BRT_SNAP n) 31 1]) []) ∧
     (∀ b, Answers (fun p => .berthOvrQuery p b) (fun _ s => [s.nm (BRT_OVR_CNT b)]) [BRT_OVR_CNT b]) ∧
     Answers (fun p => .berthStatQuery p) (fun _ s => [s.hx BRT_CHAN_STAT, s.hx BRT_CAL_STAT]) []) ∧
  ((∀ n, Answers (fun p => .pilotCompQuery p n)
       (fun _ s => [s.fv (PLT_CMP n) 0 12, s.fv (PLT_CMP n) 12 8, edgeWord (s.fld (PLT_CMP n) 20 2), s.fv PLT_CMP_LVL n 1]) []) ∧
     (∀ c, Answers (fun p => .pilotDlyQuery p c) (fun _ s => [s.zv (dlyReg c) 0 20]) []) ∧
     (∀ g, Answers (fun p => .pilotEngQuery p g)
       (fun _ s => [s.fv (PLT_ENG_CFG g) 0 1, wordAt ["A", "AB"] (s.fld (PLT_ENG_CFG g) 1 1), srcWord (s.fld (PLT_ENG_CFG g) 8 7),
         srcWord (s.fld (PLT_ENG_CFG g) 16 7), s.fv (PLT_ENG_CFG g) 24 3,
         wordAt ["STOPPED", "WAIT_A", "WAIT_B", "HOLDOFF"] (s.engState g)]) []) ∧
     (∀ g, Answers (fun p => .pilotLastQuery p g)
       (fun _ s => [.dec (s.regN (PLT_LAST_IDX_LO g) + s.fld (PLT_LAST_IDX_HI g) 0 16 * 2 ^ 32), s.fv (PLT_LAST_INFO g) 0 16,
         s.qv (PLT_LAST_Q0 g), srcWord (s.fld (PLT_LAST_INFO g) 16 7), s.fv (PLT_LAST_INFO g) 24 2]) []) ∧
     (∀ g, Answers (fun p => .pilotCountQuery p g)
       (fun _ s => [.dec (s.regN (PLT_TRIG_CNT_LO g) + s.fld (PLT_TRIG_CNT_HI g) 0 16 * 2 ^ 32), s.nm (PLT_REJ_HOLD g),
         s.nm (PLT_REJ_RATE g), s.nm (PLT_REJ_QUAL g), s.nm (PLT_NOGRID g)])
       [PLT_REJ_HOLD g, PLT_REJ_RATE g, PLT_REJ_QUAL g, PLT_NOGRID g]) ∧
     (∀ g, Answers (fun p => .acqGroupQuery p g)
       (fun _ s => [wordAt ["SEGMENT", "STREAM"] (s.fld (ACQ_G_CFG g) 0 1), s.fv (ACQ_G_CFG g) 8 8, grpStateWord (s.grpState g)]) []) ∧
     (∀ g, Answers (fun p => .acqStatQuery p g)
       (fun _ s => [grpStateWord (s.grpState g), endWord (s.fld (ACQ_G_STAT g) 4 3), s.nm (ACQ_G_SEGS g), s.nm (ACQ_G_REJ g)])
       [ACQ_G_REJ g]) ∧
     (∀ g, Answers (fun p => .acqDeadQuery p g) (fun _ s => [.secs (stampFs (s.reg72 (ACQ_G_DEADSUM_Q0 g)).toNat)]) []) ∧
     Answers (fun p => .segDirQuery p)
       (fun _ s => [memWord s.dirMem, s.nm MAN_DIR_BASE, s.nm MAN_DIR_LEN, s.nm MAN_DIR_NEXT, s.nm MAN_DIR_WRAPS]) [] ∧
     Answers (fun p => .segSeqQuery p) (fun _ s => [s.nm MAN_SEQ]) [] ∧
     (∀ g, Answers (fun p => .streamGapQuery p g) (fun _ s => [s.nm (ACQ_G_DROP g), s.nm (ACQ_G_MARKLOST g)])
       [ACQ_G_DROP g, ACQ_G_MARKLOST g]) ∧
     (∀ g, Answers (fun p => .wmarkSetQuery p g) (fun _ s => [wordAt ["MINMAX", "MEAN", "PICK"] (s.wmkMode g), .dec (s.wmkD g)]) []) ∧
     (∀ h, Answers (fun p => .whouseStatQuery p (.hist h))
       (fun _ s => [s.fv (WHS_H_STAT h) 0 1, s.fv (WHS_H_STAT h) 1 1, s.fv (WHS_H_STAT h) 2 1, whsEnd (s.fld (WHS_H_STAT h) 4 3),
         s.nm (WHS_H_SWEEPS h)]) []) ∧
     (∀ m, Answers (fun p => .whouseStatQuery p (.map m))
       (fun _ s => [s.fv (WHS_M_STAT m) 0 1, s.fv (WHS_M_STAT m) 1 1, s.fv (WHS_M_STAT m) 2 1, whsEnd (s.fld (WHS_M_STAT m) 4 3),
         s.nm (WHS_M_TAKEN m), s.nm (WHS_M_SKIP m), s.nm (WHS_M_DLATE m)]) [WHS_M_SKIP m, WHS_M_DLATE m]) ∧
     Answers (fun p => .whouseBinsQuery p) (fun _ s => [.dec s.binsUsed]) [] ∧
     (∀ n, Answers (fun p => .dockCfgQuery p n)
       (fun _ s => [s.fv (DCK_CH_CFG n) 0 1, wordAt ["X8", "X16"] (s.fld (DCK_CH_CFG n) 1 1),
         wordAt ["4G", "8G"] (s.fld (DCK_CH_CFG n) 2 1), .dec (1 + s.fld (DCK_CH_CFG n) 3 1)]) []) ∧
     (∀ n, Answers (fun p => .dockCalQuery p n)
       (fun _ s => .dec s.dckCap :: .dec (s.demand n) :: (s.charges n).map fun (c : Nat) => .dec c) []) ∧
     Answers (fun p => .dockRefuseQuery p)
       (fun _ s => [s.fv DCK_REFUSE 0 1, s.fv DCK_REFUSE 8 8, s.fv DCK_REFUSE 16 8, s.fv DCK_REFUSE 31 1]) [] ∧
     (∀ n, Answers (fun p => .dockStatQuery p n)
       (fun _ s => [wordAt ["ABSENT", "UNTRAINED", "TRAINING", "TRAINED", "FAILED", "SELFREF"] (s.fld (DCK_CH_TSTAT n) 0 3),
         s.fv (DCK_CH_TSTAT n) 4 3, s.fv (DCK_CH_TSTAT n) 8 1, s.nm (DCK_CH_SIZE n), s.nm (DCK_CH_ROUNDS n)]) []) ∧
     (∀ n, Answers (fun p => .dockErrQuery p n)
       (fun _ s => [s.nm (DCK_CH_PARERR n), s.nm (DCK_CH_BADBURST n), s.nm (DCK_CH_LASTADDR n)])
       [DCK_CH_PARERR n, DCK_CH_BADBURST n]) ∧
     (∀ l, Answers (fun p => .tallyResQuery p l) (fun _ s => [s.qv (TLY_L_RES_Q0 l)]) []) ∧
     (∀ l, Answers (fun p => .tallyStatQuery p l)
       (fun _ s => [s.qv (TLY_L_MEAN_Q0 l), s.qv (TLY_L_SD_Q0 l), s.qv (TLY_L_MIN_Q0 l), s.qv (TLY_L_MAX_Q0 l), s.nm (TLY_L_STATN l)])
       []) ∧
     (∀ l p s, Takes s p → l < 4 → (s.lane l).fifo = [] →
       Gives s (.tallyReadQuery p l) (s.answer p (.ok [[.hex 18 0]]))) ∧
     (∀ l p s w t, Takes s p → l < 4 → (s.lane l).fifo = w :: t → ∃ u : State, (u.lane l).fifo = t ∧
       u.regN (TLY_L_FIFO_FILL l) = t.length % 2 ^ 32 ∧ s.KeepsRegs u [TLY_L_FIFO_FILL l] ∧
       Gives s (.tallyReadQuery p l) (u.answer p (.ok [[.hex 18 w.toNat]]))) ∧
     Answers (fun p => .tallyCalQuery p) (fun _ s => [s.hx TLY_STAT, s.hx TLY_CAL_STAT]) [] ∧
     Answers (fun p => .knobPosQuery p)
       (fun _ s => [s.zv KNB_POS 0 32, wordAt ["CCW", "CW"] (s.fld KNB_STAT 0 1), s.nm KNB_SPEED, s.fv KNB_STAT 1 1]) [])

/-- What the SLUICE, LIST, SLIP, PROT, BELL, FERRY, EMICA, STORE, PIN, YARD and REG queries answer (R90, R104, R456, R568 to R572):
a claim takes the highest pending source into service, or names the source already in service; a log entry leaves the log
with the answer, and REG? reads as a PCIe read of its port does. -/
def Obligations.SluiceToRegQueriesAnswer : Prop :=
  ((∀ n, Answers (fun p => .sluiceStatQuery p n)
       (fun _ s => [wordAt ["OFF", "MANUAL", "AUTO", "MOORED"] (s.loopState n), s.zv (SLC_L_SPNOW n) 0 16, s.zv (SLC_L_OUT n) 0 20,
         s.zv (SLC_L_INT n) 0 24, s.zv (SLC_L_ERR n) 0 24, wordAt ["A", "B"] (b2n (s.loop n).bank)]) []) ∧
     (∀ n, Answers (fun p => .sluiceMissedQuery p n)
       (fun _ s => [s.nm (SLC_L_MISSED n), s.nm (SLC_L_STALE n), s.nm (SLC_L_SAT n)]) [SLC_L_MISSED n, SLC_L_STALE n, SLC_L_SAT n]) ∧
     (∀ n, Answers (fun p => .listStatQuery p n)
       (fun _ s => [.dec (s.loop n).lst.idx, wordAt ["IDLE", "RUNNING", "HOLD"] (s.loop n).lst.st, .dec (s.loop n).lst.left]) []) ∧
     (∀ k, Answers (fun p => .slipStatQuery p k)
       (fun _ s => [.dec (if s.portMode k = 1 ∧ s.bit (SLP_P_CFG k) 26 = true
           then toSigned (s.fld (SLP_P_CFG k) 16 5) (bits (s.portStat k) 0 20) else bits (s.portStat k) 0 20),
         .dec (bits (s.portStat k) 24 1), .dec (bits (s.portStat k) 25 1), loopName (s.driver k), s.nm (SLP_P_LATE k)])
       [SLP_P_LATE k]) ∧
     Answers (fun p => .protStatQuery p) (fun _ s => s.hx PRT_TRIPPED :: (List.range 8).map fun n => s.hx (PRT_L_CAUSE n)) [] ∧
     Answers (fun p => .bellEnQuery p) (fun _ s => [s.hx (BEL_EN 1), s.hx (BEL_EN 0)]) [] ∧
     (∀ t, Answers (fun p => .bellTargetQuery p t)
       (fun _ s => [s.fv (BEL_TGT t) 0 1, s.fv (BEL_TGT t) 8 7, s.fv (BEL_TGT t) 16 16,
         wordAt ["FREE", "WAITING", "DELIVERED", "SERVING"] (bits (s.tstat t) 0 2)]) []) ∧
     Answers (fun p => .bellStatQuery p)
       (fun _ s => [s.hx (BEL_LEVEL 1), s.hx (BEL_LEVEL 0), s.hx (BEL_PEND 1), s.hx (BEL_PEND 0), s.hx (BEL_TSTAT 0),
         s.hx (BEL_TSTAT 1), s.hx (BEL_TSTAT 2), s.hx (BEL_TSTAT 3)]) [] ∧
     Answers (fun p => .bellBadQuery p) (fun _ s => [s.nm BEL_BAD_COMPLETE, s.nm BEL_LOST]) [BEL_BAD_COMPLETE, BEL_LOST] ∧
     (∀ t p s n, Takes s p → t < 4 → (s.tgt t).serving = some n →
       Gives s (.bellClaimQuery p t) (s.answer p (.ok [[.dec (n % 64), .dec (n / 2 ^ 31 % 2)]]))) ∧
     (∀ t p s, Takes s p → t < 4 → (s.tgt t).serving = none → s.claimSet = [] → ∃ u : State, (u.tgt t).delivered = false ∧
       Gives s (.bellClaimQuery p t) (u.answer p (.ok [[.dec 0, .dec 0]]))) ∧
     (∀ t p s n l, Takes s p → t < 4 → (s.tgt t).serving = none → s.claimSet = n :: l → ∃ u : State, (u.tgt t).serving = some n ∧
       (u.tgt t).delivered = false ∧ (∀ m ∈ u.bell.msgs, m.tgt = t → s.blocked m = false) ∧
       Gives s (.bellClaimQuery p t) (u.answer p (.ok [[.dec n, .dec 1]]))) ∧
     (∀ r, Answers (fun p => .ferryStatQuery p r)
       (fun _ s => [wordAt ["STOPPED", "RUNNING", "STOPPING", "HALTED", "FAULTED"] (s.ringState r),
         wordAt ["NONE", "LEDGER", "DESC", "FETCH", "LINK"] (s.fld (FRY_R_STAT r) 4 3), .dec (s.tail r), .dec (s.head r),
         .dec (s.donePtr r), .dec (s.dev r), .dec (s.infl r), .dec (s.host r), s.nm (FRY_R_DROP r)]) [FRY_R_DROP r]) ∧
     Answers (fun p => .ferryLinkQuery p)
       (fun _ s => [wordAt ["0", "2.5", "5", "8"] (s.fld FRY_LINK 0 2), s.fv FRY_LINK 4 3, s.fv FRY_LINK 8 1,
         wordAt ["D0", "D3HOT"] (s.fld FRY_LINK 9 1)]) []) ∧
  (Answers (fun p => .emicaCalQuery p) (fun _ s => [s.zv EMC_CAL 0 32, s.fv EMC_STAT 4 1]) [] ∧
     Answers (fun p => .emicaStatQuery p)
       (fun _ s => [wordAt ["OFF", "LISTEN", "RUNNING"] s.emcState, s.fv EMC_STAT 2 1, s.fv EMC_STAT 3 1, s.hx EMC_SLOTS,
         s.zv EMC_CORR 0 16]) [] ∧
     (∀ j, Answers (fun p => .emicaValQuery p j) (fun _ s => [s.zv (EMC_VAL j) 0 14, s.fv (EMC_VAL j) 14 1, s.fv (EMC_VAL j) 15 1]) []) ∧
     (∀ j, Answers (fun p => .emicaAbsQuery p j) (fun _ s => [s.nm (EMC_ABS j)]) [EMC_ABS j]) ∧
     Answers (fun p => .emicaRigofsQuery p) (fun _ s => [s.qv EMC_RIGOFS_Q0]) [] ∧
     Answers (fun p => .storeStatQuery p) (fun _ s => [s.hx TRL_STAT, s.hx TRL_BAD, s.nm TRL_SKIP]) [TRL_SKIP] ∧
     Answers (fun p => .storeIdentQuery p)
       (fun _ s => [s.hx (TRL_IDENT 0), s.hx (TRL_IDENT 1), s.hx (TRL_IDENT 2), s.hx (TRL_IDENT 3), s.hx (TRL_IDENT 4)]) [] ∧
     (∀ a, Answers (fun p => .storeRawQuery p a) (fun _ s => [.hex 8 (s.storeWord a).toNat]) []) ∧
     (∀ n, Answers (fun p => .pinFuncQuery p n)
       (fun _ s => [wordOf pinFuncs (s.fld (PMX_PIN n) 0 4), s.fv (PMX_PIN n) 4 5, s.fv (PMX_PIN n) 12 2, s.fv (PMX_PIN n) 16 1]) []) ∧
     (∀ n, Answers (fun p => .pinLevelQuery p n) (fun _ s => [s.fv PMX_IN n 1]) []) ∧
     (∀ k, Answers (fun p => .yardRouteQuery p k)
       (fun _ s => [s.fv (YRD_ROUTE k) 0 1, yardWord (s.fld (YRD_ROUTE k) 4 7), wordOf tasks (s.fld (YRD_ROUTE k) 12 3),
         s.fv (YRD_ROUTE k) 16 16, wordAt ["RISE", "FALL", "BOTH", "BOTH"] (s.fld (YRD_ROUTE k) 2 2)]) []) ∧
     Answers (fun p => .yardBellQuery p)
       (fun _ s => ((List.range 8).map fun j => yardWord (s.fld (YRD_BELL_SEL j) 0 7)) ++ [s.hx YRD_BELL_STAT]) [] ∧
     (∀ t, Answers (fun p => .yardCoincQuery p t) (fun _ s => [s.nm (YRD_COINC t)]) [YRD_COINC t]) ∧
     (∀ t, Answers (fun p => .yardIgnQuery p t) (fun _ s => [s.nm (YRD_IGN t)]) [YRD_IGN t]) ∧
     Answers (fun p => .yardAbortedQuery p) (fun _ s => [s.nm YRD_ABORT_DISC]) [YRD_ABORT_DISC] ∧
     Answers (fun p => .yardSnapQuery p)
       (fun _ s => [s.qv YRD_SNAP_Q0, .dec (s.regN (YRD_SNAP_TIDE 0) + s.regN (YRD_SNAP_TIDE 1) * 2 ^ 32)]) [] ∧
     (∀ p s, Takes s p → s.yard.log = [] → Gives s (.yardLogQuery p) (s.answer p (.ok [[.dec 0, .hex 14 0]]))) ∧
     (∀ p s w t, Takes s p → s.yard.log = w :: t → ∃ u : State, u.yard.log = t ∧
       Gives s (.yardLogQuery p) (u.answer p (.ok [[.dec (bits w.toNat 7 7), .hex 14 (bits w.toNat 16 56)]]))) ∧
     (∀ p off s, Takes s p → argsBad (.regQuery p off) = none →
       Gives s (.regQuery p off) ((s.readReg (.port p) off).2.answer p (.ok [[.hex 8 (s.readReg (.port p) off).1.toNat]]))))

/-! ### PCIe writes and reads -/

/-- The PCIe writes of action registers (R9, R39, R46, R47, R53 to R55, R76, R100, R123, R149, R182, R209, R247, R265, R312,
R330, R357, R358, R368, R404, R406, R434, R457, R486, R492, R511, R516, R520, R523, R541): each acts as the Damisk unit of
the same action does, on arrival, and one that the unit refuses is ignored and counted. -/
def Obligations.PcieActionWritesActOrAreCounted : Prop :=
  WriteActs .timSetCtrlGo (fun s => .ok (s.todStage
    (BitVec.ofNat 48 (s.regN TIM_SET_SEC_LO + s.fld TIM_SET_SEC_HI 0 16 * 2 ^ 32)) (s.fld TIM_SET_NS 0 30))) ∧
  WriteActs .timSetCtrlCancel (fun s => .ok (s.setBit TIM_STAT 0 false)) ∧
  (∀ v : BitVec 32, WriteActs (.timAdjWrite v) (fun s => .ok (s.slewAdd v.toInt))) ∧
  WriteActs .sysAbortGo (fun s => .ok s.takeAbort) ∧
  (∀ v : BitVec 32, WriteActs (.sysResetWrite v)
    (fun s => if v.toNat % 2 = 1 ∧ v.toNat / 2 ^ 16 = 0x5A17 then .ok (s.assertReset 3) else .error 203)) ∧
  (∀ v, WriteActs (.cmdMbInWrite v) (fun s => .ok (s.mbIn v))) ∧
  (∀ v : BitVec 8, WriteActs (.yrdPulseWrite v) (fun s => .ok ((maskBits 8 v.toNat).foldl (fun s j => s.raise (64 + j)) s))) ∧
  WriteActs .clkLhaResumeWrite (·.resumeU .lha) ∧ WriteActs .clkLhsResumeWrite (·.resumeU .lhs) ∧
  WriteActs .brtBgClearWrite (·.bgClearU) ∧
  (∀ v : BitVec 8, WriteActs (.pltSoftWrite v) (fun s => s.softU s.now v.toNat)) ∧
  (∀ g : Fin 8, WriteActs (.acqGCmdArm g) (·.armU g) ∧ WriteActs (.acqGCmdDisarm g) (·.disarmU g) ∧
    WriteActs (.acqGCmdStart g) (·.startU g) ∧ WriteActs (.acqGCmdStop g) (·.stopU g) ∧
    WriteActs (.whsHCmdFlush g) (·.flushU g)) ∧
  (∀ n : Fin 2, WriteActs (.dckTrainWrite n) (·.trainU n)) ∧
  (∀ m : BitVec 6, m ≠ 0 → WriteActs (.tlyCalGoWrite m) (·.calU m.toNat) ∧ WriteActs (.tlyCalLoadWrite m) (·.loadU m.toNat)) ∧
  (WriteActs (.tlyCalGoWrite 0) .ok ∧ WriteActs (.tlyCalLoadWrite 0) .ok) ∧
  (∀ v : BitVec 16, WriteActs (.tlyTblDataAccess (some v)) (fun s => .ok (s.tblAccess (some v.toNat)).2)) ∧
  (∀ l : Fin 4, WriteActs (.tlyLCmdStart l) (·.tlyStartU l) ∧ WriteActs (.tlyLCmdStop l) (·.tlyStopU l)) ∧
  (∀ m : BitVec 8, WriteActs (.slcSwapWrite m) (·.swapWrite m.toNat) ∧ WriteActs (.slcStepWrite m) (·.stepWrite m.toNat) ∧
    WriteActs (.prtCmdClear m) (·.prtU m.toNat 0) ∧ WriteActs (.prtCmdMoor m) (·.prtU 0 m.toNat)) ∧
  (∀ (t : Fin 4) (n : BitVec 6), WriteActs (.belCompleteWrite t n) (fun s => .ok (s.complete t n.toNat))) ∧
  (∀ v : BitVec 32, WriteActs (.belEnWrite false v) (fun s => .ok (s.setReg (BEL_EN 0) v))) ∧
  (∀ v : BitVec 32, WriteActs (.belEnWrite true v) (fun s => .ok (s.setRegN (BEL_EN 1)
    (s.regN (BEL_EN 1) / 2 ^ 16 * 2 ^ 16 + v.toNat % 2 ^ 16)))) ∧
  (∀ r : Fin 8, WriteActs (.fryRCmdStart r) (·.ringStartU r) ∧ WriteActs (.fryRCmdStop r) (·.ringStopU r) ∧
    WriteActs (.fryRCmdResume r) (·.ringResumeU r) ∧ ∀ n : BitVec 16, WriteActs (.fryRPostWrite r n) (·.postU r n.toNat)) ∧
  (WriteActs .emcCmdAlign (·.emcPulseU 0) ∧ WriteActs .emcCmdArm (·.emcPulseU 1) ∧ WriteActs .emcCmdCalfire (·.emcPulseU 2) ∧
    WriteActs .emcCmdShclr (·.shclrU)) ∧
  (∀ r : BitVec 5, WriteActs (.trlCmdSave r) (fun s => .ok (s.trlCmd (r.toNat + 2 ^ 8))) ∧
    WriteActs (.trlCmdVerify r) (fun s => .ok (s.trlCmd (r.toNat + 2 ^ 11))) ∧
    ∀ tr, WriteActs (.trlCmdRecall r tr) (fun s => .ok (s.trlCmd (r.toNat + 2 ^ 9 + b2n tr * 2 ^ 10))))

/-- PCIe writes of registers (R9, R13, R15, R39, R46, R47, R472, R580, R581): nothing happens on a link that is not up; a write without all
four byte enables is ignored and counted, one at an offset that is not assigned leaves its address too; a tide-applied
write, an APPLY and a list command wait for their boundary with the guards that are open, a tide-applied one in place of one
made to its register in the same tide, and a guard opens at once; ones written to flags clear them, but for those an event of
this edge has set. -/
def Obligations.PcieRegisterWritesStageCountOrAct : Prop :=
  (∀ off v be (s : State), s.live = true → s.pcieUp = false → Gives s (.registerWrite off v be) s) ∧
  (∀ off v be s, HostUp s → be ≠ 15 → Gives s (.registerWrite off v be) s.wake.ignore) ∧
  (∀ off v s, HostUp s → regRow off = none → ∃ u, Gives s (.registerWrite off v 15) u ∧
    u.regN SYS_IGNORED = satAdd 0xFFFFFFFF (s.regN SYS_IGNORED) 1 ∧ u.bit SYS_CONFLICT 2 = true ∧
    u.regN SYS_BADADDR = off % 2 ^ 18 + 2 ^ 31 ∧ s.KeepsRegs u [FRY_LINK, SYS_IGNORED, SYS_CONFLICT, SYS_BADADDR]) ∧
  (∀ off v s r, HostUp s → regRow off = some r → off ≠ SYS_GUARD → r.ta ≠ 0 → ∃ u, Gives s (.registerWrite off v 15) u ∧
    u.ust.writes = (s.ust.writes.filter fun x => !s.replaced off x) ++
      [⟨off, v, s.holding off, s.lateNow, (s.ust.guards.filter (·.open_)).map (·.serial), s.tide.number⟩] ∧
    s.KeepsRegs u [FRY_LINK]) ∧
  (∀ off v s r, HostUp s → regRow off = some r → r.ta = 0 → r.rw = 0 → r.wo = 0 → r.w1c ≠ 0 → off ≠ SYS_GUARD →
    (∀ n < 8, off ≠ SLC_L_LISTCMD n) → ∃ u, Gives s (.registerWrite off v 15) u ∧
    u.regN off = s.wake.regN off &&& ((0xFFFFFFFF ^^^ (v.toNat &&& r.w1c)) ||| wordAt0 s.edge.sets off) ∧
    s.KeepsRegs u [FRY_LINK, off]) ∧
  (∀ v s, HostUp s → ∃ u, Gives s (.sysGuardWrite v) u ∧ u.ust.guards = s.ust.guards ++ [⟨s.ust.serial, v, s.lateNow, true⟩] ∧
    u.ust.serial = s.ust.serial + 1 ∧ s.KeepsRegs u [FRY_LINK]) ∧
  (∀ s, HostUp s → ∃ u, Gives s .trlApplyGo u ∧ (∃ x ∈ u.ust.writes, x.off = TRL_APPLY ∧ x.val = 1) ∧ s.KeepsRegs u [FRY_LINK]) ∧
  (∀ (n : Fin 8) s, HostUp s →
    (∃ u, Gives s (.slcListcmdRun n) u ∧ (∃ x ∈ u.ust.writes, x.off = SLC_L_LISTCMD n ∧ x.val = 1) ∧ s.KeepsRegs u [FRY_LINK]) ∧
    (∃ u, Gives s (.slcListcmdStop n) u ∧ (∃ x ∈ u.ust.writes, x.off = SLC_L_LISTCMD n ∧ x.val = 2) ∧ s.KeepsRegs u [FRY_LINK]))

/-- Reads (R9, R10, R14, R76, R113, R114, R127, R376, R456, R472, R549, R580, R600, R601): every read row reads its register. The
first word of a FIFO or of the log gives the oldest entry, latches the rest of it and removes it; the mailbox output gives up to
four bytes and removes them; the array gives the word at its address, which advances; a claim gives the source it takes into
service. A register that clears as it is read gives what it held and keeps what events of this edge have counted; one that holds
a part of a latched value gives the part latched with its first; an offset that is not assigned gives zero; and a read of
several words is not served and counted. -/
def Obligations.ReadRowsReadTheirRegisters : Prop :=
  (∀ q off, ReadsReg (.snSnapshotRead q off) q off ∧ ReadsReg (.rcReadClear q off) q off) ∧
  (∀ q (l : Fin 4), ReadsReg (.tlyFifoRead q l) q (TLY_L_FIFO_Q0 l)) ∧
  (∀ q, ReadsReg (.yrdLogRead q) q YRD_LOG_Q0 ∧ ReadsReg (.trlRawDataRead q) q TRL_RAW_DATA) ∧
  ReadsReg .cmdMbOutRead .pcie CMD_MB_OUT ∧
  (∀ t : Fin 4, ReadsReg (.belClaimRead t) .pcie (BEL_CLAIM t)) ∧
  ReadsReg (.tlyTblDataAccess none) .pcie TLY_TBL_DATA ∧
  (∀ off s, HostUp s → Gives s (.bar0MultiDwRead off) s.wake.ignore.aerAbort) ∧
  (∀ off s, s.live = true → s.pcieUp = false → Gives s (.bar0MultiDwRead off) s) ∧
  (∀ q off (s : State), regRow off = none → s.readReg q off = (0, s)) ∧
  (∀ q (l : Fin 4) (s : State) w u, (s.readReg q (TLY_L_FIFO_Q0 l)) = (w, u) →
    w.toNat = ((s.lane l).fifo.headD 0).toNat % 2 ^ 32 ∧ (u.lane l).fifo = (s.lane l).fifo.tail ∧
    (∀ k, k = 1 ∨ k = 2 → (u.latch q (TLY_L_FIFO_Q0 l + 4 * k)).toNat = ((s.lane l).fifo.headD 0).toNat / 2 ^ (32 * k) % 2 ^ 32) ∧
    s.KeepsRegs u [TLY_L_FIFO_FILL l]) ∧
  (∀ q (s : State) w u, (s.readReg q YRD_LOG_Q0) = (w, u) →
    w.toNat = (s.yard.log.headD 0).toNat % 2 ^ 32 ∧ u.yard.log = s.yard.log.tail ∧
    (∀ k, k = 1 ∨ k = 2 → (u.latch q (YRD_LOG_Q0 + 4 * k)).toNat = (s.yard.log.headD 0).toNat / 2 ^ (32 * k) % 2 ^ 32) ∧
    s.KeepsRegs u [YRD_LOG_FILL]) ∧
  (∀ q (s : State) w u, (s.readReg q CMD_MB_OUT) = (w, u) →
    (∀ i < 4, bits w.toNat (8 * i) 8 = (s.cmd.mbox.out.getD i 0).toNat) ∧ u.cmd.mbox.out = s.cmd.mbox.out.drop 4 ∧
    u.regs = s.regs) ∧
  (∀ q (s : State) w u, (s.readReg q TRL_RAW_DATA) = (w, u) →
    w = s.storeWord (s.fld TRL_RAW_ADDR 0 16) ∧ u.regN TRL_RAW_ADDR = (s.fld TRL_RAW_ADDR 0 16 + 1) % 65536 ∧
    s.KeepsRegs u [TRL_RAW_ADDR]) ∧
  (∀ q (t : Fin 4) (s : State) w u, (s.readReg q (BEL_CLAIM t)) = (w, u) →
    (∀ n, (s.tgt t).serving = some n → w = BitVec.ofNat 32 n ∧ u = s) ∧
    ((s.tgt t).serving = none → s.claimSet = [] → w = 0 ∧ (u.tgt t).serving = none) ∧
    ∀ n l, (s.tgt t).serving = none → s.claimSet = n :: l →
      w = BitVec.ofNat 32 (n + 2 ^ 31) ∧ (u.tgt t).serving = some n ∧ (u.tgt t).delivered = false) ∧
  (∀ q off (s : State) r, regRow off = some r → r.rc ≠ 0 → isSib off = false → isSn off = false → off ≠ CMD_MB_OUT → off ≠ TLY_TBL_DATA →
    off ≠ TRL_RAW_DATA → (∀ t < 4, off ≠ BEL_CLAIM t) →
    (s.readReg q off).1.toNat = s.view off % 2 ^ 32 ∧
    (s.readReg q off).2.regN off = (s.regN off &&& (0xFFFFFFFF ^^^ r.rc)) ||| (wordAt0 s.edge.adds off &&& r.rc) ∧
    s.KeepsRegs (s.readReg q off).2 [off]) ∧
  (∀ q off (s : State), isSib off = true → (∀ t < 4, off ≠ BEL_CLAIM t) → off ≠ CMD_MB_OUT → off ≠ TLY_TBL_DATA → off ≠ TRL_RAW_DATA →
    s.readReg q off = (s.latch q off, s))

/-! ### Clocks, time, tide, power and reset -/

/-- The reference and the Lighthouses (R66, R142, R148 to R150, R156, R165, R168 to R170): REFIN stops and starts RCLK, two counter
windows in range lock, one out of range withdraws the lock or loses it, a LOCKED Lighthouse runs from a tide edge that lies
after its lock or its RESUME, a SYNCING one from one 64 reference periods after E, and a loss is counted, flagged and
reported. -/
def Obligations.LighthouseRowsLockRunAndLose : Prop :=
  (∀ s, s.tide.rclk = true → s.pwr.held = false → ∃ u, exec .refinAbsentDeclared s = .next u ∧ u.tide.rclk = false ∧
    u.bit TIM_STAT 3 = false ∧ u.bit CLK_CAP_STAT 0 = false ∧ u.bit CLK_CAP_STAT 1 = false ∧ u.bit CLK_CAP_STAT 9 = true ∧
    (s.lha ≠ 0 → u.lha = 1) ∧ (s.lhs ≠ 0 → u.lhs = 1)) ∧
  (∀ s, s.tide.rclk = true → s.pwr.held = true →
    exec .refinAbsentDeclared s = .next { s with tide := { s.tide with rclk := false } }) ∧
  (∀ s, s.tide.rclk = false → exec .refinAbsentDeclared s = .next s) ∧
  (∀ s, s.pwr.held = true → exec .refinPresentDeclared s = .next { s with tide := { s.tide with rclk := true } }) ∧
  (∀ s, s.live = true → Gives s .refinPresentDeclared s) ∧
  (∀ s, s.pwr.held = false → s.tide.rclk = false → s.refBack.tide.rclk = true ∧ s.refBack.bit CLK_STAT 10 = true ∧
    s.refBack.bit TIM_STAT 9 = true ∧ exec .refinPresentDeclared s =
      .next (if s.refBack.refCloses.padsReturn.live = true then s.refBack.refCloses.padsReturn.settle
        else s.refBack.refCloses.padsReturn)) ∧
  (∀ h, Effects (.pullInComplete h) (fun s => s.synthState h = 1)
      (fun s u => (u.synth h).pulled = true ∧ (u.synth h).wins = 0 ∧ u.regs = s.regs) ∧
    Turns (.pullInComplete h) (fun s => s.synthState h ≠ 1) id) ∧
  (∀ h n, Turns (.lockWindowEnd h n) (fun s => (s.synth h).pulled = false ∨ s.synthState h = 0) id ∧
    Effects (.lockWindowEnd h n) (fun s => (s.synth h).pulled = true ∧ s.synthState h = 1 ∧ s.inRange h n = true ∧ (s.synth h).wins = 0)
      (fun s u => u.synthState h = 1 ∧ (u.synth h).wins = 1 ∧ u.regN (synthCount h) = n % 2 ^ 20 ∧ s.KeepsRegs u [synthCount h]) ∧
    Effects (.lockWindowEnd h n) (fun s => (s.synth h).pulled = true ∧ s.synthState h = 1 ∧ s.inRange h n = true ∧ (s.synth h).wins ≠ 0)
      (fun s u => u.synthState h = 2 ∧ u.regN (synthCount h) = n % 2 ^ 20 ∧ s.KeepsRegs u [synthCount h, synthStat h]) ∧
    Effects (.lockWindowEnd h n) (fun s => (s.synth h).pulled = true ∧ s.synthState h = 1 ∧ s.inRange h n = false)
      (fun _ u => u.synthState h = 1 ∧ (u.synth h).wins = 0 ∧ u.regN (synthCount h) = n % 2 ^ 20) ∧
    Effects (.lockWindowEnd h n) (fun s => (s.synth h).pulled = true ∧ 2 ≤ s.synthState h ∧ s.inRange h n = true)
      (fun s u => u.synthState h = s.synthState h ∧ u.regN (synthCount h) = n % 2 ^ 20 ∧ s.KeepsRegs u [synthCount h]) ∧
    Effects (.lockWindowEnd h n) (fun s => (s.synth h).pulled = true ∧ s.synthState h = 2 ∧ s.inRange h n = false)
      (fun s u => u.synthState h = 1 ∧ u.regN (synthCount h) = n % 2 ^ 20 ∧ s.KeepsRegs u [synthCount h, synthStat h]) ∧
    Turns (.lockWindowEnd h n) (fun s => (s.synth h).pulled = true ∧ 3 ≤ s.synthState h ∧ s.inRange h n = false)
      (fun s => (s.setRegN (synthCount h) (n % 2 ^ 20)).lockLoss h)) ∧
  (∀ h, Effects (.lockLossPhase h) (fun s => s.synthState h = 2) (fun s u => u.synthState h = 1 ∧ s.KeepsRegs u [synthStat h]) ∧
    Turns (.lockLossPhase h) (fun s => s.synthState h = 3) (·.lockLoss h) ∧
    Turns (.lockLossPhase h) (fun s => s.synthState h < 2 ∨ 3 < s.synthState h) id) ∧
  (∀ s : State, ∃ t : State, t.synthState .lha = 1 ∧ t.bit CLK_STAT 8 = true ∧
    t.fld CLK_UNLOCK_CNT 0 16 = satAdd 65535 (s.fld CLK_UNLOCK_CNT 0 16) 1 ∧
    s.lockLoss .lha = (t.notify .clock 1 [.word "LHA"] 1).aclkGate) ∧
  (∀ s : State, ∃ t : State, t.synthState .lhs = 1 ∧ t.bit CLK_STAT 9 = true ∧
    t.fld CLK_UNLOCK_CNT 16 16 = satAdd 65535 (s.fld CLK_UNLOCK_CNT 16 16) 1 ∧
    s.lockLoss .lhs = ((t.notify .clock 1 [.word "LHS"]).timeDegraded.dockHold).sclkStop) ∧
  (∀ h, ActsAtEdge (.lighthouseResume h)
    (fun t => t.synthState h = 2 ∧ ((t.bit (synthCfg h) 24 = true ∧ (t.synth h).lockAt ≠ t.tide.tb) ∨
      ((t.synth h).resume = true ∧ (t.synth h).resumeAt ≠ t.tide.tb))) (·.clockRun h)) ∧
  ActsAtEdge .lhaSyncResume (fun t => t.lha = 4 ∧ 5 * 64 ≤ (t.tide.tb - t.clk.lha.lockAt).toNat)
    (fun s => ((s.setSynthState .lha 3).aclkSync s.clk.lha.lockAt).chansSettle) ∧
  (∀ s : State, ∃ t : State, t.synthState .lha = 3 ∧ (t.synth .lha).resume = false ∧
    s.clockRun .lha = (t.setBit CLK_LHA_STAT 3 false).aclkFree.chansSettle) ∧
  (∀ s : State, ∃ t : State, t.synthState .lhs = 3 ∧ t.bit TIM_STAT 3 = true ∧ t.bit TIM_STAT 1 = false ∧
    s.clockRun .lhs = t.knobResume.chansSettle.abortResume.endsForm.kickAll)

/-- The Capstan and SYNCIN rows (R152 to R157): lock flags follow the Capstan while CTRL is ON, a lock lost or a hard fault
parks the outputs and trips; an edge of the selected source and polarity is registered for E eight cycles later, or
skipped and counted where a target Lighthouse does not run, and the realignment acts at E. -/
def Obligations.CapstanAndSyncRowsFollowTheirInputs : Prop :=
  Effects .capstanDllLocked (fun s => s.on .ctrl = true) (fun s u => u.bit CLK_CAP_STAT 1 = true ∧ s.KeepsRegs u [CLK_CAP_STAT]) ∧
  Effects .capstanLockSet (fun s => s.on .ctrl = true) (fun s u => u.bit CLK_CAP_STAT 0 = true ∧ s.KeepsRegs u [CLK_CAP_STAT]) ∧
  (∀ s, s.live = true → s.on .ctrl = true → s.bit CLK_CAP_STAT 0 = true → ∃ t : State, t.bit CLK_CAP_STAT 0 = false ∧
    t.bit CLK_CAP_STAT 9 = true ∧ Gives s .capstanLockClear (t.capPark.capTrip)) ∧
  (∀ s, s.live = true → s.on .ctrl = true → ∃ t : State, t.bit CLK_CAP_STAT 1 = false ∧
    t.bit CLK_CAP_STAT 8 = true ∧ Gives s .capstanHardFault (t.capPark.capTrip)) ∧
  (∀ c ∈ [Instr.capstanDllLocked, .capstanLockSet, .capstanLockClear, .capstanHardFault], Turns c (fun s => s.on .ctrl = false) id) ∧
  (∀ x f, Turns (.syncEdgeRegister x f)
    (fun s => s.bit CLK_SYNC_CTRL 0 = false ∨ s.bit CLK_SYNC_CTRL 1 ≠ x ∨ s.bit CLK_SYNC_CTRL 2 ≠ f ∨ s.clk.edge.isSome = true ∨
      (x = true ∧ s.on .emica = false)) id) ∧
  (∀ x f, Effects (.syncEdgeRegister x f)
    (fun s => s.bit CLK_SYNC_CTRL 0 = true ∧ s.bit CLK_SYNC_CTRL 1 = x ∧ s.bit CLK_SYNC_CTRL 2 = f ∧ s.clk.edge = none ∧
      (x = true → s.on .emica = true) ∧ ((s.syncTarget 1 = true ∧ s.lhs ≠ 3) ∨ (s.syncTarget 2 = true ∧ s.lha ≠ 3)))
    (fun s u => u.regN CLK_SYNC_SKIP = satAdd 0xFFFFFFFF (s.regN CLK_SYNC_SKIP) 1 ∧ u.clk.edge = none ∧ s.KeepsRegs u [CLK_SYNC_SKIP])) ∧
  (∀ x f, Effects (.syncEdgeRegister x f)
    (fun s => s.bit CLK_SYNC_CTRL 0 = true ∧ s.bit CLK_SYNC_CTRL 1 = x ∧ s.bit CLK_SYNC_CTRL 2 = f ∧ s.clk.edge = none ∧
      (x = true → s.on .emica = true) ∧ (s.syncTarget 1 = true → s.lhs = 3) ∧ (s.syncTarget 2 = true → s.lha = 3))
    (fun s u => u.clk.edge = some (s.tide.tb + 40) ∧ u.regs = s.regs)) ∧
  Turns .syncRealign (fun s => s.clk.edge = none) id ∧
  (∀ e, Turns .syncRealign (fun s => s.clk.edge = some e ∧ s.tide.len ≤ s.tide.cycle + s.toRealign e) id) ∧
  (∀ s e, s.live = true → s.clk.edge = some e → s.tide.cycle + s.toRealign e < s.tide.len →
    Gives s .syncRealign ((if (s.toInstant (s.toRealign e)).syncTarget 0 = true ∧ (s.toInstant (s.toRealign e)).tide.cycle ≠ 0
      then (s.toInstant (s.toRealign e)).shortEdge else (s.toInstant (s.toRealign e)).edgeDue).syncActs))

/-- Time of day (R51, R53 to R57, R62, R63): a roll-over carries the excess or takes a staged set, a slew step moves one
nanosecond on one RCLK cycle in 100, a 1PPS edge within its window is measured, stamped, counted and acted on, one outside is
rejected and counted, and 1.5 s without one, from the last or from the enabling, ends the lock. -/
def Obligations.TimeOfDayRowsRollSlewAndDiscipline : Prop :=
  Turns .secondRollover (fun s => s.tide.cycle + s.toRoll < s.tide.len) (fun s => s.advance s.toRoll) ∧
  Effects .secondRollover (fun s => s.tod.ns < 1000000000 ∧ s.tod.slew = 0 ∧ s.quiet = true ∧
      s.tide.cycle + s.toRoll < s.tide.len ∧ (s.bit TIM_STAT 0 = false ∨ s.tod.setSkip ≠ 0))
    (fun s u => u.tod.sec = s.tod.sec + 1 ∧ u.tod.ns = s.tod.ns + 10 * s.toRoll - 1000000000 ∧ u.tod.ns < 10 ∧
      u.tod.setSkip = s.tod.setSkip - 1 ∧ u.tide.cycle = s.tide.cycle + s.toRoll ∧ u.tide.number = s.tide.number ∧
      s.KeepsRegs u []) ∧
  Effects .secondRollover (fun s => s.tod.ns < 1000000000 ∧ s.tod.slew = 0 ∧ s.quiet = true ∧
      s.tide.cycle + s.toRoll < s.tide.len ∧ s.bit TIM_STAT 0 = true ∧ s.tod.setSkip = 0)
    (fun s u => u.tod.sec = s.tod.setSec ∧ u.tod.ns = s.tod.setNs ∧ u.tod.slew = 0 ∧ u.bit TIM_STAT 0 = false ∧
      s.KeepsRegs u [TIM_STAT]) ∧
  Turns .secondRollover (fun s => s.tide.len ≤ s.tide.cycle + s.toRoll) id ∧
  Turns .slewStep (fun s => s.tod.slew ≠ 0 ∧ s.tide.cycle + (100 - s.tod.phase) < s.tide.len)
    (fun s => s.advance (100 - s.tod.phase)) ∧
  Effects .slewStep (fun s => s.tod.slew ≠ 0 ∧ s.tod.phase < 100 ∧ s.tide.cycle + (100 - s.tod.phase) < s.tide.len ∧
      s.quiet = true ∧ s.tod.ns + 10 * (100 - s.tod.phase) + 1 < 1000000000)
    (fun s u => u.tod.slew = s.tod.slew - s.tod.slew.sign ∧ u.tod.phase = 0 ∧
      (u.tod.ns : Int) = (s.tod.ns : Int) + 10 * (100 - s.tod.phase : Nat) + s.tod.slew.sign ∧ u.tod.sec = s.tod.sec ∧
      u.tide.cycle = s.tide.cycle + (100 - s.tod.phase) ∧ s.KeepsRegs u []) ∧
  Turns .slewStep (fun s => s.tod.slew = 0 ∨ s.tide.len ≤ s.tide.cycle + (100 - s.tod.phase)) id ∧
  (∀ f, Turns (.ppsEdge f) (fun s => s.bit TIM_PPS_CTRL 0 = false ∨ s.bit TIM_PPS_CTRL 1 ≠ f ∨ s.ppsPin = false) id) ∧
  (∀ f, Effects (.ppsEdge f)
    (fun s => s.bit TIM_PPS_CTRL 0 = true ∧ s.bit TIM_PPS_CTRL 1 = f ∧ s.ppsPin = true ∧ s.ppsOk = false)
    (fun s u => u.fld TIM_PPS_COUNT 16 16 = satAdd 65535 (s.fld TIM_PPS_COUNT 16 16) 1 ∧ u.tod = s.tod ∧
      s.KeepsRegs u [TIM_PPS_COUNT])) ∧
  (∀ f, Effects (.ppsEdge f)
    (fun s => s.bit TIM_PPS_CTRL 0 = true ∧ s.bit TIM_PPS_CTRL 1 = f ∧ s.ppsPin = true ∧ s.ppsOk = true)
    (fun s u => u.sfld TIM_PPS_ERR 0 32 = toSigned 32 (ofSigned 32 s.ppsError) ∧ u.reg72 TIM_PPS_TS_Q0 = s.now ∧
      u.fld TIM_PPS_COUNT 0 16 = (s.fld TIM_PPS_COUNT 0 16 + 1) % 2 ^ 16 ∧ u.tod.ppsLast = some s.tide.tb ∧
      u.yard.raised = s.yard.raised ++ [6])) ∧
  (∀ s : State, s.tod.setAt ≠ some s.tide.tb → s.tod.adjAt ≠ some s.tide.tb →
    (s.ppsError.natAbs ≤ 1000 * s.fld TIM_PPS_CTRL 8 16 ∨ s.bit TIM_PPS_CTRL 2 = false) →
    s.ppsAct.tod.slew = clampInt (-2147483647) 2147483647 (-s.ppsError) ∧ s.ppsAct.tod.sec = s.tod.sec ∧ s.ppsAct.tod.ns = s.tod.ns) ∧
  (∀ s : State, s.tod.setAt ≠ some s.tide.tb → 1000 * s.fld TIM_PPS_CTRL 8 16 < s.ppsError.natAbs → s.bit TIM_PPS_CTRL 2 = true →
    s.ppsAct.tod.ns = 0 ∧ s.ppsAct.tod.slew = 0 ∧ s.ppsAct.bit TIM_STAT 6 = true ∧
    s.ppsAct.tod.sec = s.tod.sec + (if 500000000 ≤ s.tod.ns then 1 else 0)) ∧
  (∀ s : State, s.tod.setAt = some s.tide.tb → s.ppsAct = { s with tod := { s.tod with ppsSlews := 0 } }) ∧
  (∀ t, Effects .ppsLostTimeout
    (fun s => s.tod.ppsLast.getD s.tod.ppsFrom = t ∧ s.bit TIM_PPS_CTRL 0 = true ∧ 750000000 ≤ (s.tide.tb - t).toNat)
    (fun s u => u.tod.ppsSlews = 0 ∧ u.bit TIM_STAT 5 = true ∧ s.KeepsRegs u [TIM_STAT])) ∧
  (∀ t, Turns .ppsLostTimeout (fun s => s.tod.ppsLast.getD s.tod.ppsFrom = t ∧
    (s.bit TIM_PPS_CTRL 0 = false ∨ (s.tide.tb - t).toNat < 750000000)) id)

/-- The tide ledger (R29, R33, R35, R39, R57, R59, R116, R121, R216, R413, R429, R433): the tide edge advances the tide number,
stamps itself, raises the TIDE event, latches the trips due on it, and then makes the changes of its boundary, the other
actions of cycle 0 and what the Yard delivers; staging closes once, the averaging windows close once, the limits are
evaluated once, and the trips due latch. -/
def Obligations.TideLedgerRowsActInTheirCycles : Prop :=
  (∀ s, s.live = true → ∃ t : State, t = s.toEdge.edgeStart.edgeTrips ∧ t.tide.number = s.tide.number + 1 ∧ t.tide.cycle = 0 ∧
    t.tide.cutoff = false ∧ t.tide.tb = s.tide.tb + BitVec.ofNat 56 (5 * (s.tide.len - s.tide.cycle)) ∧
    t.reg72 TIM_EDGE_Q0 = t.now ∧ 1 ∈ t.yard.raised ∧
    (t.swapEdge.boundary.s.pwr.held = true → Gives s .tideEdge t.swapEdge.boundary.s) ∧
    (t.swapEdge.boundary.s.pwr.held = false → Gives s .tideEdge
      ((State.edgeEnd t false ((foldS (State.listEdge false) (List.range 8) t.swapEdge.boundary.s).knobApply
        t.swapEdge.boundary.all)).answerLines t.swapEdge.boundary.lines).arrive)) ∧
  (∀ (s prev : State) (short : Bool), (State.edgeEnd prev short s).tide.windowClosed = false) ∧
  (∀ r, Effects (.stagingCutoff r) (fun s => s.tide.cutoff = false)
    (fun s u => u.tide.cutoff = true ∧ u.tide.reach = r ∧ u.ust.writes = s.ust.writes ∧ u.ust.guards = s.ust.guards ∧
      u.tide.number = s.tide.number)) ∧
  (∀ r, Turns (.stagingCutoff r) (fun s => s.tide.cutoff = true) (fun s => s.toCycle (s.tide.len - 10))) ∧
  (∀ l, Effects (.averagingWindowClose l) (fun s => s.tide.windowClosed = false) (fun _ u => u.tide.windowClosed = true)) ∧
  (∀ l, Turns (.averagingWindowClose l) (fun s => s.tide.windowClosed = true) (fun s => s.toCycle (s.tide.len - 12))) ∧
  Turns .limitEvaluation (fun s => s.prt.saved.isSome = true) (·.toCycle 1) ∧
  Turns .limitEvaluation (fun s => s.prt.saved = none) (fun s => (s.toCycle 1).evalLimits) ∧
  Effects .protectionLatchCycle (fun _ => True) (fun _ u => u.prt.due = .replicate 8 0 ∧ u.prt.rig = false)

/-- The power rows (R172, R173, R176, R180, R181, R193): a STARTING domain enters ON at a tide edge once its time has passed and
the domains it needs are ON, a DRAINING one goes OFF once its work is done, at the latest at the second edge after its
commit, and a domain that does not start goes OFF with those that wait for it. -/
def Obligations.PowerRowsEnterOnAndOff : Prop :=
  (∀ d, ActsAtEdge (.domainOnEntry d)
    (fun t => t.dom d = 1 ∧ startTime d ≤ t.sinceCommit d ∧ ∀ e ∈ domNeeds d, t.dom e = 2)
    (fun s => (((s.setDom d 2).domReset d).powerSettle).powerDone PWR_DONE d true)) ∧
  (∀ d, ActsAtEdge (.domainOffEntry d)
    (fun t => t.dom d = 3 ∧ t.sinceCommit d ≠ 0 ∧ t.drained d = true) (·.goOff d)) ∧
  (∀ d s, s.live = true → s.tide.cycle = 0 →
    (s.dom d = 3 → 2 ≤ vget s.pwr.edges (domNum d) → Gives s (.drainLimitReached d) (s.goOff d)) ∧
    ((s.dom d ≠ 3 ∨ vget s.pwr.edges (domNum d) < 2) → Gives s (.drainLimitReached d) s)) ∧
  (∀ d, ActsAtEdge (.domainStartFail d) (fun t => t.dom d = 1 ∧ 4 * startTime d ≤ t.sinceCommit d) (·.startFail d)) ∧
  (∀ (s : State) d on, d ≠ .aon → (s.powerDone PWR_DONE d on).bit PWR_DONE (domNum d) = true ∧
    (s.powerDone PWR_FAIL d on).bit PWR_FAIL (domNum d) = true ∧ (s.powerDone PWR_DONE d on).reg PWR_STATE = s.reg PWR_STATE)

/-- Resets (R182 to R186, R196, R609): each source asserts the unit reset, which puts every register at its reset value and
empties the ports; a second one adds to the causes; the release publishes the causes and samples BOOTHOST, and HOST is ON
where it was high; a HOST-only PERST# leaves the unit running; VDDQ takes the Dock memory with it, and TAP keeps its own. -/
def Obligations.ResetRowsResetAndRelease : Prop :=
  (∀ x ∈ [(Instr.powerOnReset, 0), (.resetNAssert, 1)], ∀ s, ∃ u, exec x.1 s = .next u ∧ u.pwr.held = true ∧
    u.pwr.causes = (if s.pwr.held then s.pwr.causes else 0) ||| 2 ^ x.2 ∧
    (∀ off, off ≠ PWR_RST_CAUSE → u.reg off = resetValue off) ∧ u.reg PWR_RST_CAUSE = s.reg PWR_RST_CAUSE ∧
    u.cmd.uart.queue = [] ∧ u.cmd.spi.queue = [] ∧ u.tide.number = 0 ∧ u.tide.tb = 0 ∧ u.store.words = s.saveCut.store.words) ∧
  (∀ s, s.pwr.held = false → s.on .host = true → s.bit PWR_RST_CFG 0 = false → ∃ u, exec .perstAssert s = .next u ∧
    u.pwr.held = true ∧ u.pwr.causes = 4 ∧ ∀ off, off ≠ PWR_RST_CAUSE → u.reg off = resetValue off) ∧
  (∀ s, s.live = true → s.on .host = true → s.bit PWR_RST_CFG 0 = true → s.hostReset.bit PWR_RST_CAUSE 8 = true ∧
    s.hostReset.pwr.perst = true ∧ s.hostReset.cmd.mbox = PortSt.reset ∧ s.hostReset.fry = FrySt.reset ∧
    s.hostReset.bell.msixEnable = false ∧ s.hostReset.pwr.held = false ∧
    exec .perstAssert s = .next (if s.hostReset.live = true then s.hostReset.settle else s.hostReset)) ∧
  (∀ s, s.pwr.held = true ∨ s.on .host = false →
    exec .perstAssert s = .next (if s.live = true then s.settle else s)) ∧
  (∀ s, s.live = true → ∃ u, Gives s .perstRelease u ∧ u.pwr.perst = false ∧ u.regs = s.regs) ∧
  (∀ b s, s.pwr.held = true → s.tide.rclk = true → ∃ u, Gives s (.resetRelease b) u ∧ u.pwr.held = false ∧ u.pwr.causes = 0 ∧
    (s.pwr.causes < 16 → u.fld PWR_RST_CAUSE 0 8 = s.pwr.causes ∧
      u.bit PWR_RST_CAUSE 8 = (s.pwr.causes % 2 = 0 && s.bit PWR_RST_CAUSE 8)) ∧ u.regN PWR_STRAP = b2n b ∧ (b = true → u.dom .host = 2) ∧
    (b = false → u.dom .host = s.dom .host)) ∧
  (∀ b s, s.pwr.held = true → s.tide.rclk = false → exec (.resetRelease b) s = .next s) ∧
  (∀ s, s.pwr.held = false → exec .vddqFall s = .next ((s.memLoseAll 0).memLoseAll 1)) ∧
  (∀ s, s.pwr.held = true → exec .vddqFall s = .next s) ∧
  (∀ (ir : BitVec 8) s, ∃ u, exec (.tapInstructionUpdate ir) s = .next u ∧ u.pwr.tap = ir.toNat ∧ u.regs = s.regs)

/-- The PCIe link rows (R455, R461, R462, R472, R496, R500 to R505): the link comes up only with HOST ON and PERST# released,
shows its speed and width, and its loss faults the rings; D3hot, L1, the MSI-X settings and the mask of a vector follow the
link partner, and a vector unmasked sends the message it held. -/
def Obligations.LinkRowsFollowTheLinkPartner : Prop :=
  (∀ sp w s, s.live = true → s.on .host = true → s.pwr.perst = false → ∃ t : State,
    t.regN FRY_LINK = sp.val + w.val * 16 + 2 ^ 10 ∧ s.KeepsRegs t [FRY_LINK] ∧ Gives s (.linkUp sp w) t.kickAll) ∧
  (∀ sp w, Turns (.linkUp sp w) (fun s => s.on .host = false ∨ s.pwr.perst = true) id) ∧
  (∀ s, s.live = true → s.bit FRY_LINK 10 = true → ∃ t : State, t.regN FRY_LINK = 0 ∧ t.fry.reads = [] ∧
    Gives s .linkDown (foldS State.ringLink (List.range 8) t)) ∧
  Turns .linkDown (fun s => s.bit FRY_LINK 10 = false) id ∧
  Effects (.pciePowerStateChange true) (fun s => s.on .host = true ∧ s.bit FRY_LINK 10 = true)
    (fun s u => u.bit FRY_LINK 9 = true ∧ u.bit FRY_LINK 8 = false ∧ u.pcieUp = false ∧ s.KeepsRegs u [FRY_LINK]) ∧
  (∀ s, s.live = true → s.on .host = true → s.bit FRY_LINK 10 = true → ∃ t : State, t.bit FRY_LINK 9 = false ∧
    t.pcieUp = true ∧ Gives s (.pciePowerStateChange false) (foldS State.ringFill (List.range 8) t.kickAll)) ∧
  (∀ d, Turns (.pciePowerStateChange d) (fun s => s.on .host = false ∨ s.bit FRY_LINK 10 = false) id) ∧
  Effects .aspmL1Entry (fun s => s.on .host = true ∧ s.bit FRY_LINK 10 = true)
    (fun s u => u.bit FRY_LINK 8 = true ∧ s.KeepsRegs u [FRY_LINK]) ∧
  Turns .aspmL1Entry (fun s => s.on .host = false ∨ s.bit FRY_LINK 10 = false) id ∧
  (∀ e m, Effects (.msixConfigChange e m) (fun s => s.on .host = true ∧ s.bit FRY_LINK 10 = true)
    (fun s u => u.bell.msixEnable = e ∧ u.bell.busMaster = m ∧ u.regs = s.regs)) ∧
  (∀ e m, Turns (.msixConfigChange e m) (fun s => s.on .host = false ∨ s.bit FRY_LINK 10 = false) id) ∧
  (∀ v, Turns (.msixVectorUnmask v) (fun s => s.pcieUp = false) id ∧
    Effects (.msixVectorUnmask v) (fun s => s.pcieUp = true ∧ ∀ m ∈ s.bell.msgs, m.vec ≠ v.val)
      (fun s u => u.masked v.val = false ∧ u.bell = s.bell ∧ s.KeepsRegs u [FRY_LINK, MSIX_TABLE (4 * v.val + 3)]) ∧
    Effects (.msixVectorUnmask v) (fun s => s.pcieUp = true ∧ s.msiOk = true ∧ ∃ m ∈ s.bell.msgs, m.vec = v.val)
      (fun s u => u.bell.sentVec = some v.val ∧ u.bell.sentN = s.bell.sentN + 1))

/-! ### Outputs and pins -/

/-- The rows that drive outputs in a tide, and the pins (R117, R128, R131, R132, R138, R139, R142, R384, R390, R393, R394, R397,
R400 to R402, R417, R423): at cycle 1 the setpoint in force is formed and a missing sample counted and raised, φ is sampled three
cycles ahead of the write, a loop not yet
done in the tide writes its output once, MANOUT within its limits in MANUAL, the upper or lower limit in the two-point law
outside its band, which its registers show on the next edge; a moored loop writes nothing; a changed value of a port that no loop drives is sent; LDAC pulses in
CYCLE mode. A change of the level another driver gives a pad registers after INV and raises the pin's event; a pin in its
park window registers nothing until the new functions take it, which is flagged, with the level found there. A pin parks
as PARK has it, carries its GPO bit through INV, and is pulled down in a reset; REFGOOD is low while REFIN is absent. -/
def Obligations.OutputAndPinRowsWriteAndRegister : Prop :=
  ((∀ n : Fin 8, Turns (.loopOutputWrite n)
       (fun s => s.on .ctrl = false ∨ (s.loop (s.lead n)).mode = 0 ∨ (s.loop (s.lead n)).done = true) id) ∧
     (∀ (n : Fin 8) s, s.live = true → s.on .ctrl = true → (s.loop (s.lead n)).mode ≠ 0 → (s.loop (s.lead n)).done = false →
       ∃ out t, (s.toCycle (s.writeCycle (s.lead n))).loopTide (s.lead n) = (out, t) ∧
         Gives s (.loopOutputWrite n) (match out with
           | some v => (maskBits 8 (t.fld (SLC_L_PORTS (s.lead n)) 0 8)).foldl (fun u p => u.portWrite v p) t
           | none => t)) ∧
     (∀ (s : State) (n : Fin 8), ∀ k ∈ s.unit n, ((s.loopTide n).2.loop k).done = true) ∧
     (∀ (s : State) (n : Fin 8), s.mayWrite n = false → (s.loopTide n).1 = none ∧
       (∀ k, (s.loopTide n).2.reg (SLC_L_OUT k) = s.reg (SLC_L_OUT k)) ∧
       ∀ x ∈ (s.loopTide n).2.slc.shown, x ∈ s.slc.shown ∨ ∀ k, x.1 ≠ SLC_L_OUT k) ∧
     (∀ (s : State) (n : Fin 8), s.paired n = false → (s.loop n).mode = 1 → s.mayWrite n = true →
       (s.loopTide n).1 = some (s.outClamp n (s.loop n).man) ∧
       (s.loopTide n).2.slcShow.sfld (SLC_L_OUT n) 0 20 = s.outClamp n (s.loop n).man) ∧
     (∀ s : State, s.edgeMove.slc.shown = []) ∧
     (∀ (s : State) (n : Fin 8) (u : State), (s.loop n).mode = 2 → u = s.loopFirst n →
       u.regN (SLC_L_SPNOW n) = ofSigned 16 (s.spNow n) ∧
       ((s.loop n).got = true → u.fld (SLC_L_STAT n) 8 8 = 0 ∧ u.yard = s.yard ∧ s.KeepsRegs u [SLC_L_STAT n, SLC_L_SPNOW n]) ∧
       ((s.loop n).got = false → u.yard.raised = s.yard.raised ++ [72 + n.val] ∧
         u.fld (SLC_L_STAT n) 8 8 = (if s.slc.short then s.fld (SLC_L_STAT n) 8 8 else min 255 (s.fld (SLC_L_STAT n) 8 8 + 1)) ∧
         (s.bit (SLC_L_CFG (s.lead n)) 1 = true → u.bit SLC_EVT n = true ∧
           u.regN (SLC_L_MISSED n) = satAdd 0xFFFFFFFF (s.regN (SLC_L_MISSED n)) 1) ∧
         (s.bit (SLC_L_CFG (s.lead n)) 1 = false → u.bit SLC_EVT (8 + n) = true ∧
           u.regN (SLC_L_STALE n) = satAdd 0xFFFFFFFF (s.regN (SLC_L_STALE n)) 1))) ∧
     (∀ (s : State) (n : Fin 8), s.ripples n = true → s.tide.cycle + 3 = s.writeCycle (s.lead n) →
       ((s.phiTake n).loop n).phi = some (s.phase n (s.fld (SLC_L_PORTS (s.lead n)) 0 8) 0)) ∧
     (∀ (s : State) (n : Fin 8), s.paired n = false → (s.loop n).mode = 2 → s.bit (SLC_L_CFG n) 0 = true → s.mayWrite n = true →
       (s.bit (SLC_L_CFG n) 1 = false ∨ (s.loop n).got = true) →
       (16 * (s.fld (SLC_L_BAND n) 0 15 : Int) < (s.errNow n).1 → (s.loopTide n).1 = some (s.sfld (SLC_L_OUTMAX n) 0 20)) ∧
       ((s.errNow n).1 < -(16 * (s.fld (SLC_L_BAND n) 0 15 : Int)) → (s.loopTide n).1 = some (s.sfld (SLC_L_OUTMIN n) 0 20))) ∧
     (∀ (k : Fin 8) s t, s.live = true → t = s.toCycle 10 →
       (s.on .ctrl = false ∨ (s.slipPort k).value = false → Gives s (.slpValueSend k) s) ∧
       (s.on .ctrl = true → (s.slipPort k).value = true → ∃ u, Gives s (.slpValueSend k) u ∧ (u.slipPort k).value = false ∧
         (t.portMode k = 1 → t.driver k = none → (t.slipPort k).held = false →
           u.slip = ((t.modPort k fun x => { x with value := false }).reqFrame k (t.sfld (SLP_P_VALUE k) 0 20)).slip) ∧
         (t.portMode k ≠ 1 ∨ t.driver k ≠ none ∨ (t.slipPort k).held = true → (u.slipPort k).pend = (t.slipPort k).pend))) ∧
     (∀ s t, s.live = true → t = s.toCycle (s.fld SLP_CFG 16 10) →
       (t.on .ctrl = false ∨ t.fld SLP_CFG 9 2 ≠ 2 ∨ t.slip.ended = false → Gives s .ldacCyclePulse t) ∧
       (t.on .ctrl = true → t.fld SLP_CFG 9 2 = 2 → t.slip.ended = true → ∃ u, Gives s .ldacCyclePulse u ∧
         (t.inFlight = false → u.slip.pulses = t.slip.pulses + 1 ∧ u.slip.ended = false ∧ u.slip.late = false) ∧
         (t.inFlight = true → u.slip.pulses = t.slip.pulses ∧ u.slip.late = true ∧
           u.regN SLP_LDAC_LATE = satAdd 0xFFFFFFFF (t.regN SLP_LDAC_LATE) 1)))) ∧
  ((∀ n lv s, s.live = false → exec (.mfPinLevelChange n lv) s = .next (s.setPad n lv)) ∧
     (∀ (n : Fin 32) lv, Turns (.mfPinLevelChange n lv)
         (fun s => s.parked n = true ∨ (s.drivenLevel n).isSome = true ∨ s.pinLevel n = (lv != s.inverts n))
         (fun s => (s.setPad n lv).uartKick)) ∧
     (∀ (n : Fin 32) lv s, s.live = true → s.parked n = false → s.drivenLevel n = none → s.pinLevel n ≠ (lv != s.inverts n) →
       ∃ u : State, Gives s (.mfPinLevelChange n lv) u.uartKick ∧ u.pinLevel n = (lv != s.inverts n) ∧
         (∀ m : Fin 32, m ≠ n → u.pinLevel m = s.pinLevel m) ∧ u.yard.raised = s.yard.raised ++ [32 + n.val] ∧ u.regs = s.regs) ∧
     (∀ (pads : BitVec 32) s t, s.live = true → t = s.toTakeover → ∃ u, Gives s (.pinSwitchTakeover pads) u ∧ u.yard.park = 0 ∧
       (∀ n : Fin 32, t.parked n = true → u.bit PMX_SWITCHED n = true ∧
         u.pinLevel n = (u.drivenLevel n).getD ((bits pads.toNat n 1 == 1) != t.inverts n)) ∧
       (∀ n : Fin 32, t.parked n = false → u.bit PMX_SWITCHED n = t.bit PMX_SWITCHED n ∧ u.pinLevel n = t.pinLevel n) ∧
       t.KeepsRegs u [PMX_SWITCHED]) ∧
     (∀ (s : State) (n : Fin 32), s.tapHolds = false → s.pwr.held = true → s.pad n = .pullDown) ∧
     (∀ (s : State) (n : Fin 32), s.tapHolds = false → s.pwr.held = false → (s.parked n = true ∨ s.fld (PMX_PIN n) 0 4 = 0) →
       (s.fld (PMX_PIN n) 12 2 = 0 → s.pad n = .pullDown) ∧ (s.fld (PMX_PIN n) 12 2 = 1 → s.pad n = .pullUp) ∧
       (s.fld (PMX_PIN n) 12 2 = 2 → s.pad n = .low) ∧ (s.fld (PMX_PIN n) 12 2 = 3 → s.pad n = .high)) ∧
     (∀ (s : State) (n : Fin 32), s.tapHolds = false → s.pwr.held = false → s.parked n = false → s.fld (PMX_PIN n) 0 4 = 2 →
       s.pad n = .drive (s.bit PMX_GPO n != s.bit (PMX_PIN n) 16)) ∧
     (∀ s : State, s.refgood = if s.tide.rclk then .hiZ else .low))

/-! ### Ports, lines and aborts -/

/-- Bytes of the links (R72 to R75, R78, R96, R112, R129, R131): a received UART character or SPI byte reaches the assembler, but not
over a pin in its park window, the status byte comes first in an SPI frame and the output after it, a framing error or a
partial byte is counted, the UART transmitter follows RTS/CTS and its output, CTS follows the queue, and of the bit rates
whose responses have gone the last is in use. -/
def Obligations.LinkRowsMoveBytes : Prop :=
  (∀ b, Effects (.uartByteReceived b true) (fun s => s.rxdParked = false)
      (fun s u => u.cmd.uart = { s.cmd.uart with linkErr := true } ∧
        u.regN (CMD_LINKERR 0) = satAdd 0xFFFFFFFF (s.regN (CMD_LINKERR 0)) 1 ∧ s.KeepsRegs u [CMD_LINKERR 0]) ∧
    Turns (.uartByteReceived b false) (fun s => s.rxdParked = false) (·.rxByte 0 b) ∧
    ∀ bad, Turns (.uartByteReceived b bad) (fun s => s.rxdParked = true) id) ∧
  (∀ h, Effects (.uartRtsChange h) (fun _ => True) (fun s u => u.cmd.rtsHigh = h ∧ u.cmd.uart = s.cmd.uart ∧
    (s.pinOf 12 2 = none → u.uartPaused = (s.bit (CMD_PCFG 0) 1 && h)) ∧
    u.cmd.sending = (s.cmd.sending || (!u.uartPaused && !s.cmd.uart.out.isEmpty)))) ∧
  (∀ h s, s.live = false → exec (.uartRtsChange h) s = .next { s with cmd := { s.cmd with rtsHigh := h } }) ∧
  Effects .uartCharacterSent (fun s => s.cmd.sending = true) (fun s u => u.cmd.uart.out = s.cmd.uart.out.drop 1 ∧
    u.cmd.sending = (!s.uartPaused && !(s.cmd.uart.out.drop 1).isEmpty) ∧ u.regs = s.regs) ∧
  Turns .uartCharacterSent (fun s => s.cmd.sending = false) id ∧
  Turns .uartRateApply (fun s => ∀ r ∈ s.cmd.rates, r.place ≠ 0 ∨ r.left ≠ 0) id ∧
  (∀ before last, Effects .uartRateApply
    (fun s => s.cmd.rates.filter (fun r => r.place = 0 && r.left = 0) = before ++ [last])
    (fun s u => u.cmd.uartDiv = last.div ∧ u.regs = s.regs ∧
      u.cmd.rates = s.cmd.rates.filter fun r => !(r.place = 0 && r.left = 0))) ∧
  (∀ s : State, s.uartCts = (s.bit (CMD_PCFG 0) 1 && decide (15 ≤ s.cmd.uart.lines))) ∧
  (∀ h, Effects (.spiCsFall h) (fun _ => True) (fun s u => u.cmd.spiInFrame = true ∧ u.cmd.spiMode3 = h ∧
    u.cmd.spiStatus = some s.spiStatusByte ∧ u.cmd.spi = s.cmd.spi ∧ u.regs = s.regs)) ∧
  (∀ m, Turns (.spiByteTransfer m) (fun s => s.cmd.spiInFrame = false) id) ∧
  (∀ m b s, s.live = true → s.cmd.spiInFrame = true → s.cmd.spiStatus = some b →
    Gives s (.spiByteTransfer m) (({ s with cmd := { s.cmd with spiStatus := none, miso := b } } : State).rxByte 1 m)) ∧
  (∀ m s, s.live = true → s.cmd.spiInFrame = true → s.cmd.spiStatus = none →
    Gives s (.spiByteTransfer m) (({ (s.outPop 1 1) with cmd := { (s.outPop 1 1).cmd with
      miso := s.cmd.spi.out.headD 0 } } : State).rxByte 1 m)) ∧
  (∀ cut, Turns (.spiCsRise cut) (fun s => s.cmd.spiInFrame = false) id ∧
    Effects (.spiCsRise cut) (fun s => s.cmd.spiInFrame = true) (fun s u => u.cmd.spiInFrame = false ∧ u.cmd.spiStatus = none ∧
      u.cmd.spi = s.cmd.spi ∧ u.regN (CMD_LINKERR 1) = if cut then satAdd 0xFFFFFFFF (s.regN (CMD_LINKERR 1)) 1
        else s.regN (CMD_LINKERR 1)))

/-- The line assembler (R78 to R81, R97, R100, R108, R112): a printing character is stored and echoed, 0x08 and 0x7F take the last
one back, a tab stores a space, the other control characters are dropped, the 256th character marks the line too long, and
a terminator queues the line; where 16 lines wait and none frees its slot on that edge, the line is discarded as the edge
ends, with an ER 102 owed; 0x18 and a line of ABORT alone take
an abort at once. -/
def Obligations.AssemblerFollowsTheBytes : Prop :=
  (∀ (s : State) p, s.rxByte p 0x18 = (s.setPort p { s.port p with lastCR := false }).takeAbort) ∧
  (∀ (s : State) p b, b ≠ 0x18 → s.endsAbort p b = true →
    s.rxByte p b = (s.setPort p { s.port p with lastCR := b == 0x0D }).takeAbort) ∧
  (∀ (s : State) p (b : Byte), 0x20 ≤ b.toNat → b.toNat < 0x7F → (s.port p).tooLong = false → (s.port p).chars.length < 255 →
    ∃ u : State, (u.port p).chars = (s.port p).chars ++ [b] ∧ (u.port p).queue = (s.port p).queue ∧ s.rxByte p b = u.echo p [b]) ∧
  (∀ (s : State) p, (s.port p).tooLong = false → (s.port p).chars.length < 255 → ∃ u : State,
    (u.port p).chars = (s.port p).chars ++ [0x20] ∧ s.rxByte p 0x09 = u.echo p [0x20]) ∧
  (∀ (s : State) p, ∀ b ∈ [(0x08 : Byte), 0x7F], (s.port p).chars ≠ [] → ∃ u : State,
    (u.port p).chars = (s.port p).chars.dropLast ∧ s.rxByte p b = u.echo p [0x08, 0x20, 0x08]) ∧
  (∀ (s : State) p (b : Byte), b.toNat < 0x20 → b ∉ [(0x08 : Byte), 0x09, 0x0A, 0x0D, 0x18] →
    s.rxByte p b = s.setPort p { s.port p with lastCR := false }) ∧
  (∀ (s : State) p (b : Byte), (0x20 ≤ b.toNat ∧ b.toNat ≠ 0x7F) ∨ b = 0x09 → (s.port p).tooLong = false →
    (s.port p).chars.length = 255 → ((s.rxByte p b).port p).tooLong = true ∧ ((s.rxByte p b).port p).chars = (s.port p).chars ∧
    ((s.rxByte p b).port p).out = (s.port p).out) ∧
  (∀ (s : State) p (b : Byte), b ∉ [(0x0A : Byte), 0x0D, 0x18] → (s.port p).tooLong = true →
    ((s.rxByte p b).port p).tooLong = true ∧ ((s.rxByte p b).port p).chars <+: (s.port p).chars ∧
    ((s.rxByte p b).port p).queue = (s.port p).queue) ∧
  (∀ (s : State) p, (s.port p).lastCR = true →
    s.rxByte p 0x0A = s.setPort p { s.port p with lastCR := false }) ∧
  (∀ (s : State) p, s.endsAbort p 0x0D = false → (s.port p).tooLong = false → (s.port p).lines < 16 →
    ((s.port p).linkErr = true ∨ (s.port p).chars.all (· == 0x20) = false) →
    ((s.rxByte p 0x0D).port p).queue = (s.port p).queue ++ [⟨none, .text (s.port p).chars (s.port p).linkErr, true⟩] ∧
    ((s.rxByte p 0x0D).port p).chars = [] ∧ ((s.rxByte p 0x0D).port p).lastCR = true) ∧
  (∀ (s : State) p, s.endsAbort p 0x0D = false → (s.port p).tooLong = false → 16 ≤ (s.port p).lines →
    ((s.port p).linkErr = true ∨ (s.port p).chars.all (· == 0x20) = false) →
    ((s.rxByte p 0x0D).port p).queue = (s.port p).queue ∧ ((s.rxByte p 0x0D).port p).chars = [] ∧
    ((s.rxByte p 0x0D).port p).turned = (s.port p).turned ++ [⟨none, .text (s.port p).chars (s.port p).linkErr, true⟩]) ∧
  (∀ (s : State) p, (s.port p).turned ≠ [] → ((s.dropTurned p).port p).turned = [] ∧ ((s.dropTurned p).port p).owed = true ∧
    ((s.dropTurned p).port p).queue = (s.port p).queue ∧
    (s.dropTurned p).regN (CMD_DROP p) = satAdd 0xFFFFFFFF (s.regN (CMD_DROP p)) (s.port p).turned.length) ∧
  (∀ (s : State) p, (s.port p).turned = [] → s.dropTurned p = s) ∧
  (∀ (s : State) p, (s.port p).tooLong = false → (s.port p).linkErr = false → (s.port p).chars.all (· == 0x20) = true →
    ((s.rxByte p 0x0D).port p).queue = (s.port p).queue ∧ ((s.rxByte p 0x0D).port p).chars = []) ∧
  (∀ (s : State) p, (s.port p).tooLong = true → ∃ l : Line, l.st = .answered (.er 103 true) ∧ l.slot = false ∧
    ((s.rxByte p 0x0D).port p).queue = (s.port p).queue ++ [l] ∧ (s.rxByte p 0x0D).fld (CMD_ERR p) 0 10 = 103)

/-- A port's oldest unparsed line (R38, R39, R82, R83, R88 to R92, R107, R112): one hit by a link error or malformed is
answered with its error, one of queries only is answered, at once where no line waits ahead of it, and one with commands is
staged for its boundary; a line that is a tag alone is answered OK. -/
def Obligations.ParsedLinesAreAnsweredOrStaged : Prop :=
  (∀ p, Turns (.lineParseComplete p) (fun s => ∀ l ∈ (s.port p).queue, l.isText = false) id) ∧
  (∀ p s before l after cs bad, s.live = true → (s.port p).queue = before ++ l :: after → (∀ x ∈ before, x.isText = false) →
    l.st = .text cs bad → ∃ u, Gives s (.lineParseComplete p) u ∧
    (bad = true → (u.port p).queue = before ++ { l with tag := tagOf cs, st := .answered (.er 101 true) } :: after ∧
      u.regN (CMD_ERR p) = 101 + 2 ^ 10) ∧
    ∀ tag, bad = false →
    (∀ code unit arg tagged, parseLine forms p cs = (tag, .err code unit arg tagged) →
      (u.port p).queue = before ++ { l with tag := tag, st := .answered (.er code tagged) } :: after ∧
      u.regN (CMD_ERR p) = code % 1024 + unit % 32 * 2 ^ 10 + arg % 32 * 2 ^ 15) ∧
    (parseLine forms p cs = (tag, .bare) →
      (u.port p).queue = before ++ { l with tag := tag, st := .answered (.ok []) } :: after) ∧
    (∀ us, parseLine forms p cs = (tag, .units us) →
      (s.allQueries p us = true → before = [] →
        (u.port p).queue = { l with tag := tag, st := .answered (.ok (answerUnits p us s).1) } :: after) ∧
      (s.allQueries p us = true → before ≠ [] →
        (u.port p).queue = before ++ { l with tag := tag, st := .queries us } :: after ∧ u.regs = s.regs) ∧
      (s.allQueries p us = false →
        (u.port p).queue = before ++ { l with tag := tag, st := .staged us s.lateNow s.tide.tb s.ust.serial } :: after ∧
        u.ust.serial = s.ust.serial + 1 ∧ u.regs = s.regs))) ∧
  (∀ p tag s, Takes s p →
    (tag ≤ 65535 → Gives s (.bareTag p tag) (s.enqueue p ⟨some tag, .answered (.ok []), true⟩)) ∧
    (65535 < tag → ∃ u, Gives s (.bareTag p tag) u ∧ u.regN (CMD_ERR p) = 104 ∧
      (u.port p).queue = (s.port p).queue ++ [⟨none, .answered (.er 104 false), true⟩]))

/-- Placing and aborts (R72, R91 to R93, R97, R98, R100 to R102, R108, R113, R495): the response at the head of a queue is appended to the
output where it finds room, with an owed ER 102 behind it, and frees its slot, which a line that found none on this edge takes;
the oldest pending asynchronous line is
appended on a line of its own; neither happens while an abort is in progress, nor on a port that is not there. An abort
empties every port of its partial line, waiting lines and owed ER 102, merges into one in progress, lets the Ferry record
it, and at its end !ABORTED stands on every port and ABORT_DONE is set. -/
def Obligations.ResponsesAreAppendedAndAbortsEmptyPorts : Prop :=
  ((∀ p s tag r slot rest bs, s.live = true → s.cmd.abort = none → s.portUp p = true →
       (s.port p).queue = ⟨tag, .answered r, slot⟩ :: rest →
       bs = respText tag r ++ (if (s.port p).owed && slot then erText 102 ++ crlf else []) →
       ((s.port p).out.length + bs.length ≤ 1024 → ∃ u : State,
         Gives s (.responsePlaced p) ((u.readHead p).cond slot (·.takeTurned p)) ∧ (u.port p).turned = (s.port p).turned ∧
         (u.port p).queue = rest ∧ (u.port p).out = (s.port p).out ++ bs ∧ (u.port p).owed = ((s.port p).owed && !slot)) ∧
       (1024 < (s.port p).out.length + bs.length → Gives s (.responsePlaced p) s)) ∧
     (∀ (s : State) p l t, (s.port p).turned = l :: t → s.bit (CMD_PCFG p) 0 = false →
       ((s.takeTurned p).port p).queue = (s.port p).queue ++ [l] ∧ ((s.takeTurned p).port p).turned = t) ∧
     (∀ (s : State) p, (s.port p).turned = [] → s.takeTurned p = s) ∧
     (∀ p, Turns (.responsePlaced p) (fun s => s.cmd.abort.isSome = true ∨ s.portUp p = false ∨ (s.port p).queue = [] ∨
       ∃ l rest, (s.port p).queue = l :: rest ∧ ∀ r, l.st ≠ .answered r) id) ∧
     (∀ p s a rest bs, s.live = true → s.cmd.abort = none → s.portUp p = true → (s.port p).pendingAsync = a :: rest →
       s.bit (CMD_PCFG p) 0 = false → bs = (if (s.port p).atLineStart then [] else crlf) ++ a.text →
       ((s.port p).out.length + bs.length ≤ 1024 → ∃ u, Gives s (.asyncLineEmit p) u ∧ (u.port p).pendingAsync = rest ∧
         (u.port p).out = (s.port p).out ++ bs ∧ (u.port p).queue = (s.port p).queue) ∧
       (1024 < (s.port p).out.length + bs.length → Gives s (.asyncLineEmit p) s)) ∧
     (∀ p s a rest bs, s.live = true → s.cmd.abort = none → s.portUp p = true → (s.port p).pendingAsync = a :: rest →
       s.bit (CMD_PCFG p) 0 = true → bs = (if (s.port p).atLineStart then [] else crlf) ++ a.text ++
         (s.port p).chars.map (fun c => if c.toNat < 0x7F then c else 0x3F) → (s.port p).out.length + bs.length ≤ 1024 →
       ∃ u, Gives s (.asyncLineEmit p) u ∧ (u.port p).pendingAsync = rest ∧ (u.port p).out = (s.port p).out ++ bs) ∧
     (∀ p, Turns (.asyncLineEmit p)
       (fun s => s.cmd.abort.isSome = true ∨ s.portUp p = false ∨ (s.port p).pendingAsync = []) id)) ∧
  (Turns .abortNLow (fun _ => True) State.takeAbort ∧
     (∀ (s : State) p, ((s.takeAbort).port p).queue = [] ∧ ((s.takeAbort).port p).chars = [] ∧
       ((s.takeAbort).port p).tooLong = false ∧ ((s.takeAbort).port p).owed = false) ∧
     (∀ s : State, s.takeAbort.cmd.abort = some (s.cmd.abort.getD s.tide.number) ∧ s.takeAbort.cmd.rates = []) ∧
     (∀ t0, Turns .abortDrained (fun s => s.cmd.abort = some t0) (·.ferryAbortDone t0)) ∧
     Turns .abortDrained (fun s => s.cmd.abort = none) id ∧
     (∀ t0, Effects .abortedEmit (fun s => s.cmd.abort = some t0) (fun s u => u.cmd.abort = none ∧ u.bit BEL_SYS_EVT 0 = true ∧
       ∀ p, (s.portUp p = true → s.bit (CMD_PCFG p) 0 = false → (u.port p).out = (s.port p).out ++
           (if (s.port p).atLineStart then [] else crlf) ++ (⟨.aborted, t0, [], 0, 0⟩ : AsyncLine).text) ∧
         (s.portUp p = false → (u.port p).out = (s.port p).out))) ∧
     Turns .abortedEmit (fun s => s.cmd.abort = none) id)

/-! ### Berths and the Pilot -/

/-- The converter rows (R181, R200 to R208, R212 to R216, R221): a quay word of a channel that runs, or drains, advances its index
by four and joins the tide sample, uncalibrated codes are themselves, an over-range sample of a Berth of a running channel taints eleven ACLK cycles
of it and twenty-five of its partner's, and counts once for a run of cycles, and skew rounds and full matching blocks update what calibration
will apply. -/
def Obligations.BerthRowsCountCorrectAndTaint : Prop :=
  (∀ ch cyc xs, Turns (.quayWordHandedOver ch cyc xs) (fun s => s.delivers ch = false ∨ xs.length ≠ 4) id ∧
    Effects (.quayWordHandedOver ch cyc xs) (fun s => s.delivers ch = true ∧ xs.length = 4)
      (fun s u => (vget u.brt.chans ch).idx = (vget s.brt.chans ch).idx + 4 ∧
        (vget u.brt.chans ch).accN = (vget s.brt.chans ch).accN + (4 - min 4 (vget s.brt.chans ch).ahead))) ∧
  (∀ x : Int, -32768 ≤ x → x ≤ 32767 → correct 0 0 x = (x, false)) ∧
  (∀ ofs gain x, -32768 ≤ (correct ofs gain x).1 ∧ (correct ofs gain x).1 ≤ 32767) ∧
  (∀ (b : Fin 8) cyc pos, Turns (.berthOverRange b cyc pos) (fun s => s.converts b = false) id ∧
    Effects (.berthOverRange b cyc pos) (fun s => s.converts b = true)
      (fun s u => u.overAt b cyc = some pos ∧ (∀ c, cyc ≤ c → c ≤ cyc + 10 → u.ovrAt b c = true) ∧
        (∀ c, cyc ≤ c → c ≤ cyc + 24 → u.ovrAt (b.val ^^^ 1) c = true) ∧
        (s.isOver b cyc = true ∨ s.isOver b (cyc + 1) = true ∨ (cyc ≠ 0 ∧ s.isOver b (cyc - 1) = true) → u.regs = s.regs) ∧
        (s.isOver b cyc = false → s.isOver b (cyc + 1) = false → (cyc = 0 ∨ s.isOver b (cyc - 1) = false) →
          u.regN (BRT_OVR_CNT b) = satAdd 0xFFFFFFFF (s.regN (BRT_OVR_CNT b)) 1 ∧ u.bit BRT_OVR_STAT b = true ∧
          s.KeepsRegs u [BRT_OVR_CNT b, BRT_OVR_STAT]))) ∧
  (∀ ms, Turns (.skewRoundComplete ms) (fun s => s.bit BRT_CAL_CTRL 0 = false ∨ s.skewCond = false) id ∧
    Effects (.skewRoundComplete ms) (fun s => s.bit BRT_CAL_CTRL 0 = true ∧ s.skewCond = true)
      (fun s u => u.regN BRT_SKEW_ROUNDS = (s.regN BRT_SKEW_ROUNDS + 1) % 2 ^ 32 ∧ u.brt.ofsPend = s.brt.ofsPend ∧
        u.brt.gainPend = s.brt.gainPend ∧
        s.KeepsRegs u (BRT_SKEW_ROUNDS :: BRT_CAL_STAT :: (List.range 8).map BRT_SKEW_ERR) ∧
        ∀ b : Fin 8, ms.getD b none = none → u.reg (BRT_SKEW_ERR b) = s.reg (BRT_SKEW_ERR b) ∧
          vget u.brt.skewPend b = vget s.brt.skewPend b)) ∧
  (∀ ch, Turns (.matchBlockComplete ch) (fun s => s.matchFull ch = false) id ∧
    Effects (.matchBlockComplete ch) (fun s => s.matchFull ch = true)
      (fun s u => (vget u.brt.chans ch).blkN = 0 ∧ s.KeepsRegs u [BRT_CAL_STAT] ∧ u.brt.skewPend = s.brt.skewPend ∧
        (vget u.brt.chans ch).blockDone = (!(vget s.brt.chans ch).blkOvr || (vget s.brt.chans ch).blockDone)))

/-- The Pilot's sources (R228 to R237, R248, R249): a comparator shows its level at each crossing, an edge of its EDGE choice
is an event unless its stamp lies in the 20 cycles in which a new threshold settles, when it is counted, EFIRE is driven for
WIDTH periods and not within 4 of the last pulse, a TRIGIN shows its level where a pin carries it
outside its park window, and a detector's oldest firing enters every enabled engine that uses it; pulses end. -/
def Obligations.PilotSourcesShowLevelsAndRaiseEvents : Prop :=
  (∀ (n : Fin 8) e, Turns (.comparatorCrossing n e) (fun s => s.on .ctrl = false ∨ s.bit PLT_CMP_LVL n = e.rising) id ∧
    Effects (.comparatorCrossing n e) (fun s => s.on .ctrl = true ∧ s.bit PLT_CMP_LVL n ≠ e.rising ∧
        edgeMatch (s.fld (PLT_CMP n) 20 2) e.rising = false)
      (fun s u => u.bit PLT_CMP_LVL n = e.rising ∧ s.KeepsRegs u [PLT_CMP_LVL] ∧ u.yard = s.yard ∧
        u.plt = { s.plt with levels := u.plt.levels }) ∧
    Effects (.comparatorCrossing n e) (fun s => s.on .ctrl = true ∧ s.bit PLT_CMP_LVL n ≠ e.rising ∧
        edgeMatch (s.fld (PLT_CMP n) 20 2) e.rising = true ∧ s.cmpMuted n e.count = true)
      (fun s u => u.bit PLT_CMP_LVL n = e.rising ∧ u.regN PLT_SUPPRESS = satAdd 0xFFFFFFFF (s.regN PLT_SUPPRESS) 1 ∧
        u.yard = s.yard ∧ u.plt = { s.plt with levels := u.plt.levels }) ∧
    Effects (.comparatorCrossing n e) (fun s => s.on .ctrl = true ∧ s.bit PLT_CMP_LVL n ≠ e.rising ∧
        edgeMatch (s.fld (PLT_CMP n) 20 2) e.rising = true ∧ s.cmpMuted n e.count = false)
      (fun s u => u.bit PLT_CMP_LVL n = e.rising ∧ u.yard.raised = s.yard.raised ++ [8 + n.val])) ∧
  (∀ (s : State) (n : Fin 8) (c : Nat) at_ stamp, stamp = Int.fdiv ((c : Int) * 65536 - s.sfld (PLT_CMP_DLY n) 0 20) 65536 →
    (vget s.plt.settleFrom n = none → s.cmpMuted n c = false) ∧
    (vget s.plt.settleFrom n = some at_ →
      (s.cmpMuted n c = true ↔ (at_.toNat : Int) ≤ stamp ∧ stamp < at_.toNat + 20 * 5))) ∧
  (∀ (n : Fin 8) high, Turns (.thresholdSettleEnd n high) (fun s => s.plt.settling.getLsbD n = false) id ∧
    ∀ s t, s.live = true → t = s.toSettle n → s.plt.settling.getLsbD n = true → ∃ u, Gives s (.thresholdSettleEnd n high) u ∧
      u.plt.settling.getLsbD n = false ∧ u.bit PLT_CMP_LVL n = high ∧ t.KeepsRegs u [PLT_CMP_LVL] ∧
      ∀ m : Fin 8, m ≠ n → u.plt.settling.getLsbD m = t.plt.settling.getLsbD m) ∧
  (∀ (j : Fin 2) e, Turns (.triginEdge j e) (fun s => s.pinOf 3 j = none ∨ ∃ n, s.pinOf 3 j = some n ∧ s.yard.park.getLsbD n = true) id ∧
    ∀ n, Effects (.triginEdge j e) (fun s => s.pinOf 3 j = some n ∧ s.yard.park.getLsbD n = false)
      (fun s u => u.plt.trigin.getLsbD j = e.rising ∧ u.plt.trigin.getLsbD (1 - j.val) = s.plt.trigin.getLsbD (1 - j.val) ∧
        (edgeMatch (s.fld (PLT_TRIGIN j) 12 2) e.rising = false → u.regs = s.regs ∧ u.plt.engs = s.plt.engs))) ∧
  (∀ d : Fin 8, Turns (.digitalDetectorFire d) (fun s => (vget s.plt.dets d).fires = []) id ∧
    ∀ i f rest, Effects (.digitalDetectorFire d) (fun s => (vget s.plt.dets d).fires = (i, f) :: rest)
      (fun s u => (vget u.plt.dets d).fires = rest ∧
        (∀ g : Fin 8, s.engUses g (9 + d.val) = true → s.bit (PLT_ENG_CFG g) 0 = true → s.on .acq = true →
          ∃ e : PEvent, e.src = 9 + d.val ∧ e.dig = some (s.fld (PLT_DIG_CFG d) 0 3, i, f) ∧
            (u.eng g).queue = (s.eng g).queue ++ [e]) ∧
        ∀ g : Fin 8, (s.engUses g (9 + d.val) = false ∨ s.bit (PLT_ENG_CFG g) 0 = false ∨ s.on .acq = false) → u.eng g = s.eng g)) ∧
  Turns .efirePulseEnd (fun s => s.plt.efire = false ∨ s.tide.tb.toNat + 4 < s.plt.efireTo) id ∧
  Turns .efirePulseEnd (fun s => s.plt.efire = true ∧ s.plt.efireTo ≤ s.tide.tb.toNat + 4)
    (fun s => { s with plt := { s.plt with efire := false } }) ∧
  (∀ (s : State) src count g, src ≠ 0 → s.bit PLT_EFIRE_CFG 7 = true → s.fld PLT_EFIRE_CFG 0 7 = src →
    g = s.fld PLT_EFIRE_CFG 8 3 → s.grpBusy g = true → s.on .emica = true →
    (s.plt.efireTo = 0 ∨ s.plt.efireTo + 4 ≤ count → (s.efireDrive src count).plt.efire = true ∧
      (s.efireDrive src count).plt.efireTo = count + s.fld PLT_EFIRE_CFG 16 8 ∧ (s.efireDrive src count).regs = s.regs) ∧
    (s.plt.efireTo ≠ 0 → count < s.plt.efireTo + 4 → s.efireDrive src count = s.count PLT_EFIRE_SKIP 1)) ∧
  (∀ j : Fin 2, Turns (.trigoutPulseEnd j) (fun s => s.tide.tb.toNat + 4 < vget s.plt.outEnd j) id ∧
    Effects (.trigoutPulseEnd j) (fun s => vget s.plt.outEnd j ≤ s.tide.tb.toNat + 4)
      (fun s u => u.plt.out.getLsbD j = false ∧ u.plt.out.getLsbD (1 - j.val) = s.plt.out.getLsbD (1 - j.val) ∧ u.regs = s.regs))

/-- The engines (R239 to R247, R251): an event of a running engine whose reference channel does not run is counted in NOGRID;
the event that A names enters the qualifier and the tests of rate and holdoff, each refusal counted by itself, and in AB mode
opens the window within which a B event does; an accepted
trigger sets the registers of R251; a SOFT event is tested for rate alone; and an AB window closes once it has passed. -/
def Obligations.EnginesQualifyRateAndHoldOff : Prop :=
  (∀ g, Turns (.engineEventEntry g) (fun s => (s.eng g).queue = []) id ∧
    Effects (.engineEventEntry g) (fun s => (s.eng g).queue ≠ [] ∧ s.engRuns g = false)
      (fun s u => u.regs = s.regs ∧ ∃ e ∈ (s.eng g).queue, (u.eng g).queue = (s.eng g).queue.erase e) ∧
    Effects (.engineEventEntry g) (fun s => (s.eng g).queue ≠ [] ∧ s.engRuns g = true ∧ s.running (s.fld (PLT_ENG_CFG g) 24 3) = false)
      (fun s u => u.regN (PLT_NOGRID g) = satAdd 0xFFFFFFFF (s.regN (PLT_NOGRID g)) 1 ∧ s.KeepsRegs u [PLT_NOGRID g]) ∧
    ∀ s e, s.live = true → (s.eng g).queue = [e] →
      Gives s (.engineEventEntry g) ((s.modEng g fun x => { x with queue := [] }).engineEvent g e)) ∧
  (∀ (s : State) (g : Fin 8) e i f ts t, s.engRuns g = true → s.running (s.fld (PLT_ENG_CFG g) 24 3) = true →
    s.place (s.fld (PLT_ENG_CFG g) 24 3) e = some (i, f, ts) →
    t = ⟨ts, f, i, e.src, e.coarse || s.bit BRT_CHAN_STAT (16 + s.fld (PLT_ENG_CFG g) 24 3), e.collide⟩ →
    (i < (s.grp g).a0 → s.engineEvent g e = s) ∧
    ((s.grp g).a0 ≤ i → e.src = 25 → s.engineEvent g e = s.candidate g t) ∧
    ((s.grp g).a0 ≤ i → e.src ≠ 25 → s.bit (PLT_ENG_CFG g) 1 = false → s.fld (PLT_ENG_CFG g) 8 7 = e.src →
      s.engineEvent g e = if s.qualified g ts then s.candidate g t else s.count (PLT_REJ_QUAL g) 1) ∧
    ((s.grp g).a0 ≤ i → e.src ≠ 25 → s.bit (PLT_ENG_CFG g) 1 = true → s.engineEvent g e = s.abEvent g t)) ∧
  (∀ (s : State) (g : Fin 8) (t : TrigRec) a, (s.eng g).window = some a → s.fld (PLT_ENG_CFG g) 16 7 = t.src →
    stampGe t.ts.toNat a.toNat = true → stampGe (a.toNat + s.engWin g * 65536) t.ts.toNat = true →
    s.abEvent g t = (s.modEng g fun x => { x with window := none, early := none }).judgeCand g t) ∧
  (∀ (s : State) (g : Fin 8) (t : TrigRec), (s.eng g).window = none → (s.eng g).early = none → s.fld (PLT_ENG_CFG g) 8 7 = t.src →
    (s.abEvent g t).regs = s.regs ∧ ((s.abEvent g t).eng g).window = some t.ts) ∧
  (∀ (s : State) (g : Fin 8) t, (s.eng g).last = none → s.candidate g t = s.accept g t) ∧
  (∀ (s : State) (g : Fin 8) (t : TrigRec) l gap, (s.eng g).last = some l → gap = (t.ts.toNat + 2 ^ 72 - l.toNat) % 2 ^ 72 →
    (gap < 262144 → s.candidate g t = s.count (PLT_REJ_RATE g) 1) ∧
    (262144 ≤ gap → gap < 2 ^ 71 →
      (t.src = 25 → s.candidate g t = s.accept g t) ∧
      (t.src ≠ 25 → s.bit (PLT_ENG_HOLD_HI g) 31 = false → s.candidate g t =
        if gap < s.engHold g * 65536 then s.count (PLT_REJ_HOLD g) 1 else s.accept g t) ∧
      (t.src ≠ 25 → s.bit (PLT_ENG_HOLD_HI g) 31 = true → s.candidate g t =
        if (s.eng g).held < s.engHold g then (s.modEng g fun x => { x with held := x.held + 1 }).count (PLT_REJ_HOLD g) 1
        else s.accept g t))) ∧
  (∀ (s : State) (g : Fin 8) (t : TrigRec), ∃ u : State, s.accept g t = (u.giveRecord g t).trigOuts g ∧
    (s.regN (PLT_TRIG_CNT_HI g) < 2 ^ 16 → u.regN (PLT_TRIG_CNT_LO g) + 2 ^ 32 * u.regN (PLT_TRIG_CNT_HI g) =
      (s.regN (PLT_TRIG_CNT_LO g) + 2 ^ 32 * s.regN (PLT_TRIG_CNT_HI g) + 1) % 2 ^ 48) ∧
    u.reg72 (PLT_LAST_Q0 g) = t.ts ∧ u.regN (PLT_LAST_IDX_LO g) = t.i % 2 ^ 32 ∧ u.regN (PLT_LAST_IDX_HI g) = t.i / 2 ^ 32 % 2 ^ 32 ∧
    (t.f < 2 ^ 16 → t.src < 2 ^ 7 → u.fld (PLT_LAST_INFO g) 0 16 = t.f ∧ u.fld (PLT_LAST_INFO g) 16 7 = t.src ∧
      u.bit (PLT_LAST_INFO g) 24 = t.coarse ∧ u.bit (PLT_LAST_INFO g) 25 = t.collide) ∧
    (u.eng g).last = some t.ts ∧ (u.eng g).held = 0 ∧ 3 ∈ u.yard.raised) ∧
  (∀ g, Turns (.abWindowExpire g) (fun s => (s.eng g).window = none) id ∧
    ∀ a, Effects (.abWindowExpire g) (fun s => (s.eng g).window = some a ∧
        stampGe s.now.toNat (a.toNat + s.engWin g * 65536 + 1) = true ∧
        ∀ e ∈ (s.eng g).queue, stampGe e.t.toNat (a.toNat + s.engWin g * 65536) = true)
      (fun s u => (u.eng g).window = none ∧ (u.eng g).queue = (s.eng g).queue ∧ u.regs = s.regs) ∧
    Turns (.abWindowExpire g) (fun s => (s.eng g).window = some a ∧
      (stampGe s.now.toNat (a.toNat + s.engWin g * 65536 + 1) = false ∨
        ∃ e ∈ (s.eng g).queue, stampGe e.t.toNat (a.toNat + s.engWin g * 65536) = false)) id)

/-! ### Capture -/

/-- Segments (R264, R268 to R276, R280, R291, R293, R297): a trigger record at or after the ready sample becomes the next
segment, an earlier one or one during a segment is counted; the ready sample, the end of the segment, its header with the
directory entry once the Manifest's bursts have gone, and the close of the group each move the group on, the last two while
SCLK runs (R169). -/
def Obligations.SegmentRowsMoveTheGroupOn : Prop :=
  (∀ (s : State) (g : Fin 8) (t : TrigRec),
    (s.grpState g = 1 ∨ s.grpState g = 2 → s.giveRecord g t = if (s.grp g).r ≤ t.i then s.takeSeg g t else s.rejectRec g false) ∧
    (s.grpState g = 3 → s.giveRecord g t = s.rejectRec g true) ∧
    (s.grpState g = 4 → s.giveRecord g t = if (s.grp g).a0 ≤ t.i then s.takeMark g t else s) ∧
    (s.grpState g = 0 ∨ 5 ≤ s.grpState g → s.giveRecord g t = s) ∧
    ∀ busy, (s.rejectRec g busy).regN (ACQ_G_REJ g) = satAdd 0xFFFFFFFF (s.regN (ACQ_G_REJ g)) 1) ∧
  (∀ g, Effects (.readySampleReached g)
      (fun s => s.grpState g = 1 ∧ (s.grp g).r < s.samplesBy ((s.chans g).headD 0) (s.now.toNat + 327679))
      (fun s u => u.grpState g = 2 ∧ u.bit ACQ_STAT g = true ∧ s.KeepsRegs u [ACQ_G_STAT g, ACQ_STAT]) ∧
    Turns (.readySampleReached g)
      (fun s => s.grpState g ≠ 1 ∨ s.samplesBy ((s.chans g).headD 0) (s.now.toNat + 327679) ≤ (s.grp g).r) id) ∧
  (∀ g, Turns (.segmentCaptureEnd g) (fun s => (s.grp g).seg = none) id ∧
    ∀ sg, Turns (.segmentCaptureEnd g) (fun s => (s.grp g).seg = some sg ∧ (s.grpState g ≠ 3 ∨ 4 * (s.grp g).base ≤ sg.e)) id ∧
    Effects (.segmentCaptureEnd g) (fun s => (s.grp g).seg = some sg ∧ s.grpState g = 3 ∧ sg.e < 4 * (s.grp g).base)
      (fun s u => (u.grp g).seg = none ∧ (u.grp g).await = (s.grp g).await ++ [sg] ∧ (u.grp g).ePrev = sg.e ∧
        (u.grp g).r = s.nextReady g sg.e ∧ s.KeepsRegs u [ACQ_G_STAT g, ACQ_STAT] ∧
        u.grpState g = if (s.regN (ACQ_G_COUNT g) ≠ 0 ∧ s.regN (ACQ_G_COUNT g) ≤ (s.grp g).taken) ∨
          (s.bit (ACQ_G_CFG g) 2 = false ∧ s.recs g ≤ (s.grp g).taken) ∨ (s.grp g).disarm = true then 5 else 1)) ∧
  (∀ g, Turns (.segmentHeaderWritten g) (fun s => (s.grp g).await = [] ∨ s.bodyWritten g = false ∨ s.lhs ≠ 3) id ∧
    (∀ x rest, Turns (.segmentHeaderWritten g)
      (fun s => (s.grp g).await = x :: rest ∧ x.man < (s.manBursts g x).length) id) ∧
    ∀ s x rest, s.live = true → (s.grp g).await = x :: rest → s.bodyWritten g = true → s.lhs = 3 →
      (s.manBursts g x).length ≤ x.man → ∃ u : State,
      (u.grp g).await = rest ∧ u.regN (ACQ_G_SEGS g) = (s.regN (ACQ_G_SEGS g) + 1) % 2 ^ 32 ∧ u.bit ACQ_EVT g = true ∧
      u.yard.raised = s.yard.raised ++ [16 + g.val] ∧
      Gives s (.segmentHeaderWritten g) (foldS (fun s m => (s.mapOffer g x m).mapSettle m) (List.range 2) u)) ∧
  (∀ g, Turns (.groupCloseComplete g) (fun s => s.grpState g ≠ 5 ∨ s.lhs ≠ 3) id ∧
    Turns (.groupCloseComplete g) (fun s => (s.grp g).stopAt = none ∧ (s.grp g).await ≠ []) id ∧
    Turns (.groupCloseComplete g) (fun s => s.grpState g = 5 ∧ s.lhs = 3 ∧ (s.grp g).stopAt = none ∧ (s.grp g).await = [])
      (fun s => (s.formEnds g (s.grp g).close).goIdle g (s.grp g).close) ∧
    ∀ w, Turns (.groupCloseComplete g) (fun s => (s.grp g).stopAt = some w ∧ s.stopReady g w = false) id ∧
      Turns (.groupCloseComplete g) (fun s => s.grpState g = 5 ∧ s.lhs = 3 ∧ (s.grp g).stopAt = some w ∧ s.stopReady g w = true)
        (fun s => (s.streamEnd g (s.grp g).close).goIdle g (s.grp g).close)) ∧
  (∀ (s : State) (g : Fin 8) fin, fin < 8 → (s.goIdle g fin).grpState g = 0 ∧ (s.goIdle g fin).fld (ACQ_G_STAT g) 4 3 = fin ∧
    (s.goIdle g fin).bit ACQ_EVT (8 + g) = true ∧ (s.goIdle g fin).yard.raised = s.yard.raised ++ [5])

/-- Streams and the Watermark (R284, R285, R301): a block begins staged where a staging buffer is free and is dropped,
counted and flagged where none is; a staged block is offered whole when its last word leaves; and an interval of a
decimator takes its D samples and gives their least and greatest value, their mean or the first, with OVR and MARK. -/
def Obligations.StreamRowsStageDropAndDecimate : Prop :=
  (∀ g, Turns (.streamBlockBegin g) (fun s => (s.grpState g ≠ 4 ∧ (s.grpState g ≠ 5 ∨ (s.grp g).stopAt = none)) ∨
      (s.grp g).cur ≠ none) id ∧
    Effects (.streamBlockBegin g) (fun s => s.grpState g = 4 ∧ (s.grp g).cur = none ∧ s.staged g < s.fld (ACQ_G_CFG g) 20 4)
      (fun s u => (u.grp g).cur = some true ∧ u.reg (ACQ_G_DROP g) = s.reg (ACQ_G_DROP g)) ∧
    Effects (.streamBlockBegin g) (fun s => s.grpState g = 4 ∧ (s.grp g).cur = none ∧ s.fld (ACQ_G_CFG g) 20 4 ≤ s.staged g)
      (fun s u => (u.grp g).cur = some false ∧ u.regN (ACQ_G_DROP g) = satAdd 0xFFFFFFFF (s.regN (ACQ_G_DROP g)) 1 ∧
        u.bit ACQ_EVT (16 + g) = true ∧ s.KeepsRegs u [ACQ_G_DROP g, ACQ_EVT] ∧
        ((s.grp g).waitMarks.any isGap = false → (u.grp g).waitMarks = (s.grp g).waitMarks ∧ (u.grp g).gap =
          (match (s.grp g).gap with
          | some (f, n) => some (f, n + 1)
          | none => some (s.rawFirst g (s.grp g).base, 1))) ∧
        ((s.grp g).waitMarks.any isGap = true → (u.grp g).gap = (s.grp g).gap ∧
          (u.grp g).waitMarks = (s.grp g).waitMarks.map fun m => if isGap m then gapPlus m else m))) ∧
  (∀ g, Turns (.streamBlockComplete g) (fun s => (s.grp g).cur = none ∨ s.heldAll g < s.blkLen g) id ∧
    Effects (.streamBlockComplete g) (fun s => (s.grp g).cur = some true ∧ s.blkLen g ≤ s.heldAll g)
      (fun s u => u.acq.offered = offerBlock s.acq.offered ⟨g, (s.grp g).blockNo, s.takeWords g (s.blkLen g), false, s.tide.tb⟩ ∧
        (u.grp g).cur = none ∧ (u.grp g).blockNo = (s.grp g).blockNo + 1 ∧ u.regs = s.regs) ∧
    Effects (.streamBlockComplete g) (fun s => (s.grp g).cur = some false ∧ s.blkLen g ≤ s.heldAll g)
      (fun s u => u.acq.offered = s.acq.offered ∧ (u.grp g).cur = none ∧ (u.grp g).blockNo = (s.grp g).blockNo + 1 ∧
        u.regs = s.regs)) ∧
  (∀ g c, Effects (.decimatorIntervalEnd g c) (fun s => s.grpState g = 4 ∧ s.wmark g = true ∧ 0 < s.wmkD g ∧
        s.wmkD g ≤ (vget (s.grp g).raw c).length)
      (fun s u => u.regs = s.regs ∧ ∀ x ys, x = s.grp g →
        ys = ((vget x.raw c).take (s.wmkD g)).mapIdx (fun i y => ({ y with mark := y.mark || x.marksAt.contains (vget x.rawBase c + i) } : Slot)) →
        u.grp g = ({ x with raw := vset x.raw c ((vget x.raw c).drop (s.wmkD g)),
                            rawBase := vset x.rawBase c (vget x.rawBase c + s.wmkD g),
                            outs := vset x.outs c (vget x.outs c ++ wmkOut (s.wmkMode g) ys) } : GrpSt).pack c 2) ∧
    Turns (.decimatorIntervalEnd g c) (fun s => s.wmark g = false ∨ (vget (s.grp g).raw c).length < s.wmkD g ∨
      (s.grpState g ≠ 4 ∧ s.grpState g ≠ 5)) id) ∧
  (∀ ys : List Slot, ys ≠ [] → ∃ a b : Slot, wmkOut 0 ys = [a, b] ∧ (∀ y ∈ ys, a.v ≤ y.v ∧ y.v ≤ b.v) ∧
    (∃ y ∈ ys, y.v = a.v) ∧ (∃ y ∈ ys, y.v = b.v) ∧ a.ovr = ys.any (·.ovr) ∧ b.ovr = ys.any (·.ovr) ∧
    a.mark = ys.any (·.mark) ∧ b.mark = false) ∧
  (∀ ys : List Slot, ys ≠ [] → wmkOut 1 ys = [⟨roundDiv (ys.map (·.v)).sum ys.length, ys.any (·.ovr), ys.any (·.mark)⟩] ∧
    2 * (ys.length * roundDiv (ys.map (·.v)).sum ys.length - (ys.map (·.v)).sum).natAbs ≤ ys.length) ∧
  (∀ (y : Slot) ys, wmkOut 2 (y :: ys) = [⟨y.v, (y :: ys).any (·.ovr), (y :: ys).any (·.mark)⟩])

/-! ### Warehouse, Dock and BAR2 -/

/-- The Warehouse rows (R309 to R317): a flush sweep adds the partial counts of the words it comes to, in address order, and ends
with its stamp in memory, the hits of a segment add to their cells up to 65 535 and to no other, a decay sweep that is due
halves the cells it comes to, and a clear leaves zeros; in a Dock channel each completes once its last burst has gone. -/
def Obligations.WarehouseRowsSweepHitDecayAndClear : Prop :=
  (∀ h, Effects (.histSweepStart h) (fun s => (vget s.hists h).held = true ∧ (vget s.hists h).sweep = none ∧
        s.sweepUp (s.histMem h) = true ∧ s.histFed h = true)
      (fun s u => (vget u.hists h).sweep = some ⟨s.now, (vget s.hists h).clearNext, (vget s.hists h).flushReq,
          (vget s.hists h).stop.isSome, 0, false⟩ ∧ (vget u.hists h).clearNext = false ∧ (vget u.hists h).flushReq = false ∧
        (vget u.hists h).part = (vget s.hists h).part ∧ u.regs = s.regs ∧ u.mem = s.mem) ∧
    Turns (.histSweepStart h) (fun s => (vget s.hists h).held = false ∨ (vget s.hists h).sweep ≠ none ∨
      s.sweepUp (s.histMem h) = false ∨ s.histFed h = false) id) ∧
  (∀ (s : State) (h : Fin 8) sw j x, x = vget s.hists h → x.sweep = some sw → s.histMem h < 3 →
    (∃ t, (vget (s.sweepTo h j).hists h).sweep = some t ∧ t.done = max sw.done j ∧ t.stamp = sw.stamp ∧ t.fin = sw.fin) ∧
    ((vget (s.sweepTo h j).hists h).part = x.part.filter fun p => !(8 * sw.done ≤ p.1 && p.1 < 8 * j)) ∧
    (smWf (fun _ => 0) x.part = true → ∀ i, 8 * sw.done ≤ i → i < 8 * j →
      (s.sweepTo h j).memRead (s.histMem h) (s.regN (WHS_H_BASE h) + i) =
        (if sw.clearing then 0 else s.memRead (s.histMem h) (s.regN (WHS_H_BASE h) + i)) +
          BitVec.ofNat 72 (smGet (fun _ => 0) x.part i)) ∧
    (∀ m a, m < 3 → m ≠ s.histMem h ∨ a < s.regN (WHS_H_BASE h) + 8 * sw.done ∨ s.regN (WHS_H_BASE h) + 8 * j ≤ a →
      (s.sweepTo h j).memRead m a = s.memRead m a)) ∧
  (∀ h, Turns (.histSweepComplete h) (fun s => (vget s.hists h).sweep = none) id ∧
    ∀ sw, Turns (.histSweepComplete h) (fun s => (vget s.hists h).sweep = some sw ∧ s.histMem h = 2 ∧ s.sweepUp 2 = false) id ∧
    Turns (.histSweepComplete h) (fun s => (vget s.hists h).sweep = some sw ∧ s.histMem h ≠ 2 ∧ sw.done < s.sweepLen h) id ∧
    ∀ s t, s.live = true → (vget s.hists h).sweep = some sw → s.histMem h < 3 →
      (s.histMem h = 2 → s.sweepUp 2 = true ∧ t = s.sweepTo h (s.sweepLen h)) →
      (s.histMem h ≠ 2 → s.sweepLen h ≤ sw.done ∧ t = s) → ∃ u, Gives s (.histSweepComplete h) u ∧
        (vget u.hists h).sweep = none ∧ (vget u.hists h).part = (vget t.hists h).part ∧ (vget u.hists h).held = !sw.fin ∧
        u.regN (WHS_H_SWEEPS h) = (s.regN (WHS_H_SWEEPS h) + 1) % 2 ^ 32 ∧
        ((sw.fin || sw.flush) = true → u.bit WHS_EVT h = true) ∧
        u.memRead (s.histMem h) (s.regN (WHS_H_BASE h) + s.bins h + 4) =
          (if sw.fin then (vget s.hists h).stop.getD sw.stamp else sw.stamp) ∧
        ∀ m a, m < 3 → m ≠ s.histMem h ∨ a ≠ s.regN (WHS_H_BASE h) + s.bins h + 4 → u.memRead m a = t.memRead m a) ∧
  (∀ (s : State) (m : Fin 2) w, s.mapMem m < 3 →
    ∀ i, (s.hitWord m w).mapCell m i = min 65535 (s.mapCell m i + (takeHits w (vget s.maps m).hits).1.count i)) ∧
  (∀ m, Turns (.mapHitsWritten m) (fun s => (vget s.maps m).hits = [] ∨ (s.mapMem m ≠ 2 ∧
        ((vget s.maps m).marks = [] ∨ (vget s.maps m).hits.head? ≠ some []))) id ∧
    (∀ rest dm mks, Effects (.mapHitsWritten m) (fun s => (vget s.maps m).hits = [] :: rest ∧
        (vget s.maps m).marks = dm :: mks ∧ s.mapMem m < 2)
      (fun s u => (vget u.maps m).hits = rest ∧ (vget u.maps m).marks = mks ∧ u.mem = s.mem ∧
        u.regN (WHS_M_DLATE m) = if dm && (vget s.maps m).due then satAdd 0xFFFFFFFF (s.regN (WHS_M_DLATE m)) 1
          else s.regN (WHS_M_DLATE m))) ∧
    ∀ cells rest dm mks, Effects (.mapHitsWritten m) (fun s => (vget s.maps m).hits = cells :: rest ∧
        (vget s.maps m).marks = dm :: mks ∧ s.mapMem m = 2 ∧ s.sweepUp 2 = true)
      (fun s u => (vget u.maps m).hits = rest ∧ (vget u.maps m).marks = mks ∧
        (∀ i, u.mapCell m i = min 65535 (s.mapCell m i + cells.count i)) ∧
        u.regN (WHS_M_DLATE m) = if dm && (vget s.maps m).due then satAdd 0xFFFFFFFF (s.regN (WHS_M_DLATE m)) 1
          else s.regN (WHS_M_DLATE m))) ∧
  (∀ m, Effects (.mapDecayStart m)
      (fun s => (vget s.maps m).due = true ∧ s.bit (WHS_M_STAT m) 2 = false ∧ s.sweepUp (s.mapMem m) = true)
      (fun s u => u.bit (WHS_M_STAT m) 2 = true ∧ (vget u.maps m).due = false ∧ (vget u.maps m).swept = 0 ∧ u.mem = s.mem ∧
        s.KeepsRegs u [WHS_M_STAT m]) ∧
    Turns (.mapDecayStart m) (fun s => (vget s.maps m).due = false ∨ s.bit (WHS_M_STAT m) 2 = true ∨
      s.sweepUp (s.mapMem m) = false) id) ∧
  (∀ (s : State) (m : Fin 2) j, s.mapMem m < 3 →
    ∀ i, (s.mapHalve m j).mapCell m i = if 4 * (vget s.maps m).swept ≤ i ∧ i < 4 * j then s.mapCell m i / 2 else s.mapCell m i) ∧
  (∀ m, Effects (.mapDecayComplete m) (fun s => s.bit (WHS_M_STAT m) 2 = true ∧ s.mapMem m < 3 ∧
        (s.mapMem m = 2 → s.sweepUp 2 = true) ∧ (s.mapMem m ≠ 2 → s.mapWords m ≤ (vget s.maps m).swept))
      (fun s u => u.bit (WHS_M_STAT m) 2 = false ∧
        ∀ i, u.mapCell m i = if 4 * (vget s.maps m).swept ≤ i ∧ i < 4 * (s.cols m * s.rows m / 4) then s.mapCell m i / 2
          else s.mapCell m i) ∧
    Turns (.mapDecayComplete m) (fun s => s.bit (WHS_M_STAT m) 2 = false ∨ (s.mapMem m = 2 ∧ s.sweepUp 2 = false) ∨
      (s.mapMem m ≠ 2 ∧ (vget s.maps m).swept < s.mapWords m)) id) ∧
  (∀ m, Effects (.mapClearComplete m) (fun s => s.bit (WHS_M_STAT m) 1 = true ∧ s.mapMem m < 3 ∧
        (s.mapMem m = 2 → s.sweepUp 2 = true) ∧ (s.mapMem m ≠ 2 → s.mapWords m ≤ (vget s.maps m).cleared))
      (fun s u => u.bit (WHS_M_STAT m) 1 = false ∧ s.KeepsRegs u [WHS_M_STAT m] ∧
        (∀ i, (vget s.maps m).cleared ≤ i → i < s.cols m * s.rows m / 4 →
          u.memRead (s.mapMem m) (s.regN (WHS_M_BASE m) + i) = 0) ∧
        ∀ a, (a < s.regN (WHS_M_BASE m) ∨ s.regN (WHS_M_BASE m) + s.cols m * s.rows m / 4 ≤ a) →
          u.memRead (s.mapMem m) a = s.memRead (s.mapMem m) a) ∧
    Turns (.mapClearComplete m) (fun s => s.bit (WHS_M_STAT m) 1 = false ∨ (s.mapMem m = 2 ∧ s.sweepUp 2 = false) ∨
      (s.mapMem m ≠ 2 ∧ (vget s.maps m).cleared < s.mapWords m)) id)

/-- The Dock and BAR2 rows (R330, R331, R333, R338, R339, R346 to R348, R473 to R475): a training step passes on to the next and the
last one makes the channel TRAINED, a timeout or an alert in training fails it, a round starts with the calendar of the
charges in force, a slot passes with the burst of its owner first, an alert counts and taints the bursts of the last
slots, a channel held for Lighthouse-S leaves self-refresh. A BAR2 read of words that exist and serve is answered from
memory, one that is not fails with Completer Abort, one not served in time fails and is counted; a BAR2 write fills the
latch of its word, the fourth slot writes the word, in a Dock channel in a slot of its own, and one that cannot be served is ignored and counted. -/
def Obligations.DockAndBar2RowsTrainServeAndAnswer : Prop :=
  ((∀ n, Turns (.dockTrainStepDone n) (fun s => s.dckState n ≠ 2 ∨ s.on .dock = false ∨ s.lhs ≠ 3) id ∧
       Effects (.dockTrainStepDone n) (fun s => s.dckState n = 2 ∧ s.on .dock = true ∧ s.lhs = 3 ∧ s.fld (DCK_CH_TSTAT n) 4 3 < 5)
         (fun s u => u.dckState n = 2 ∧ u.fld (DCK_CH_TSTAT n) 4 3 = s.fld (DCK_CH_TSTAT n) 4 3 + 1 ∧ s.KeepsRegs u [DCK_CH_TSTAT n]) ∧
       Effects (.dockTrainStepDone n) (fun s => s.dckState n = 2 ∧ s.on .dock = true ∧ s.lhs = 3 ∧ 5 ≤ s.fld (DCK_CH_TSTAT n) 4 3)
         (fun s u => u.dckState n = 3 ∧ u.bit DCK_STAT n = true ∧ u.regN (DCK_CH_SIZE n) = s.memSize n % 2 ^ 32 ∧ u.mem = s.mem)) ∧
     (∀ n, Effects (.dockTrainTimeout n) (fun s => s.dckState n = 2) (fun s u => u.dckState n = 4 ∧ u.bit DCK_FAULT n = true ∧
         s.KeepsRegs u [DCK_CH_TSTAT n, DCK_FAULT]) ∧
       Turns (.dockTrainTimeout n) (fun s => s.dckState n ≠ 2) id) ∧
     (∀ n, Effects (.refreshRoundStart n) (fun s => s.dckState n = 3 ∧ s.lhs = 3)
         (fun s u => (vget u.dock n).owners = s.calendar n ∧ (vget u.dock n).pos = 0 ∧ (vget u.dock n).alert = false ∧
           (vget u.dock n).queue = (vget s.dock n).queue ∧ u.regN (DCK_CH_ROUNDS n) =
             if (vget s.dock n).owners = [] then s.regN (DCK_CH_ROUNDS n) else (s.regN (DCK_CH_ROUNDS n) + 1) % 2 ^ 32) ∧
       Turns (.refreshRoundStart n) (fun s => s.dckState n ≠ 3 ∨ s.lhs ≠ 3) id) ∧
     (∀ n, Turns (.alertNAssert n) (fun s => s.dckState n ≠ 3 ∧ s.dckState n ≠ 2) id ∧
       Effects (.alertNAssert n) (fun s => s.dckState n = 2 ∨ s.dckState n = 3)
         (fun s u => u.regN (DCK_CH_PARERR n) = satAdd 0xFFFFFFFF (s.regN (DCK_CH_PARERR n)) 1 ∧ u.bit DCK_FAULT (4 + n.val) = true ∧
           (s.dckState n = 2 → (s.fld (DCK_CH_TSTAT n) 4 3 = 1 ∨ s.fld (DCK_CH_TSTAT n) 4 3 = 5) →
             u.dckState n = 4 ∧ u.bit DCK_FAULT n = true) ∧
           (s.dckState n = 2 → s.fld (DCK_CH_TSTAT n) 4 3 ≠ 1 → s.fld (DCK_CH_TSTAT n) 4 3 ≠ 5 →
             u.dckState n = 2 ∧ s.KeepsRegs u [DCK_CH_PARERR n, DCK_FAULT]) ∧
           (s.dckState n = 3 → (vget u.dock n).alert = true ∧ (vget u.dock n).issued = [] ∧ u.dckState n = 3 ∧
             u.regN (DCK_CH_BADBURST n) =
               satAdd 0xFFFFFFFF (s.regN (DCK_CH_BADBURST n)) ((vget s.dock n).issued.filter (·.isSome)).length ∧
             ∀ b rest, (vget s.dock n).issued.filterMap (fun x => x) = b :: rest →
               u.regN (DCK_CH_LASTADDR n) = b.burst * 8 % 2 ^ 32))) ∧
     (∀ n : Fin 2, Effects (.dockSelfrefExit n) (fun s => s.dckState n = 5 ∧ (vget s.dock n).hold = true ∧ s.lhs = 3 ∧ s.on .dock = true)
         (fun s u => u.dckState n = 3 ∧ u.bit DCK_STAT n = true ∧ (vget u.dock n).hold = false ∧ u.mem = s.mem ∧
           ((vget s.dock (1 - n.val)).hold = false → u.bit CLK_LHS_STAT 3 = false)) ∧
       Turns (.dockSelfrefExit n) (fun s => s.dckState n ≠ 5 ∨ (vget s.dock n).hold = false ∨ s.lhs ≠ 3 ∨ s.on .dock = false) id) ∧
     (∀ n, Turns (.calendarSlot n) (fun s => s.dckState n ≠ 3 ∨ 240 * s.framesPerRound ≤ (vget s.dock n).pos ∨
         (vget s.dock n).owners = []) id ∧
       ∀ s pick, s.live = true → s.dckState n = 3 → (vget s.dock n).pos < 240 * s.framesPerRound → (vget s.dock n).owners ≠ [] →
         pick = s.slotBurst n ((vget s.dock n).pos % s.banks n) ((vget s.dock n).owners.getD ((vget s.dock n).pos / 16) none) →
         ∃ u v : State, (vget u.dock n).pos = (vget s.dock n).pos + 1 ∧
           (vget u.dock n).issued = ((if (vget s.dock n).alert then none else pick) :: (vget s.dock n).issued).take 16 ∧
           (∀ b, pick = some b → (vget u.dock n).queue = (vget s.dock n).queue.erase b ∧
             v = if (vget s.dock n).alert then ((u.runBurst n b).badBurst n b).burstSafe b else u.runBurst n b) ∧
           (pick = none → (vget u.dock n).queue = (vget s.dock n).queue ∧ v = u) ∧
           (∀ b, (vget s.dock n).issued[15]? = some (some b) → Gives s (.calendarSlot n) (v.burstSafe b)) ∧
           ((∀ b, (vget s.dock n).issued[15]? ≠ some (some b)) → Gives s (.calendarSlot n) v)) ∧
     (∀ (s : State) (n : Fin 2) b c x, s.clientBurst n b true c = some x → s.slotBurst n b (some c) = some x) ∧
     (∀ (s : State) (n : Fin 2) b x own, ∀ c < 8, s.clientBurst n b own c = some x →
       (vget s.dock n).queue.find? (·.client == c) = some x ∧ x.closed = true ∧ x.burst % s.banks n = b) ∧
     (∀ (s : State) (n : Fin 2) b x own, s.clientBurst n b own 21 = some x →
       x ∈ (vget s.dock n).queue ∧ x.client = 21 ∧ x.burst % s.banks n = b)) ∧
  ((∀ off dws, Turns (.bar2Read off dws) (fun s => s.pcieUp = false) id ∧
       Turns (.bar2Read off dws) (fun s => s.pcieUp = true) (fun s => s.wake.bar2ReadReq off dws)) ∧
     (∀ (s : State) off dws, (dws = 0 ∨ 128 < off % 128 + 4 * dws ∨ s.memUp s.bar2Mem = false ∨
         s.memSize s.bar2Mem ≤ s.regN FRY_BAR2_BASE + (off + 4 * dws - 1) / 16) →
       s.bar2ReadReq off dws = (s.modFry fun x => { x with bar2 := .ca }).aerAbort) ∧
     (∀ (s : State) off dws, 0 < dws → off % 128 + 4 * dws ≤ 128 → s.bar2Mem = 2 → s.memUp 2 = true →
       s.regN FRY_BAR2_BASE + (off + 4 * dws - 1) / 16 < s.memSize 2 → (∀ r ∈ s.fry.reads, r.id ≠ s.fry.nextId) →
       s.bar2Air s.fry.nextId = false →
       (s.bar2ReadReq off dws).fry.bar2 = .data ((List.range dws).map fun i =>
         BitVec.ofNat 32 (bits (s.memRead 2 (s.regN FRY_BAR2_BASE + (off / 4 + i) / 4)).toNat (18 * ((off / 4 + i) % 4)) 18)) ∧
       (s.bar2ReadReq off dws).fry.reads = s.fry.reads) ∧
     (∀ (s : State) off dws, 0 < dws → off % 128 + 4 * dws ≤ 128 → s.bar2Mem < 2 → s.memUp s.bar2Mem = true →
       s.regN FRY_BAR2_BASE + (off + 4 * dws - 1) / 16 < s.memSize s.bar2Mem →
       ∃ r, r.off = off ∧ r.dws = dws ∧ r.got = [] ∧ r.at_ = s.tide.tb ∧ (s.bar2ReadReq off dws).fry.reads = s.fry.reads ++ [r] ∧
         (s.bar2ReadReq off dws).fry.bar2 = .none) ∧
     Turns .bar2ReadTimeout (fun s => ∀ r ∈ s.fry.reads.head?, (s.tide.tb - r.at_).toNat + 4 < 500000) id ∧
     (∀ r rest, Effects .bar2ReadTimeout (fun s => s.fry.reads = r :: rest ∧ 500000 ≤ (s.tide.tb - r.at_).toNat + 4)
       (fun s u => u.fry.bar2 = .ca ∧ u.regN FRY_BAR2_DROP = satAdd 0xFFFFFFFF (s.regN FRY_BAR2_DROP) 1 ∧
         u.fry.reads = s.fry.reads.filter (·.id != r.id) ∧ s.KeepsRegs u [FRY_BAR2_DROP])) ∧
     (∀ off v, Turns (.bar2Write off v) (fun s => s.pcieUp = false) id ∧
       Turns (.bar2Write off v) (fun s => s.pcieUp = true) (fun s => s.wake.bar2WriteReq off v)) ∧
     (∀ (s : State) off v w, w = s.regN FRY_BAR2_BASE + off / 16 →
       (s.memSize s.bar2Mem ≤ w ∨ s.memUp s.bar2Mem = false → s.bar2WriteReq off v = s.ignore) ∧
       (w < s.memSize s.bar2Mem → s.memUp s.bar2Mem = true → s.fry.latch = none →
         (off / 4 % 4 < 3 → s.bar2WriteReq off v =
           s.modFry fun x => { x with latch := some ((s.bar2Mem, w), [(off / 4 % 4, v.toNat % 2 ^ 18)]) }) ∧
         (off / 4 % 4 = 3 → s.bar2Mem = 2 → s.bar2WriteReq off v =
           (s.memWrite 2 w (BitVec.ofNat 72 (v.toNat % 2 ^ 18 * 2 ^ 54))).modFry fun x => { x with latch := none }) ∧
         (off / 4 % 4 = 3 → s.bar2Mem < 2 → s.bar2WriteReq off v =
           (s.modFry fun x => { x with latch := none }).modDock s.bar2Mem fun x =>
             { x with queue := x.queue ++ [⟨21, w / 8, .put w (BitVec.ofNat 72 (v.toNat % 2 ^ 18 * 2 ^ 54)), true⟩] }))) ∧
     (∀ (s : State) n a q, s.runBurst n ⟨21, a / 8, .put a q, true⟩ = s.memWrite n a q))

/-! ### Tally and the knob -/

/-- The Tally and knob rows (R230, R353, R355, R356, R360 to R363, R366, R367, R369, R370, R372, R373): an edge that a lane does not
take changes nothing or is counted, an accepted one in STAMP mode is stamped, queued and raised, one inside HOLD is
rejected; the standstill of a FREQ lane gives its result once and an interval left open its own; a histogram of 192 codes and
4,194,304 hits gives a valid table or CALFAIL, and no other one ends a calibration. The first knob levels are taken as they
are; after them a level counts as the pin and the filter let it: one line changing counts one up or down by its direction and
INV, both changing at once is an error that clears the speed, and STILL milliseconds without an edge clear the speed once. -/
def Obligations.TallyAndKnobRowsStampAndCount : Prop :=
  ((∀ l e, Turns (.tallyEdgeAccepted l e) (fun s => s.tlyState l = 0 ∨ s.on .tally = false ∨ s.lhs ≠ 3 ∨ s.calBusy l = true ∨
         s.tlyDeaf l = true) id ∧
       Effects (.tallyEdgeAccepted l e) (fun s => s.tlyState l ≠ 0 ∧ s.on .tally = true ∧ s.lhs = 3 ∧ s.calBusy l = false ∧
           s.tlyDeaf l = false ∧ s.tlyMuted l e.count = true)
         (fun s u => s.KeepsRegs u [PLT_SUPPRESS] ∧ u.lanes = s.lanes ∧ u.yard = s.yard ∧
           u.regN PLT_SUPPRESS = satAdd 0xFFFFFFFF (s.regN PLT_SUPPRESS) 1) ∧
       Turns (.tallyEdgeAccepted l e) (fun s => s.tlyState l ≠ 0 ∧ s.on .tally = true ∧ s.lhs = 3 ∧ s.calBusy l = false ∧
         s.tlyDeaf l = false ∧ s.tlyMuted l e.count = false ∧ s.tlyMode l ≠ 3 ∧ edgeMatch (s.tlySlope l) e.rising = false) id) ∧
     (∀ l e m, Effects (.tallyEdgeAccepted l e)
         (fun s => s.tlyState l = 1 ∧ s.on .tally = true ∧ s.lhs = 3 ∧ s.calBusy l = false ∧
           s.tlyDeaf l = false ∧ s.tlyMuted l e.count = false ∧ s.tlyMode l = 0 ∧
           edgeMatch (s.tlySlope l) e.rising = true ∧ m = (s.capture l e (s.sfld (TLY_L_DLY l) 0 20)).1 ∧
           stampGe m.t.toNat (s.lane l).start.toNat = true ∧ (s.lane l).accepted = none ∧ (s.lane l).claimer = none)
         (fun s u => (u.lane l).accepted = some m.t ∧ u.yard.raised = s.yard.raised ++ [24 + l.val] ∧
           u.reg72 (TLY_L_RES_Q0 l) = m.t ∧ u.bit (TLY_L_EVT l) 0 = true ∧
           ((s.lane l).fifo.length < 64 → (u.lane l).fifo = (s.lane l).fifo ++ [m.t]) ∧
           (64 ≤ (s.lane l).fifo.length → (u.lane l).fifo = (s.lane l).fifo ∧ u.bit (TLY_L_EVT l) 5 = true ∧
             u.regN (TLY_L_LOST l) = satAdd 0xFFFFFFFF (s.regN (TLY_L_LOST l)) 1))) ∧
     (∀ l e m a, Effects (.tallyEdgeAccepted l e)
         (fun s => s.tlyState l = 1 ∧ s.on .tally = true ∧ s.lhs = 3 ∧ s.calBusy l = false ∧
           s.tlyDeaf l = false ∧ s.tlyMuted l e.count = false ∧ s.tlyMode l ≠ 3 ∧
           edgeMatch (s.tlySlope l) e.rising = true ∧ m = (s.capture l e (s.sfld (TLY_L_DLY l) 0 20)).1 ∧
           stampGe m.t.toNat (s.lane l).start.toNat = true ∧ (s.lane l).accepted = some a ∧
           stampGe m.t.toNat (a.toNat + s.fld (TLY_L_HOLD l) 0 24 * 65536) = false)
         (fun s u => u.regN (TLY_L_HOLDREJ l) = satAdd 0xFFFFFFFF (s.regN (TLY_L_HOLDREJ l)) 1 ∧ u.yard = s.yard ∧
           (u.lane l).accepted = some a ∧ (u.lane l).fifo = (s.lane l).fifo)) ∧
     (∀ l since, Effects (.freqStillTimeout l)
         (fun s => s.tlyState l = 1 ∧ s.tlyMode l = 4 ∧ (s.lane l).stillFrom = some since ∧
           s.reached (since.toNat + (s.fld (TLY_L_GATE l) 0 24 * 32768000 + s.fld (TLY_L_STILL l) 0 16 * 32768000000)) = true)
         (fun s u => (u.lane l).stillFrom = none ∧ u.bit (TLY_L_EVT l) 3 = true ∧
           u.reg72 (TLY_L_RES_Q0 l) = resultWord 0 true false true false false false (s.lane l).seq) ∧
       Turns (.freqStillTimeout l) (fun s => s.tlyState l ≠ 1 ∨ s.tlyMode l ≠ 4 ∨ (s.lane l).stillFrom = none ∨
         ∃ t, (s.lane l).stillFrom = some t ∧
           s.reached (t.toNat + (s.fld (TLY_L_GATE l) 0 24 * 32768000 + s.fld (TLY_L_STILL l) 0 16 * 32768000000)) = false) id ∧
       ∀ (x : LaneSt) a, x.opened = some a → x.stillFrom = some a.t) ∧
     (∀ l, Turns (.intervalOverflow l) (fun s => (s.lane l).opened = none ∨ s.tlyState l ≠ 1 ∨ s.tlyMode l ≠ 1) id ∧
       ∀ a, Effects (.intervalOverflow l)
         (fun s => (s.lane l).opened = some a ∧ s.tlyState l = 1 ∧ s.tlyMode l = 1 ∧ s.reached (a.t.toNat + 2 ^ 48) = true)
         (fun s u => (u.lane l).opened = none ∧ u.bit (TLY_L_EVT l) 2 = true ∧ u.reg72 (TLY_L_RES_Q0 l) =
             resultWord (2 ^ 48 - 1) false true false a.coarse a.collide a.rising (s.lane l).seq ∧
           u.regN (TLY_L_INVALID l) = satAdd 0xFFFFFFFF (s.regN (TLY_L_INVALID l)) 1)) ∧
     (∀ l h, Turns (.tallyCalHitsComplete l h) (fun s => s.calBusy l = false ∨ h.length ≠ 192 ∨ h.sum ≠ 4194304) id ∧
       Effects (.tallyCalHitsComplete l h)
         (fun s => s.calBusy l = true ∧ h.length = 192 ∧ h.sum = 4194304 ∧ tableOk h (calWidths h 0) = true)
         (fun s u => u.calBusy l = false ∧ (u.lane l).spare = tblOf (calWidths h 0) ∧ (u.lane l).swap = some true ∧
           (u.lane l).table = (s.lane l).table ∧
           ((s.lane l).swap ≠ some false → s.KeepsRegs u [TLY_STAT]) ∧
           ((s.lane l).swap = some false → u.bit TLY_CAL_STAT (8 + l.val) = true ∧
             u.regN SYS_IGNORED = satAdd 0xFFFFFFFF (s.regN SYS_IGNORED) 1)) ∧
       Effects (.tallyCalHitsComplete l h)
         (fun s => s.calBusy l = true ∧ h.length = 192 ∧ h.sum = 4194304 ∧ tableOk h (calWidths h 0) = false)
         (fun s u => u.calBusy l = false ∧ u.bit TLY_CAL_STAT (8 + l.val) = true ∧ u.lanes = s.lanes ∧
           s.KeepsRegs u [TLY_STAT, TLY_CAL_STAT]))) ∧
  ((∀ a b n, Turns (.knobCountEdge a b n) (fun s => s.on .tally = false ∨ s.lhs ≠ 3) id ∧
       Effects (.knobCountEdge a b n) (fun s => s.on .tally = true ∧ s.lhs = 3 ∧ s.knob.levels = none)
         (fun s u => u.knob = { s.knob with levels := some (a, b) } ∧ u.regs = s.regs)) ∧
     (∀ a b a0 b0 n, Turns (.knobCountEdge a b n) (fun s => s.on .tally = true ∧ s.lhs = 3 ∧ s.knob.levels = some (a0, b0) ∧
       s.encLevel 0 a0 a s.knob.changedA n = a0 ∧ s.encLevel 1 b0 b s.knob.changedB n = b0) id) ∧
     (∀ (s : State) (j : Fin 2) was high n, (s.inputMuted 6 j = true → s.encLevel j was high none n = was) ∧
       (s.inputMuted 6 j = false → s.encLevel j was high none n = high ∧
         ∀ c < 2 ^ 56 - s.filtTc, s.encLevel j was high (some c) (c + s.filtTc) = high ∧
           s.encLevel j was high (some c) (c + s.filtTc - 1) = was)) ∧
     (∀ a b a0 b0 n a' b', Effects (.knobCountEdge a' b' n)
       (fun s => s.on .tally = true ∧ s.lhs = 3 ∧ s.knob.levels = some (a0, b0) ∧
         a = s.encLevel 0 a0 a' s.knob.changedA n ∧ b = s.encLevel 1 b0 b' s.knob.changedB n ∧ a ≠ a0 ∧ b ≠ b0)
       (fun s u => u.regN KNB_ERR = satAdd 0xFFFFFFFF (s.regN KNB_ERR) 1 ∧ u.bit KNB_EVT 2 = true ∧ u.regN KNB_SPEED = 0 ∧
         u.bit KNB_STAT 2 = false ∧ u.reg KNB_POS = s.reg KNB_POS ∧ u.knob.levels = some (a, b) ∧
         u.knob.changedA = some n ∧ u.knob.changedB = some n)) ∧
     (∀ a b a0 b0 n a' b' cw, (a ≠ a0 ∧ b = b0) ∨ (a = a0 ∧ b ≠ b0) → Effects (.knobCountEdge a' b' n)
       (fun s => s.on .tally = true ∧ s.lhs = 3 ∧ s.knob.levels = some (a0, b0) ∧
         a = s.encLevel 0 a0 a' s.knob.changedA n ∧ b = s.encLevel 1 b0 b' s.knob.changedB n ∧
         cw = ((if a ≠ a0 then b == a else a != b) != s.bit KNB_CFG 31))
       (fun s u => u.regN KNB_POS = ofSigned 32 (toSigned 32 (s.regN KNB_POS) + (if cw then 1 else -1)) ∧ u.bit KNB_STAT 0 = cw ∧
         u.bit KNB_STAT 1 = false ∧ u.knob.levels = some (a, b) ∧ u.knob.last = some n ∧ u.knob.moved = true ∧
         u.knob.changedA = (if a = a0 then s.knob.changedA else some n) ∧
         u.knob.changedB = (if b = b0 then s.knob.changedB else some n) ∧
         s.KeepsRegs u [KNB_POS, KNB_SPEED, KNB_STAT])) ∧
     Effects .knobStillTimeout (fun s => s.bit KNB_STAT 1 = false ∧ s.on .tally = true ∧ s.lhs = 3 ∧ s.knobIdle = true)
       (fun s u => u.regN KNB_SPEED = 0 ∧ u.bit KNB_STAT 2 = false ∧ u.bit KNB_STAT 1 = true ∧ u.bit KNB_EVT 1 = true ∧
         u.knob.last = none ∧ s.KeepsRegs u [KNB_SPEED, KNB_STAT, KNB_EVT]) ∧
     Turns .knobStillTimeout (fun s => s.bit KNB_STAT 1 = true ∨ s.on .tally = false ∨ s.lhs ≠ 3 ∨ s.knobIdle = false) id ∧
     ∀ s : State, s.knobIdle = true ↔ ∃ c, s.knob.lastEdge = some c ∧ s.reached ((c + s.fld KNB_CFG 10 16 * 500000) * 65536) = true)

/-! ### Lists, the Slipway and the protection -/

/-- A list (R405, R406): the end of a dwell applies the next entry, wraps to the first one while passes are left, and ends in
HOLD with its event after the last; a list that does not run takes no entry. -/
def Obligations.DwellsAdvanceTheList : Prop :=
  (∀ n : Fin 8, Turns (.listDwellExpire n) (fun s => (s.loop n).lst.due = false) id ∧
    Turns (.listDwellExpire n) (fun s => (s.loop n).lst.due = true ∧ s.fld KNB_SVC 4 3 ≠ n.val)
      (fun s => (s.modList n fun x => { x with due := false }).listNext n) ∧
    Turns (.listDwellExpire n) (fun s => (s.loop n).lst.due = true ∧ s.fld KNB_SVC 4 3 = n.val)
      (fun s => (((s.modList n fun x => { x with due := false }).listNext n).knobSum []).knobNext)) ∧
  (∀ (s : State) (n : Fin 8), (s.loop n).lst.st ≠ 1 → s.listNext n = s) ∧
  (∀ (s : State) (n : Fin 8), (s.loop n).lst.st = 1 → (s.loop n).lst.idx < s.fld (SLC_L_LIST n) 16 12 →
    s.listNext n = s.listApply n ((s.loop n).lst.idx + 1)) ∧
  (∀ (s : State) (n : Fin 8), (s.loop n).lst.st = 1 → s.fld (SLC_L_LIST n) 16 12 ≤ (s.loop n).lst.idx →
    (s.fld (SLC_L_REPEAT n) 0 16 = 0 ∨ (s.loop n).lst.passes + 1 < s.fld (SLC_L_REPEAT n) 0 16) →
    ((s.listNext n).loop n).lst.idx = s.fld (SLC_L_LIST n) 0 12 ∧ ((s.listNext n).loop n).lst.passes = (s.loop n).lst.passes + 1 ∧
    ((s.listNext n).loop n).lst.st = 1 ∧ (s.listNext n).regs = s.regs) ∧
  (∀ (s : State) (n : Fin 8), (s.loop n).lst.st = 1 → s.fld (SLC_L_LIST n) 16 12 ≤ (s.loop n).lst.idx →
    s.fld (SLC_L_REPEAT n) 0 16 ≠ 0 → s.fld (SLC_L_REPEAT n) 0 16 ≤ (s.loop n).lst.passes + 1 →
    ((s.listNext n).loop n).lst.st = 2 ∧ ((s.listNext n).loop n).lst.sp = (s.loop n).lst.sp ∧
    (s.listNext n).bit SLC_EVT (16 + n.val) = true ∧ (s.listNext n).yard.raised = s.yard.raised ++ [7]) ∧
  (∀ (s : State) (n : Fin 8) i, ((s.listApply n i).loop n).lst.idx = i ∧
    ((s.listApply n i).loop n).lst.sp = s.sfld (SLC_LIST i) 0 16 ∧ ((s.listApply n i).loop n).lst.left = s.fld (SLC_LIST i) 16 16 ∧
    (s.listApply n i).regs = s.regs ∧ ∀ m : Fin 8, m ≠ n → (s.listApply n i).loop m = s.loop m)

/-- The Slipway (R420 to R426, R436, R437): waiting frames start together on a free bus, those of mooring ahead of all others,
each port with the value it requested last, as the bus becomes free, and a request on a free bus at once; a frame ends LEN + 1
clock periods after its start, and LDAC follows one period after the last frame of a group that asks for it; an HRPWM port takes
its value 8 rc before a period starts, and shows it in that period. -/
def Obligations.SlipwayRowsSendFramesAndPeriods : Prop :=
  Turns .spidacFrameStart (fun s => s.on .ctrl = false ∨ s.inFlight = true ∨ (∀ p : Fin 8, s.portWaits p = false) ∨
    s.tide.len ≤ s.tide.cycle + s.busTail) id ∧
  Turns .spidacFrameStart (fun s => s.on .ctrl = true ∧ s.inFlight = false ∧ (∃ p : Fin 8, s.portWaits p = true) ∧
    s.tide.cycle + s.busTail < s.tide.len) (fun s => (s.advance s.busTail).startFrames) ∧
  (∀ s : State, s.busFree = true ↔ s.inFlight = false ∧ ∀ t n, s.slip.bus = some (t, n) → 5 * n ≤ (s.tide.tb - t).toNat) ∧
  (∀ s u : State, s.on .ctrl = true → s.busFree = true → (∀ p : Fin 8, s.portMode p = 1 → (s.slipPort p).safe = false) →
    u = s.startFrames → ∀ p : Fin 8,
      (∀ v, s.portMode p = 1 → (s.slipPort p).pend = some v → (u.slipPort p).pend = none ∧
        (∃ after, (u.slipPort p).frame = some ((s.frameOf p v).2.1, after)) ∧
        (u.slipPort p).ends = s.tide.tb + BitVec.ofNat 56 (5 * ((s.fld (SLP_P_CFG p) 8 5 + 1) * (2 * s.fld SLP_CFG 0 8))) ∧
        (∃ n, u.slip.bus = some (s.tide.tb, n) ∧ (s.fld (SLP_P_CFG p) 8 5 + 2) * (2 * s.fld SLP_CFG 0 8) ≤ n) ∧
        u.fld (SLP_P_STAT p) 0 20 = (s.frameOf p v).1 % 2 ^ 20 ∧ u.bit (SLP_P_STAT p) 25 = (s.frameOf p v).2.2) ∧
      (s.portMode p ≠ 1 ∨ (s.slipPort p).pend = none → u.slipPort p = s.slipPort p)) ∧
  (∀ s u : State, s.on .ctrl = true → s.busFree = true → (∃ p : Fin 8, s.portMode p = 1 ∧ (s.slipPort p).safe = true) →
    u = s.startFrames → ∀ p : Fin 8, (u.slipPort p).pend = (s.slipPort p).pend ∧
      (s.portMode p = 1 → (s.slipPort p).safe = true → (u.slipPort p).safe = false ∧
        ∃ after, (u.slipPort p).frame = some ((s.frameOf p (s.sfld (SLP_P_SAFE p) 0 20)).2.1, after)) ∧
      ((s.slipPort p).safe = false → u.slipPort p = s.slipPort p)) ∧
  (∀ (s : State) (p : Fin 8) v, s.on .ctrl = true → s.busFree = false → s.groupNow = false →
    ((s.reqFrame p v).slipPort p).pend = some v ∧ (∀ q : Fin 8, q ≠ p → (s.reqFrame p v).slipPort q = s.slipPort q) ∧
    (s.reqFrame p v).regN (SLP_P_LATE p) =
      if (s.slipPort p).pend.isSome then satAdd 0xFFFFFFFF (s.regN (SLP_P_LATE p)) 1 else s.regN (SLP_P_LATE p)) ∧
  (∀ (s : State) (p : Fin 8) v, s.on .ctrl = true → (s.busFree = true ∨ s.groupNow = true) → s.portMode p = 1 →
    (∀ q : Fin 8, s.portMode q = 1 → (s.slipPort q).safe = false) → (s.slipPort p).pend = none →
    ((s.reqFrame p v).slipPort p).pend = none ∧
    ∃ after, ((s.reqFrame p v).slipPort p).frame = some ((s.frameOf p v).2.1, after)) ∧
  (∀ k : Fin 8, Turns (.spidacFrameEnd k) (fun s => (s.slipPort k).frame = none ∨
      s.tide.len ≤ s.tide.cycle + s.edgesTo (s.slipPort k).ends) id ∧
    Turns (.spidacFrameEnd k) (fun s => (s.slipPort k).frame ≠ none ∧ s.tide.cycle + s.edgesTo (s.slipPort k).ends < s.tide.len)
      (fun s => (s.advance (s.edgesTo (s.slipPort k).ends)).endFrame k) ∧
    ∀ (s u : State) w after, (s.slipPort k).frame = some (w, after) → u = s.endFrame k →
      (u.slipPort k).frame = none ∧ u.regs = s.regs ∧ u.slip.pulses = s.slip.pulses ∧
      ((∃ q : Fin 8, q ≠ k ∧ (s.slipPort q).frame ≠ none) → u.slip.pulse = s.slip.pulse) ∧
      ((∀ q : Fin 8, q ≠ k → (s.slipPort q).frame = none) → u.slip.pulse =
        if (s.slip.group || after || s.slip.late) then some (s.tide.tb + BitVec.ofNat 56 (5 * (2 * s.fld SLP_CFG 0 8)))
        else s.slip.pulse)) ∧
  (∀ s : State, (s.slip.pulse = none → s.ldacDue = s) ∧ ∀ t, s.slip.pulse = some t →
    (s.edgesTo t = 0 → s.ldacDue.slip.pulses = s.slip.pulses + 1 ∧ s.ldacDue.slip.pulse = none) ∧
    (s.edgesTo t ≠ 0 → s.ldacDue = s)) ∧
  (∀ k : Fin 8, Turns (.hrpwmValueSample k) (fun s => s.on .ctrl = false ∨ s.portMode k ≠ 2 ∨
      s.tide.len ≤ s.tide.cycle + s.toSample k) id ∧
    Turns (.hrpwmValueSample k) (fun s => s.on .ctrl = true ∧ s.portMode k = 2 ∧ s.tide.cycle + s.toSample k < s.tide.len)
      (fun s => (s.advance (s.toSample k)).pwmSample k) ∧
    ∀ s u : State, u = s.pwmSample k → u.regs = s.regs ∧
      (s.driver k = none → (u.slipPort k).next = s.pwmH k (s.sfld (SLP_P_VALUE k) 0 20)) ∧
      (s.driver k ≠ none → (u.slipPort k).next = s.pwmH k (s.slipPort k).out ∧ (u.slipPort k).out = (s.slipPort k).out)) ∧
  (∀ (s : State) p out, s.pwmH p out ≤ 128 * s.per p) ∧
  (∀ (s : State) (p : Fin 8), 16 ≤ s.per p → s.toSample p < s.per p ∧ s.toPeriod p < s.per p ∧
    ((s.slipPort p).cnt + s.toSample p) % s.per p = s.per p - 8 ∧ ((s.slipPort p).cnt + s.toPeriod p) % s.per p = 0) ∧
  (∀ k : Fin 8, Turns (.hrpwmPeriodStart k) (fun s => s.on .ctrl = false ∨ s.portMode k ≠ 2 ∨
      s.tide.len ≤ s.tide.cycle + s.toPeriod k) id ∧
    Turns (.hrpwmPeriodStart k) (fun s => s.on .ctrl = true ∧ s.portMode k = 2 ∧ s.tide.cycle + s.toPeriod k < s.tide.len)
      (fun s => (s.advance (s.toPeriod k)).pwmStart k) ∧
    ∀ s u : State, u = s.pwmStart k → (u.slipPort k).cnt = 0 ∧ (u.slipPort k).high = (s.slipPort k).next ∧
      u.fld (SLP_P_STAT k) 0 20 = (s.slipPort k).next % 2 ^ 20 ∧ s.KeepsRegs u [SLP_P_STAT k])

/-- Fast trips (R430, R432, R433): a comparator that enters its tripping state parks the pins of the HRPWM ports of its LOOPS and asserts TRIP at once and
waits four RCLK edges (with RCLK running or stopped; the fourth edge after the one that began its cycle is the model's choice of
30 to 40 ns, log 8); the edge that ends the wait trips every one of those loops with cause FAST, a
stopped RCLK does so when it returns; with no loop it only shows, and it leaves without another effect. -/
def Obligations.FastTripRowsTripTheirLoops : Prop :=
  (∀ n : Fin 8, Effects (.fastTripCrossing n) (fun s => s.on .ctrl = true ∧ s.fld (PRT_FAST n) 16 8 ≠ 0)
    (fun s u => u.fastHigh n = true ∧ u.prt.wait = s.prt.wait ++ [(4, n.val, s.fld (PRT_FAST n) 16 8)] ∧ u.regs = s.regs ∧
      u.slc = s.slc ∧ u.slip = s.slip ∧ (∀ p : Fin 8, ∀ d, s.portMode p = 2 → s.driver p = some d →
        (∃ i : Fin 8, i.val ∈ s.unit d ∧ (s.fld (PRT_FAST n) 16 8).testBit i = true) → u.pwmParked p = true) ∧
      ∀ j : Fin 2, s.fld (PRT_FAST n) 16 8 &&& s.fld (PRT_TRIPOUT j) 0 8 ≠ 0 → u.tripPin j = true)) ∧
  (∀ n : Fin 8, Effects (.fastTripCrossing n) (fun s => s.on .ctrl = false ∨ s.fld (PRT_FAST n) 16 8 = 0)
    (fun s u => u.fastHigh n = true ∧ u.regs = s.regs ∧ u.slc = s.slc ∧ u.slip = s.slip ∧ u.prt.wait = s.prt.wait)) ∧
  (∀ (n : Fin 8) s, s.live = false → exec (.fastTripCrossing n) s = .next (s.fastEnter n)) ∧
  (∀ s : State, s.fastCount = s.modPrt fun x => { x with wait := x.wait.map fun y => (y.1 - 1, y.2) }) ∧
  (∀ s : State, (∀ y ∈ s.prt.wait, y.1 ≠ 0) → s.fastLatch = s) ∧
  (∀ (s : State) (c : Fin 8) m a b, s.on .ctrl = true → s.prt.wait = a ++ (0, c.val, m) :: b → s.fastLatch.prt.wait = s.prt.wait.filter (·.1 != 0) ∧
    ∀ i : Fin 8, m.testBit i = true → s.fastLatch.tripped i = true ∧ s.fastLatch.bit (PRT_L_CAUSE i) 6 = true) ∧
  (∀ s : State, s.fastReturn = (s.modPrt fun x => { x with wait := x.wait.map fun y => (0, y.2) }).fastLatch) ∧
  (∀ n : Fin 8, Effects (.fastTripStateLeft n) (fun _ => True) (fun s u => u.fastHigh n = false ∧ u.regs = s.regs ∧
    ∀ m : Fin 8, m ≠ n → u.fastHigh m = s.fastHigh m)) ∧
  (∀ (n : Fin 8) s, s.live = false → exec (.fastTripStateLeft n) s = .next (s.fastLeave n))

/-- The trip latch (R192, R402, R433, R434, R436): a loop that is not tripped latches its cause, the time and the tide, is
counted once and moored with MANOUT at SAFE, and its partner trips with PARTNER; a tripped one only joins the cause; nothing
trips without CTRL; and a CLEAR withdraws the trip. -/
def Obligations.TripsLatchOnceAndMoor : Prop :=
  (∀ (s : State) l ch, s.on .ctrl = false → s.latchTrip l ch = s) ∧
  (∀ (s : State) (n : Fin 8) c ch, s.on .ctrl = true → 0 < c → c < 4096 → s.tripped n = false → s.paired n = false →
    (s.latchTrip [(n.val, c)] ch).tripped n = true ∧ (s.latchTrip [(n.val, c)] ch).fld (PRT_L_CAUSE n) 0 13 = c ∧
    (s.latchTrip [(n.val, c)] ch).reg72 (PRT_L_TS_Q0 n) = s.now ∧ (s.latchTrip [(n.val, c)] ch).bit PRT_EVT n = true ∧
    (s.latchTrip [(n.val, c)] ch).regN PRT_TRIP_CNT = satAdd 0xFFFFFFFF (s.regN PRT_TRIP_CNT) 1 ∧
    2 ∈ (s.latchTrip [(n.val, c)] ch).yard.raised ∧
    (∀ m : Fin 8, m ≠ n → (s.latchTrip [(n.val, c)] ch).tripped m = s.tripped m) ∧
    (s.loopMode n ≠ 0 → ((s.latchTrip [(n.val, c)] ch).loop n).moored = true ∧
      (s.latchTrip [(n.val, c)] ch).fld (SLC_L_MODE n) 0 2 = 1 ∧
      (s.latchTrip [(n.val, c)] ch).regN (SLC_L_MANOUT n) = s.fld (SLC_L_SAFE n) 0 20) ∧
    (∀ p : Fin 8, s.driver p = some n.val → ((s.latchTrip [(n.val, c)] ch).slipPort p).held = true)) ∧
  (∀ (s : State) (n : Fin 8) c ch, s.on .ctrl = true → 0 < c → c < 4096 → s.tripped n = false → s.paired n = true →
    s.tripped (n.val - n.val % 2 + (1 - n.val % 2)) = false →
    (s.latchTrip [(n.val, c)] ch).tripped (n.val - n.val % 2 + (1 - n.val % 2)) = true ∧
    (s.latchTrip [(n.val, c)] ch).fld (PRT_L_CAUSE (n.val - n.val % 2 + (1 - n.val % 2))) 0 13 = 4096 ∧
    (s.latchTrip [(n.val, c)] ch).regN PRT_TRIP_CNT = satAdd 0xFFFFFFFF (s.regN PRT_TRIP_CNT) 2) ∧
  (∀ (s : State) (n : Fin 8) c ch, s.on .ctrl = true → 0 < c → c < 4096 → s.tripped n = true →
    (s.latchTrip [(n.val, c)] ch).fld (PRT_L_CAUSE n) 0 13 = s.fld (PRT_L_CAUSE n) 0 13 ||| c ∧
    (s.latchTrip [(n.val, c)] ch).reg72 (PRT_L_TS_Q0 n) = s.reg72 (PRT_L_TS_Q0 n) ∧
    (s.latchTrip [(n.val, c)] ch).reg PRT_TRIP_CNT = s.reg PRT_TRIP_CNT) ∧
  (∀ (s : State) (n : Fin 8), s.tripped n = true → s.paired n = false → (∀ c : Fin 8, s.fastHigh c = false) →
    (s.clearTrips (2 ^ n.val)).tripped n = false ∧ (s.clearTrips (2 ^ n.val)).fld (PRT_L_CAUSE n) 0 13 = 0 ∧
    ((s.clearTrips (2 ^ n.val)).loop n).moored = false) ∧
  (∀ (s : State) m, (∀ n : Fin 8, m.testBit n = true → s.tripped n = false) → s.clearTrips m = s)

/-! ### The Bell and the Ferry -/

/-- The Bell's edge and rows (R450, R452 to R455, R458, R460, R461): what waits is PENDING on the next edge; the delivery of an edge is
decided on the edge before, only where more sources were PENDING than deliveries stood, for the first target in turn after
the last one that is eligible, free and met and was not freed on that edge; the row comes to the edge of the delivery and makes
it; an MSI-X delivery names the first source of P that none names and queues its message on its vector (a free value of the
model where P has none left, log 6); second events are counted; and the oldest message that can go is sent. -/
def Obligations.BellRowsDeliverInTurnAndSend : Prop :=
  (∀ s : State, ({ s with bell := s.bellNext } : State).pendSet = s.waiting ∧
    s.bellEdge.bell = s.bellNext ∧ s.KeepsRegs s.bellEdge [BEL_LOST] ∧
    s.bellEdge.regN BEL_LOST = satAdd 0xFFFFFFFF (s.regN BEL_LOST)
      ((List.range 48).filter fun n => s.level n && bits s.bell.seen n 1 == 0 && (s.server n).isSome).length) ∧
  (∀ s : State, s.pendSet.length ≤ s.deliveries → s.bellNext.due = none) ∧
  (∀ (s : State) (k : Nat), s.bell.last < 4 → s.deliveries < s.pendSet.length → k < 4 →
    (let t := (s.bell.last + 1 + k) % 4
     s.eligible t = true ∧ s.free_ t = true ∧ s.met t = true ∧ s.bell.freed.testBit t = false) →
    (∀ i < k, let t := (s.bell.last + 1 + i) % 4
      s.eligible t = false ∨ s.free_ t = false ∨ s.met t = false ∨ s.bell.freed.testBit t = true) →
    s.bellNext.due = some ((s.bell.last + 1 + k) % 4)) ∧
  (∀ (s : State) t, s.bellNext.due = some t → s.eligible t = true ∧ s.free_ t = true ∧ s.met t = true ∧
    s.bell.freed.testBit t = false) ∧
  Turns .bellDelivery (fun s => s.bell.due.isSome = true) State.deliver ∧
  Turns .bellDelivery (fun s => (s.toDelivery 3).bell.due = none) id ∧
  Turns .bellDelivery (fun s => (s.toDelivery 3).bell.due.isSome = true) (fun s => (s.toDelivery 3).deliver) ∧
  (∀ (s : State) (t : Fin 4), s.bell.due = some t.val → s.eligible t = false ∨ s.free_ t = false → s.deliver = s) ∧
  (∀ (s : State) (t : Fin 4), s.bell.due = some t.val → s.eligible t = true → s.free_ t = true →
    s.deliver.bell.last = t ∧ s.deliver.bell.due = none ∧ (s.deliver.tgt t).delivered = true ∧ (s.deliver.tgt t).timer = 0 ∧
    (∀ k : Fin 4, k ≠ t → s.deliver.tgt k = s.tgt k) ∧
    (t.val < 2 → s.deliver.bell.msgs = s.bell.msgs ∧ s.deliver.regs = s.regs ∧ s.deliver.intLow t = true) ∧
    (2 ≤ t.val → s.toName = none → (s.deliver.tgt t).named = none ∧ ∃ v < 8,
      s.deliver.bell.msgs = s.bell.msgs ++ [⟨t, 8 * (t - 2) + v⟩]) ∧
    ∀ n, 2 ≤ t.val → s.toName = some n → n ∈ s.pendSet ∧ (∀ k : Fin 4, (s.tgt k).named ≠ some n) ∧ (s.deliver.tgt t).named = some n ∧
      s.deliver.bell.msgs = s.bell.msgs ++ [⟨t, 8 * (t - 2) + s.fld (BEL_VEC (n / 8)) (4 * (n % 8)) 3⟩]) ∧
  Turns .msixMessageSend (fun s => s.msiOk = false ∨ ∀ m ∈ s.bell.msgs, s.blocked m = true) id ∧
  (∀ m, Effects .msixMessageSend (fun s => s.msiOk = true ∧ s.bell.msgs.find? (fun m => !s.blocked m) = some m)
    (fun s u => u.bell.sentVec = some m.vec ∧ u.bell.sentN = s.bell.sentN + 1 ∧ u.bell.msgs = s.bell.msgs.erase m ∧
      u.bit FRY_LINK 8 = false ∧ u.bell.tgts = s.bell.tgts))

/-- Claims (R450, R451, R453, R456, R457, R459, R466): a claim takes the source of the lowest number that was PENDING on the edge before
its own, is high and in nobody's service, puts it into service and ends the delivery, an INT pin's with the next edge; a target in
service gets its source again, with VALID clear, and one with nothing pending gets zero; a source completed is PENDING on the next
edge where it is high and enabled, and its target is passed over by the delivery decided on this edge; a completion of another
source than the one in service is counted. -/
def Obligations.ClaimsTakeTheFirstPendingSource : Prop :=
  (∀ (s : State) n, n ∈ ({ s with bell := s.bellNext } : State).claimSet → n ∈ s.pendSet) ∧
  (∀ (s : State) n, n ∈ s.pendSet → s.level n = true ∧ s.belEnabled n = true ∧ ∀ k : Fin 4, (s.tgt k).serving ≠ some n) ∧
  (∀ (s : State) (t : Fin 4) n, (s.tgt t).serving = none → (∀ m ∈ s.claimSet, n ≤ m) → n ∈ s.claimSet →
    (s.claim t).1.toNat = n + 2 ^ 31 ∧ ((s.claim t).2.tgt t).serving = some n ∧ ((s.claim t).2.tgt t).delivered = false ∧
    s.level n = true ∧ ∀ k : Fin 4, (s.tgt k).serving ≠ some n) ∧
  (∀ (s : State) (t : Fin 4), (s.tgt t).serving = none → s.claimSet = [] →
    (s.claim t).1 = 0 ∧ ((s.claim t).2.tgt t).delivered = false ∧ ((s.claim t).2.tgt t).serving = none ∧
    ((s.tgt t).delivered = true → (s.claim t).2.bellNext.due ≠ some t.val)) ∧
  (∀ (s : State) (t : Fin 4), t.val < 2 → (s.tgt t).delivered = true → (s.tgt t).serving = none →
    (s.claim t).2.intLow t = true ∧ ({ (s.claim t).2 with bell := (s.claim t).2.bellNext } : State).intLow t = false) ∧
  (∀ (s : State) (t : Fin 4) n, (s.tgt t).serving = some n → s.claim t = (BitVec.ofNat 32 n, s)) ∧
  (∀ (s : State) (t : Fin 4) n, (s.tgt t).serving = some n →
    ((s.complete t n).tgt t).serving = none ∧ (s.complete t n).regs = s.regs ∧
    ((s.tgt t).delivered = false → (s.complete t n).free_ t = true) ∧
    ((∀ k : Fin 4, k ≠ t → (s.tgt k).serving ≠ some n) →
      (n ∈ (s.complete t n).waiting ↔ n < 48 ∧ s.level n = true ∧ s.belEnabled n = true)) ∧
    (s.complete t n).bellNext.due ≠ some t.val) ∧
  (∀ (s : State) (t : Fin 4) n, (s.tgt t).serving ≠ some n → (s.complete t n).bell = s.bell ∧
    (s.complete t n).fld BEL_BAD_COMPLETE 0 16 = satAdd 65535 (s.fld BEL_BAD_COMPLETE 0 16) 1 ∧
    s.KeepsRegs (s.complete t n) [BEL_BAD_COMPLETE]) ∧
  (∀ (s : State) (t k : Fin 4) n, t ≠ k → (s.complete t n).tgt k = s.tgt k)

/-- The Ferry's rows (R169, R480 to R488, R492, R502): a fetch that fails faults its ring, one that completes leaves at most
eight descriptors and no more than are posted; a descriptor begun moves a slot from DEV to INFL, a bad one faults its ring, and one completed moves from INFL to
HOST with its record, where its transfer has ended, neither in the last 40 ns of a tide; a transfer goes on at once in the quay buffer and waits for its Dock
slots else; the words of a LOAD's data read, of at most 512 bytes, reach the quay buffer, or wait for the Dock's, and a failed one carries its error; a stopping ring with
nothing in flight gives its slots back. -/
def Obligations.FerryRowsKeepTheBooks : Prop :=
  (∀ r res, Turns (.descriptorFetchComplete r res) (fun s => (s.ring r).fetching = false ∨ s.lhs ≠ 3) id) ∧
  (∀ r : Fin 8, Effects (.descriptorFetchComplete r none) (fun s => (s.ring r).fetching = true ∧ s.ringState r = 1 ∧ s.lhs = 3)
    (fun s u => (u.ring r).fetching = false ∧ u.ringState r = 4 ∧ u.fld (FRY_R_STAT r) 4 3 = 3 ∧ u.bit FRY_FAULT r = true ∧
      u.fld FRY_TAGS 0 6 = s.fld FRY_TAGS 0 6 - 1)) ∧
  (∀ (r : Fin 8) ds s, s.live = true → (s.ring r).fetching = true → s.lhs = 3 → ∃ t : State, (t.ring r).fetching = false ∧
    (t.ring r).fetched = ds.take (min 8 (s.dev r)) ∧ s.KeepsRegs t [FRY_TAGS] ∧
    Gives s (.descriptorFetchComplete r (some ds)) (t.ringKick r)) ∧
  (∀ r : Fin 8, Turns (.descriptorIssue r) (fun s => (s.ring r).fetched = [] ∨ s.mayIssue r = false ∨ s.ringWork r = false) id ∧
    ∀ s d rest, s.live = true → (s.ring r).fetched = d :: rest → s.mayIssue r = true → s.ringWork r = true →
      Gives s (.descriptorIssue r) ((s.issueDesc r d (s.nextBlock r)).ringKick r)) ∧
  (∀ (s : State) (r : Fin 8) d b, s.descBad r ((b.map (·.group)).getD 0) d = false → 0 < s.dev r → s.infl r < 65535 →
    (s.issueDesc r d b).dev r = s.dev r - 1 ∧ (s.issueDesc r d b).infl r = s.infl r + 1 ∧
    (s.issueDesc r d b).head r = (s.head r + 1) % s.ringSize r % 2 ^ 15 ∧ (s.issueDesc r d b).reg (FRY_R_LDG1 r) = s.reg (FRY_R_LDG1 r) ∧
    ((s.issueDesc r d b).ring r).fetched = (s.ring r).fetched.drop 1) ∧
  (∀ (s : State) (r : Fin 8) d b, s.descBad r ((b.map (·.group)).getD 0) d = true → s.ringState r = 1 →
    (s.issueDesc r d b).ringState r = 4 ∧ (s.issueDesc r d b).fld (FRY_R_STAT r) 4 3 = 2 ∧ (s.issueDesc r d b).bit FRY_FAULT r = true ∧
    ((s.ring r).flights = [] → ((s.issueDesc r d b).ring r).flights = [] ∧
      ∃ x, (s.issueDesc r d b).fry.lastRec = some x ∧ x.code = 8 ∧ x.ring = r ∧ x.tag = d.tag) ∧
    ((s.ring r).flights ≠ [] → (s.issueDesc r d b).fry.lastRec = s.fry.lastRec ∧
      ∃ f, ((s.issueDesc r d b).ring r).flights = (s.ring r).flights ++ [f] ∧ f.desc = d ∧ f.code = 8 ∧ f.ready = true)) ∧
  (∀ s : State, s.mayMove = true ↔ s.tide.cycle + 4 < s.tide.len) ∧
  (∀ (s : State) r, s.mayIssue r = true → s.mayMove = true) ∧
  (∀ r : Fin 8, Turns (.descriptorComplete r) (fun s => s.ferryEnds = false ∨ (s.ring r).flights = []) id ∧
    Turns (.descriptorComplete r) (fun s => s.ferryEnds = true ∧ (s.ringEnds r = false ∨ s.mayMove = false ∨
      ((s.ferryNext r).ring r).flights.head?.any (·.ready) = false)) (·.ferryNext r) ∧
    ∀ f rest,
    Effects (.descriptorComplete r) (fun s => s.ferryEnds = true ∧ s.mayMove = true ∧
        (s.ringState r = 1 ∨ s.ringState r = 2 ∨ (s.ringState r = 4 ∧ s.fld (FRY_R_STAT r) 4 3 = 2)) ∧
        (s.ring r).flights = f :: rest ∧ f.ready = true ∧ 0 < s.infl r ∧ s.host r < 65535)
      (fun s u => (u.ring r).flights = ((s.ferryNext r).ring r).flights.tail ∧
        (s.mover r = none → (u.ring r).flights = rest) ∧ u.infl r = s.infl r - 1 ∧ u.host r = s.host r + 1 ∧ u.dev r = s.dev r ∧
        u.fry.lastRec = some (s.recordOf r f) ∧ u.fry.lastData = s.flightData r f ∧
        u.regN (FRY_R_RECS r) = (s.regN (FRY_R_RECS r) + 1) % 2 ^ 32 ∧
        (f.desc.irq = true → u.bit (FRY_R_EVT r) 0 = true))) ∧
  (∀ r : Fin 8, Turns (.bufferHoldExpire r) (fun s => s.holdExpired r = false) id ∧
    ∀ s f rest, s.live = true → s.holdExpired r = true → (s.ring r).flights = f :: rest → ∃ t : State,
      (t.ring r).flights = { f with ready := true } :: rest ∧ t.regs = s.regs ∧ Gives s (.bufferHoldExpire r) (t.completeNext r)) ∧
  (∀ (s : State) (r : Nat), s.mover r = none → s.ferryNext r = s) ∧
  (∀ (s : State) (r : Nat) f g, s.mover r = some f → s.flightNext f = .inl g →
    s.ferryNext r = if s.ferryAir r f.idx then s else s.putFlight r g) ∧
  (∀ (s : State) (r : Nat) f m a n, s.mover r = some f → s.flightNext f = .inr (m, a, n) → m ≠ 2 → s.ferryNext r = s) ∧
  (∀ (s : State) (r : Fin 8), (s.ferryNext r).regs = s.regs ∧ (∀ m < 2, vget (s.ferryNext r).mem m = vget s.mem m) ∧
    ((s.ferryNext r).ring r).fetched = (s.ring r).fetched ∧ ∀ q : Fin 8, q ≠ r → (s.ferryNext r).ring q = s.ring q) ∧
  (∀ r res, Turns (.loadReadComplete r res) (fun s => (s.ring r).loading = false ∨ s.lhs ≠ 3) id) ∧
  (∀ (r : Fin 8) f, Effects (.loadReadComplete r none) (fun s => (s.ring r).loading = true ∧ s.lhs = 3 ∧ f.desc.op = 3 ∧
      (s.ring r).flights.filter (fun f => !f.ready) = [f])
    (fun s u => (u.ring r).loading = false ∧ u.mem = s.mem ∧ (u.ring r).flights = (s.ring r).flights.map fun y =>
      if y.idx = f.idx ∧ y.ready = false then { f with code := if f.code = 0 then 9 else f.code, ready := true } else y)) ∧
  (∀ (r : Fin 8) ws f, Effects (.loadReadComplete r (some ws)) (fun s => (s.ring r).loading = true ∧ s.lhs = 3 ∧
      f.desc.op = 3 ∧ f.put = f.data.length ∧ f.desc.mem = 2 ∧ (s.ring r).flights.filter (fun f => !f.ready) = [f])
    (fun s u => (u.ring r).loading = decide (f.data.length + min f.readWords ws.length < f.desc.words) ∧
      (∀ i, i < min f.readWords ws.length → u.memRead 2 (f.desc.maddr + f.put + i) = ws.getD i 0) ∧
      (∀ a, (a < f.desc.maddr + f.put ∨ f.desc.maddr + f.put + min f.readWords ws.length ≤ a) → u.memRead 2 a = s.memRead 2 a) ∧
      vget u.mem 0 = vget s.mem 0 ∧ vget u.mem 1 = vget s.mem 1)) ∧
  (∀ (r : Fin 8) ws f, Effects (.loadReadComplete r (some ws)) (fun s => (s.ring r).loading = true ∧ s.lhs = 3 ∧
      f.desc.op = 3 ∧ f.put ≤ f.data.length ∧ f.desc.mem < 2 ∧ 0 < f.readWords ∧ ws ≠ [] ∧
      (s.ring r).flights.filter (fun f => !f.ready) = [f])
    (fun s u => (u.ring r).loading = decide (f.data.length + min f.readWords ws.length < f.desc.words) ∧ u.mem = s.mem ∧ (u.ring r).flights = (s.ring r).flights.map fun y =>
      if y.idx = f.idx ∧ y.ready = false then { f with data := f.data ++ ws.take f.readWords } else y)) ∧
  (∀ f : Flight, f.readWords ≤ 512 / fmtBytes f.desc.fmt 1 + 1 ∧ f.data.length + f.readWords ≤ max f.data.length f.desc.words) ∧
  (∀ r : Fin 8, Effects (.ringStopDone r) (fun s => s.ringState r = 2 ∧ (s.ring r).flights = [] ∧ s.lhs = 3 ∧ 0 ≤ s.host r ∧ s.host r + s.dev r < 65536)
      (fun s u => u.ringState r = 0 ∧ u.dev r = 0 ∧ u.host r = s.host r + s.dev r ∧ (u.ring r).fetched = []) ∧
    Turns (.ringStopDone r) (fun s => s.ringState r ≠ 2 ∨ (s.ring r).flights ≠ [] ∨ s.lhs ≠ 3) id)

/-! ### Emica and the store -/

/-- The rig (R508, R510, R512 to R517, R520, R521, R523, R528, R530): the master sends its share at cycle 10 and a polled member in
its slot, a valid frame is taken and one with a bad parity or stop is counted, a mismatch of the own frame is flagged, and
at the deadline every slot of the rig is judged once: three absences make a present slot RIG_FAULT, eight tides make
another PRESENT. A pulse that is due is driven once in its cycle by the master, a received EARM arms each named group or
counts its refusal, and a received EFIRE raises its event and closes an open calibration only in its cycles. -/
def Obligations.RigRowsExchangeJudgeAndPulse : Prop :=
  (EffectsAt .emicaPollSend (fun _ => 10) (fun s => s.emcRuns = true ∧ s.role = 1)
       (fun s u => u.emc.sent = some s.shareFrame ∧ u.regs = s.regs) ∧
     TurnsAt .emicaPollSend (fun _ => 10) (fun s => s.emcRuns = false ∨ s.role ≠ 1) id ∧
     EffectsAt .emicaSlotSend (fun s => 10 + 10 * s.ownSlot) (fun s => s.emcRuns = true ∧ s.role = 2 ∧ s.emc.poll = true)
       (fun s u => u.emc.sent = some s.shareFrame ∧ u.regs = s.regs) ∧
     TurnsAt .emicaSlotSend (fun s => 10 + 10 * s.ownSlot) (fun s => s.emcRuns = false ∨ s.role ≠ 2 ∨ s.emc.poll = false) id ∧
     (∀ j w, TurnsAt (.emicaFrameReceived j w) (fun _ => 20 + 10 * j.val)
         (fun s => s.emcRuns = false ∨ s.role = 0 ∨ s.bit CLK_CAP_STAT 0 = false) id ∧
       EffectsAt (.emicaFrameReceived j w) (fun _ => 20 + 10 * j.val)
         (fun s => s.emcRuns = true ∧ s.role ≠ 0 ∧ s.bit CLK_CAP_STAT 0 = true ∧ frameOk w.toNat = true)
         (fun s u => (vget u.emc.slots j).got = some (bits w.toNat 3 14 + bits w.toNat 2 1 * 2 ^ 14) ∧
           u.emc.poll = (s.emc.poll || j == 0) ∧ u.reg EMC_PARERR = s.reg EMC_PARERR ∧
           (∀ x, s.emc.sent = some x → j.val = s.ownSlot → x ≠ w.toNat → u.bit EMC_EVT 9 = true)) ∧
       EffectsAt (.emicaFrameReceived j w) (fun _ => 20 + 10 * j.val)
         (fun s => s.emcRuns = true ∧ s.role ≠ 0 ∧ s.bit CLK_CAP_STAT 0 = true ∧ frameOk w.toNat = false)
         (fun s u => u.regN EMC_PARERR = satAdd 0xFFFFFFFF (s.regN EMC_PARERR) 1 ∧ u.emc.slots = s.emc.slots ∧ u.emc.poll = s.emc.poll)) ∧
     (∀ n, TurnsAt (.emicaDeadline n) (fun s => s.tide.len - 8) (fun s => s.emcRuns = false ∨ s.role = 0 ∨ s.emc.judged = true) id ∧
       EffectsAt (.emicaDeadline n) (fun s => s.tide.len - 8) (fun s => s.emcRuns = true ∧ s.role ≠ 0 ∧ s.emc.judged = false)
         (fun s u => u.emc.judged = true ∧ ∀ j ∈ s.members,
           vget u.emc.slots j = (vget s.emc.slots j).tide (vget s.emc.slots j).got.isSome ∧
           ((vget s.emc.slots j).got = none → u.regN (EMC_ABS j) = satAdd 0xFFFFFFFF (s.regN (EMC_ABS j)) 1) ∧
           ((vget s.emc.slots j).st = 1 → (vget u.emc.slots j).st = 2 → u.bit EMC_EVT j = true))) ∧
     (∀ x : RigSlot, x.st = 1 → x.run < 2 → x.tide false = { x with run := x.run + 1 }) ∧
     (∀ x : RigSlot, x.st = 1 → 2 ≤ x.run → x.tide false = { x with st := 2, run := 0 }) ∧
     (∀ x : RigSlot, x.st = 1 → x.tide true = { x with run := 0 }) ∧
     (∀ x : RigSlot, x.st ≠ 1 → 7 ≤ x.run → x.tide true = { x with st := 1, run := 0 }) ∧
     (∀ x : RigSlot, x.st ≠ 1 → x.run < 7 → x.tide true = { x with run := x.run + 1 }) ∧
     (∀ x : RigSlot, x.st ≠ 1 → x.tide false = { x with run := 0 })) ∧
  ((∀ c k cyc, (c, k, cyc) ∈ [(Instr.esyncPulse, 0, fun (s : State) => s.tide.len - 9), (.earmPulse, 1, fun _ => 1),
         (.calfirePulse, 2, fun _ => 50)] →
       TurnsAt c cyc (fun s => s.emcRuns = false ∨ s.role ≠ 1 ∨ s.emc.due.getLsbD k = false) id ∧
       EffectsAt c cyc (fun s => s.emcRuns = true ∧ s.role = 1 ∧ s.emc.due.getLsbD k = true)
         (fun s u => u.emc.due.getLsbD k = false ∧ u.emc.drove.getLsbD k = true ∧ u.emc.slots = s.emc.slots ∧
           ∀ j < 3, j ≠ k → u.emc.due.getLsbD j = s.emc.due.getLsbD j ∧ u.emc.drove.getLsbD j = s.emc.drove.getLsbD j)) ∧
     TurnsAt .earmReceived (fun _ => 3) (fun s => s.on .emica = false ∨ s.fld EMC_EARM 0 8 = 0) id ∧
     TurnsAt .earmReceived (fun _ => 3) (fun _ => True) State.earm ∧
     (∀ (s : State) (g : Fin 8), s.on .emica = true → s.fld EMC_EARM 0 8 = 2 ^ g.val →
       (s.cmd.abort = none → s.armCheck g = .ok () → s.earm = s.arm g) ∧
       (s.cmd.abort = none → (∃ e, s.armCheck g = .error e) → s.earm = s.count EMC_ARMREJ 1) ∧
       (s.cmd.abort.isSome = true → s.earm = s.count EMC_ARMREJ 1)) ∧
     (∀ e, Turns (.efireReceived e) (fun s => s.on .emica = false) id ∧
       Effects (.efireReceived e) (fun s => s.on .emica = true) (fun s u => u.yard.raised = s.yard.raised ++ [4]) ∧
       Effects (.efireReceived e) (fun s => s.on .emica = true ∧ s.bit EMC_CFG 13 = false)
         (fun s u => u.reg EMC_CAL = s.reg EMC_CAL ∧ u.reg EMC_STAT = s.reg EMC_STAT ∧ u.reg EMC_CFG = s.reg EMC_CFG) ∧
       Effects (.efireReceived e) (fun s => s.on .emica = true ∧ s.bit EMC_CFG 13 = true ∧ s.on .tally = true ∧ s.lhs = 3 ∧
           s.calBusy 4 = false ∧ 50 * 5 ≤ (e.count + 2 ^ 56 - (s.reg72 TIM_EDGE_Q0).toNat / 65536 % 2 ^ 56) % 2 ^ 56 ∧
           (e.count + 2 ^ 56 - (s.reg72 TIM_EDGE_Q0).toNat / 65536 % 2 ^ 56) % 2 ^ 56 < 53 * 5)
         (fun _ u => u.bit EMC_CFG 13 = false ∧ u.bit EMC_STAT 4 = true)))

/-- The store (R537, R541, R543, R545, R548): a good copy stands in the array and the other one follows, or the save is DONE; a
bad one is tried again and then marks the record BAD; a recall with no valid copy fails, and one with a valid copy loads
IDENT, stages a setup, or waits for its boundary; a verify ends DONE with the bits of the records it found good cleared. -/
def Obligations.StoreRowsSaveRecallAndVerify : Prop :=
  (∀ good, Turns (.storeSaveCopyDone good) (fun s => ∀ r b x y, s.store.op ≠ .saving r b x y) id) ∧
  (∀ rec c retry, Effects (.storeSaveCopyDone true) (fun s => s.store.op = .saving rec c false retry ∧ s.store.buf.length ≤ 65536)
    (fun s u => u.store.op = .saving rec (!c) true false ∧ u.reg TRL_GEN = s.store.buf.getD 1 0 ∧ s.KeepsRegs u [TRL_GEN] ∧
      ∀ i, i < s.store.buf.length → u.storeWord (copyAt rec c + i) = s.store.buf.getD i 0)) ∧
  (∀ rec c retry, rec < 32 → Effects (.storeSaveCopyDone true) (fun s => s.store.op = .saving rec c true retry ∧ s.store.buf.length ≤ 65536)
    (fun s u => u.store.op = .idle ∧ u.store.endAt = some s.tide.tb ∧ u.reg TRL_GEN = s.store.buf.getD 1 0 ∧
      u.bit TRL_EVT 0 = true ∧ u.bit TRL_BAD rec = false ∧ u.bit TRL_STAT 0 = false ∧
      ∀ i, i < s.store.buf.length → u.storeWord (copyAt rec c + i) = s.store.buf.getD i 0)) ∧
  (∀ rec c second, Effects (.storeSaveCopyDone false) (fun s => s.store.op = .saving rec c second false)
    (fun s u => u.store.op = .saving rec c second true ∧ u.regs = s.regs)) ∧
  (∀ rec c second, rec < 32 → Effects (.storeSaveCopyDone false) (fun s => s.store.op = .saving rec c second true)
    (fun _ u => u.store.op = .idle ∧ u.bit TRL_BAD rec = true ∧ u.bit TRL_EVT 1 = true ∧ u.bit TRL_STAT 0 = false)) ∧
  Turns .storeRecallReadDone (fun s => ∀ r t, s.store.op ≠ .reading r t) id ∧
  (∀ rec trim, rec < 22 → Effects .storeRecallReadDone (fun s => s.store.op = .reading rec trim ∧ s.useCopy rec = none)
    (fun s u => u.store.op = .idle ∧ u.bit TRL_EVT 1 = true ∧ (u.bit TRL_EVT 0 = s.bit TRL_EVT 0) ∧
      ((s.copyEmpty rec false && s.copyEmpty rec true) = true → u.bit TRL_STAT 10 = true ∧ u.reg TRL_BAD = s.reg TRL_BAD) ∧
      ((s.copyEmpty rec false && s.copyEmpty rec true) = false → u.bit TRL_BAD rec = true))) ∧
  (∀ trim c, Effects .storeRecallReadDone (fun s => s.store.op = .reading 0 trim ∧ s.useCopy 0 = some c)
    (fun s u => u.store.op = .idle ∧ u.bit TRL_EVT 0 = true ∧
      ∀ i : Fin 8, u.regN (TRL_IDENT i) = (s.copyOf 0 c).getD (4 + i.val) 0 % 2 ^ 32)) ∧
  (∀ rec trim c, 6 ≤ rec → rec < 22 → Effects .storeRecallReadDone (fun s => s.store.op = .reading rec trim ∧ s.useCopy rec = some c)
    (fun s u => u.store.op = .idle ∧ u.bit TRL_EVT 0 = true ∧ u.bit TRL_STAT 12 = true ∧ u.fld TRL_STAT 16 4 = rec - 6 ∧
      u.store.buf = (s.copyOf rec c).map (BitVec.ofNat 32))) ∧
  (∀ rec trim c, 1 ≤ rec → rec < 6 → Effects .storeRecallReadDone (fun s => s.store.op = .reading rec trim ∧ s.useCopy rec = some c)
    (fun s u => u.store.op = .applyWait rec trim ∧ u.regN TRL_GEN = s.copyGen rec c ∧
      u.store.buf = (s.copyOf rec c).map (BitVec.ofNat 32) ∧ s.KeepsRegs u [TRL_GEN, TRL_STAT])) ∧
  Turns .storeVerifyDone (fun s => ∀ r, s.store.op ≠ .verifying r) id ∧
  (∀ rec c, rec < 22 → Effects .storeVerifyDone (fun s => s.store.op = .verifying (some rec) ∧ s.useCopy rec = some c)
    (fun _ u => u.store.op = .idle ∧ u.bit TRL_EVT 0 = true ∧ u.bit TRL_BAD rec = false)) ∧
  (∀ rec, rec < 22 → Effects .storeVerifyDone (fun s => s.store.op = .verifying (some rec) ∧ s.useCopy rec = none ∧
      (s.copyEmpty rec false && s.copyEmpty rec true) = false)
    (fun _ u => u.store.op = .idle ∧ u.bit TRL_EVT 0 = true ∧ u.bit TRL_BAD rec = true))


/-! ### The machine as a whole -/

/-- A step takes the command at the front of the queue and is exec of it on the state with the queue's rest. -/
def Obligations.StepTakesTheFrontCommand : Prop :=
  ∀ c rest s, s.pending = c :: rest → step s = exec c { s with pending := rest }

/-- On an empty queue one RCLK cycle passes where RCLK runs, no reset is asserted and the tide has another cycle (R42, R50;
that an idle step is one cycle, and that it waits at a tide's last cycle, is the model's choice, log 3): where nothing is due
but the counters, the time base advances by 5, and no register but TIM_STAT changes, nor a memory the Warehouse is not at work
in; where something is due, the edge ends with it. Else the step changes nothing. -/
def Obligations.IdleStepPassesOneCycle : Prop :=
  ∀ s : State, s.pending = [] →
    (s.live = true → s.tide.cycle + 1 < s.tide.len → s.quiet = false → step s = .next s.nextEdge) ∧
    (s.live = true → s.tide.cycle + 1 < s.tide.len → s.quiet = true → s.creeps = false → ∃ t, step s = .next t ∧
      t.tide = { s.tide with cycle := s.tide.cycle + 1, tb := s.tide.tb + 5 } ∧
      (∀ off, off ≠ TIM_STAT → t.reg off = s.reg off) ∧ t.mem = s.mem ∧ t.cmd = s.cmd ∧ t.ust = s.ust ∧ t.pending = []) ∧
    (s.live = false ∨ s.tide.len ≤ s.tide.cycle + 1 → step s = .next s)

/-- What the spec says a unit reset leaves (R33, R41, R44, R115, R182, R196), here with BOOTHOST 0 and the cause power-on (the model's
choice of release, log 1; where the spec gives no value the one that resetValue holds is the model's, log 10): every register at its
reset value, AON ON and every other domain OFF, a tide of 100 cycles numbered 0 at its cycle 0, STATE_EPOCH 0 and nothing
staged, queued or tripped. The command queue is the model's own and empty. -/
def Obligations.ResetLeavesResetValues : Prop :=
  (∀ off, State.reset.reg off = resetValue off) ∧
  (∀ d, State.reset.dom d = if d = .aon then 2 else 0) ∧
  State.reset.tide.len = 100 ∧ State.reset.regN SYS_TIDE_LEN = 100 ∧ State.reset.tide.cycle = 0 ∧ State.reset.tide.number = 0 ∧
  State.reset.tide.tb = 0 ∧ State.reset.regN SYS_EPOCH = 0 ∧ State.reset.ust.writes = [] ∧ State.reset.ust.guards = [] ∧
  (∀ p, (State.reset.port p).queue = [] ∧ (State.reset.port p).chars = [] ∧ (State.reset.port p).out = []) ∧
  (∀ n, State.reset.tripped n = false) ∧ State.reset.live = true ∧ State.reset.pending = []

/-- Every sparse store of State.reset is in canonical form. -/
def Obligations.ResetIsCanonical : Prop := State.reset.wf = true

/-- Every step keeps every sparse store in canonical form: the registers, their low parts and snapshot latches, the notes of an
edge, the three memories, the Tralor store, the lanes' tables and the histograms' partial bins. Equal contents are therefore
equal data. -/
def Obligations.EveryStepKeepsTheStoresCanonical : Prop :=
  ∀ s t : State, s.wf = true → step s = .next t → t.wf = true

/-- While RCLK does not run, or a reset is asserted, nothing happens but what the rows of `actsUnclocked` do: no line, PCIe
access or tide action takes place (R67, R182). -/
def Obligations.NothingActsWithoutRclkOrUnderReset : Prop :=
  ∀ c s, actsUnclocked c = false → s.live = false → exec c s = .next s

/-- A line at a mailbox that is not there does nothing (R113); one that finds its port's queue full is discarded and counted
in CMD_DROP_p, and an ER 102 is owed (R97), except ABORT, which takes no slot; and one with an argument out of its range is
answered ER 105 with the position of that argument and changes nothing else (R92, R103). -/
def Obligations.PortsDiscardOrRefuseLines : Prop :=
  ∀ c p s, linePort c = some p → s.live = true →
    (s.portUp p = false → Gives s c s) ∧
    (s.portUp p = true → 16 ≤ (s.port p).lines → c ≠ .abort p →
      Gives s c ((s.setPort p { s.port p with owed := true }).count (CMD_DROP p) 1)) ∧
    (∀ k, Takes s p → argsBad c = some k → Gives s c (s.fail p 105 k))

/-- The Yard and what settles on an edge. A route fires on the code of an enabled event, a pin's on the edge it selects (R119);
its task acts on the OR of the masks that reach it, the merges are counted, one that its target cannot take is counted as
ignored, and an abort in progress discards the tasks ARM to SNAPSHOT (R120, R122, R123, R137); an event whose code is
enabled is logged, the oldest entry making room (R126), and a SNAPSHOT latches the time and the tide (R124). As an edge ends,
the events raised on it register in ascending order, each code once and only from a source whose domain is ON (R116, R126,
R135); what they are routed to is delivered two edges later (R121), where the user Bell bits are set too (R125). What settles
on an edge (a waiting save's snapshot, the engines that stop, the Bell) never changes a memory, the tide,
time of day, a domain, the words of the store or the queue; and where no engine has to stop and no save waits, it changes
nothing but the Bell, BEL_LOST and the pending bits of the vectors of waiting MSI-X messages. -/
def Obligations.EventsAreDeliveredAndSettlingKeepsTheRest : Prop :=
  (∀ (s : State) k c, s.routeFires k c = true ↔ s.bit (YRD_ROUTE k) 0 = true ∧ s.fld (YRD_ROUTE k) 4 7 = c ∧
    (32 ≤ c → c < 64 → s.fld (YRD_ROUTE k) 2 2 = (if s.pinLevel (c - 32) then 0 else 1) ∨ 2 ≤ s.fld (YRD_ROUTE k) 2 2)) ∧
  (∀ (s : State) codes t, (∀ c ∈ codes, ∀ k < 32, s.routeFires k c = true → s.fld (YRD_ROUTE k) 12 3 = t →
    s.fld (YRD_ROUTE k) 16 16 &&& taskMask t = 0) → s.matched codes t = none) ∧
  (∀ (s : State) codes t ms, s.deliveriesTo t codes = ms → ms ≠ [] →
    s.matched codes t = some (t, ms.foldl (· ||| ·) 0, ms.length)) ∧
  (∀ (s : State) codes, (∀ t x, (t, x) ∈ (s.routed codes).tasks ↔ t < 8 ∧ s.matched codes t = some (t, x)) ∧
    ∀ j < 8, (s.routed codes).bells.testBit j = true ↔ ∃ c ∈ codes, c ≠ 0 ∧ s.fld (YRD_BELL_SEL j) 0 7 = c) ∧
  (∀ (s : State) t m n,
    let u : State := s.count (YRD_COINC t) (n - 1)
    (s.cmd.abort.isSome = true → t ≤ 4 → s.deliverTask t m n = u.count YRD_ABORT_DISC 1) ∧
    (s.cmd.abort = none ∨ 4 < t → ∃ ign v, u.act t m = (ign, v) ∧
      s.deliverTask t m n = if ign then v.count (YRD_IGN t) 1 else v)) ∧
  (∀ s : State, s.codes.Pairwise (· < ·) ∧ ∀ c, c ∈ s.codes ↔ c ∈ s.yard.raised ∧ s.srcOn c = true) ∧
  (∀ s : State, s.edgeClose.yard.first = s.routed s.codes ∧ s.edgeClose.yard.second = s.yard.first ∧
    s.edgeClose.yard.raised = s.levelMoves.map (32 + ·) ∧
    s.edgeClose.yard.level.toNat = s.nextLevel ∧ s.edgeClose.mem = s.mem ∧ s.edgeClose.tide = s.tide ∧
    s.KeepsRegs s.edgeClose [YRD_LOG_LOST, YRD_LOG_FILL]) ∧
  (∀ s : State, s.yard.second.tasks = [] → s.arrive.yard = { s.yard with second := Routed.none } ∧
    s.KeepsRegs s.arrive [YRD_BELL_STAT] ∧
    ∀ j : Fin 8, s.arrive.bit YRD_BELL_STAT j = (s.bit YRD_BELL_STAT j || s.yard.second.bells.testBit j)) ∧
  (∀ (s : State) t m n, s.yard.second = ⟨[(t, m, n)], 0⟩ →
    s.arrive = { s with yard := { s.yard with second := Routed.none } }.deliverTask t m n) ∧
  (∀ (s : State) (g : Fin 8), (s.armCheck g = .ok () → s.act 0 (2 ^ g.val) = (false, s.arm g)) ∧
    ∀ e, s.armCheck g = .error e → s.act 0 (2 ^ g.val) = (true, s)) ∧
  (∀ (s : State) m, (s.act 4 m).2.reg72 YRD_SNAP_Q0 = s.now ∧ (s.act 4 m).2.reg (YRD_SNAP_TIDE 0) = BitVec.ofNat 32 s.tide.number.toNat ∧
    ∀ n : Fin 8, m.testBit n = true → s.chanPowered n = true →
      (s.act 4 m).2.regN (BRT_SNAP n) = s.fld (BRT_MON n) 0 22 + 2 ^ 31) ∧
  (∀ (s : State) c, s.bit (YRD_LOG_MASK (c / 32)) (c % 32) = false → s.logEvent c = s) ∧
  (∀ (s : State) c, s.bit (YRD_LOG_MASK (c / 32)) (c % 32) = true → (s.logEvent c).yard.log =
    (if 1024 ≤ s.yard.log.length then s.yard.log.drop 1 else s.yard.log) ++ [s.logEntry c] ∧
    (s.logEvent c).regN YRD_LOG_LOST = if 1024 ≤ s.yard.log.length then satAdd 0xFFFFFFFF (s.regN YRD_LOG_LOST) 1
      else s.regN YRD_LOG_LOST) ∧
  (∀ s : State, s.settle.mem = s.mem ∧ s.settle.tide = s.tide ∧ s.settle.tod = s.tod ∧ s.settle.pwr = s.pwr ∧
    s.settle.reg PWR_STATE = s.reg PWR_STATE ∧ s.settle.store.words = s.store.words ∧ s.settle.pending = s.pending) ∧
  (∀ s : State, (∀ g : Fin 8, s.engRuns g = true ∨ (s.eng g).still = true) → (∀ r, s.store.op ≠ .saveWait r) →
    s.settle = { s with regs := s.settle.regs, bell := s.settle.bell, edge := s.settle.edge, ust := { s.ust with touched := [] } } ∧
    ∀ off, (∀ m : Msi, m ∈ s.bell.msgs → off ≠ MSIX_PBA (m.vec / 32)) → s.settle.reg off = s.reg off)

/-- Staged PCIe writes at their boundary. A guard due whose epoch is not STATE_EPOCH discards every write it covers, each
counted in SYS_IGNORED, and sets SYS_CONFLICT.GUARD; no other write is lost, and their order stays (R43, R46). A write of
tide-applied fields that every check allows is applied and advances STATE_EPOCH; one in a DRAINING domain or one a check
refuses is counted as ignored (R27, R44, R47). -/
def Obligations.BoundariesDiscardApplyOrIgnoreWrites : Prop :=
  (∀ s : State,
    let bad := s.ust.guards.filter fun g => !g.late && g.epoch != s.reg SYS_EPOCH
    let t := s.guardCheck
    t.ust.writes.Sublist s.ust.writes ∧
    (∀ w : StagedWrite, w ∈ t.ust.writes ↔ w ∈ s.ust.writes ∧ ∀ g : Guard, g ∈ bad → g.serial ∉ w.cover) ∧
    (bad = [] → t.regs = s.regs) ∧
    (bad ≠ [] → t.regN SYS_IGNORED = satAdd 0xFFFFFFFF (s.regN SYS_IGNORED) (s.ust.writes.length - t.ust.writes.length) ∧
      t.bit SYS_CONFLICT 1 = true ∧ ∀ off, off ≠ SYS_IGNORED → off ≠ SYS_CONFLICT → t.reg off = s.reg off)) ∧
  (∀ (b : Bnd) (w : StagedWrite) (r : RegRow), regRow w.off = some r → r.ta ≠ 0 → w.off ≠ PWR_TARGET → w.off ≠ TRL_APPLY →
    let s : State := { b.s with ust := { b.s.ust with touched := [] } }
    let c : Chg := ⟨w.off, taMask w.off, w.val.toNat, w.lo.toNat⟩
    (s.dom (regDom w.off) ≠ 3 → s.Allows [c] → (b.write w).s = (s.made [c]).bumpEpoch ∧ w.off ∈ (b.write w).pcie) ∧
    (s.dom (regDom w.off) = 3 → (b.write w).s = s.ignore ∧ (b.write w).pcie = b.pcie) ∧
    (∀ e, s.dom (regDom w.off) ≠ 3 → s.checkAll (s.putAll [c]) [c] = .error e →
      (b.write w).s = s.ignore.noteRefusal e ∧ (b.write w).pcie = b.pcie))
end

