-- ==== Sys2Proof/Laws/Exec.lean ====
section
/-! SUPPORT. What exec answers for each row: its meaning, by name; and one step with a command in front. -/

namespace Sys2Proof.Machine

theorem exec_sysIdQuery p s : exec (.sysIdQuery p) s = execSysIdQuery p s := rfl
theorem exec_sysStepQuery p s : exec (.sysStepQuery p) s = execSysStepQuery p s := rfl
theorem exec_sysTide p n s : exec (.sysTide p n) s = execSysTide p n s := rfl
theorem exec_sysTideQuery p s : exec (.sysTideQuery p) s = execSysTideQuery p s := rfl
theorem exec_sysTidenumQuery p s : exec (.sysTidenumQuery p) s = execSysTidenumQuery p s := rfl
theorem exec_sysEpochQuery p s : exec (.sysEpochQuery p) s = execSysEpochQuery p s := rfl
theorem exec_sysGuard p e s : exec (.sysGuard p e) s = execSysGuard p e s := rfl
theorem exec_sysConflictQuery p s : exec (.sysConflictQuery p) s = execSysConflictQuery p s := rfl
theorem exec_sysUart p baud rts s : exec (.sysUart p baud rts) s = execSysUart p baud rts s := rfl
theorem exec_sysEcho p on s : exec (.sysEcho p on) s = execSysEcho p on s := rfl
theorem exec_sysNotify p mask s : exec (.sysNotify p mask) s = execSysNotify p mask s := rfl
theorem exec_sysErrQuery p s : exec (.sysErrQuery p) s = execSysErrQuery p s := rfl
theorem exec_sysReset p s : exec (.sysReset p) s = execSysReset p s := rfl
theorem exec_timeQuery p s : exec (.timeQuery p) s = execTimeQuery p s := rfl
theorem exec_timeSet p sec ns s : exec (.timeSet p sec ns) s = execTimeSet p sec ns s := rfl
theorem exec_timeCancel p s : exec (.timeCancel p) s = execTimeCancel p s := rfl
theorem exec_timeAdj p t s : exec (.timeAdj p t) s = execTimeAdj p t s := rfl
theorem exec_timePps p on fall s : exec (.timePps p on fall) s = execTimePps p on fall s := rfl
theorem exec_timePpslim p t step s : exec (.timePpslim p t step) s = execTimePpslim p t step s := rfl
theorem exec_timePpsQuery p s : exec (.timePpsQuery p) s = execTimePpsQuery p s := rfl
theorem exec_timeStampQuery p s : exec (.timeStampQuery p) s = execTimeStampQuery p s := rfl
theorem exec_reg p off v s : exec (.reg p off v) s = execReg p off v s := rfl
theorem exec_regQuery p off s : exec (.regQuery p off) s = execRegQuery p off s := rfl
theorem exec_abort p s : exec (.abort p) s = execAbort p s := rfl
theorem exec_clkAclk p fcw s : exec (.clkAclk p fcw) s = execClkAclk p fcw s := rfl
theorem exec_clkAclkQuery p s : exec (.clkAclkQuery p) s = execClkAclkQuery p s := rfl
theorem exec_clkFcw p v s : exec (.clkFcw p v) s = execClkFcw p v s := rfl
theorem exec_clkBw p h n s : exec (.clkBw p h n) s = execClkBw p h n s := rfl
theorem exec_clkLockwin p h n s : exec (.clkLockwin p h n) s = execClkLockwin p h n s := rfl
theorem exec_clkPhlim p h n s : exec (.clkPhlim p h n) s = execClkPhlim p h n s := rfl
theorem exec_clkAutores p h on s : exec (.clkAutores p h on) s = execClkAutores p h on s := rfl
theorem exec_clkResume p h s : exec (.clkResume p h) s = execClkResume p h s := rfl
theorem exec_clkDdr p r s : exec (.clkDdr p r) s = execClkDdr p r s := rfl
theorem exec_clkSync p on esync fall mask cont s : exec (.clkSync p on esync fall mask cont) s = execClkSync p on esync fall mask cont s := rfl
theorem exec_clkStatQuery p s : exec (.clkStatQuery p) s = execClkStatQuery p s := rfl
theorem exec_clkCountQuery p h s : exec (.clkCountQuery p h) s = execClkCountQuery p h s := rfl
theorem exec_pwrOn p d s : exec (.pwrOn p d) s = execPwrOn p d s := rfl
theorem exec_pwrOff p d s : exec (.pwrOff p d) s = execPwrOff p d s := rfl
theorem exec_pwrStateQuery p d s : exec (.pwrStateQuery p d) s = execPwrStateQuery p d s := rfl
theorem exec_pwrDiscQuery p d s : exec (.pwrDiscQuery p d) s = execPwrDiscQuery p d s := rfl
theorem exec_pwrCauseQuery p s : exec (.pwrCauseQuery p) s = execPwrCauseQuery p s := rfl
theorem exec_pwrPerst p host s : exec (.pwrPerst p host) s = execPwrPerst p host s := rfl
theorem exec_berthRoute p n mask s : exec (.berthRoute p n mask) s = execBerthRoute p n mask s := rfl
theorem exec_berthRouteQuery p n s : exec (.berthRouteQuery p n) s = execBerthRouteQuery p n s := rfl
theorem exec_berthMap p v s : exec (.berthMap p v) s = execBerthMap p v s := rfl
theorem exec_berthMapQuery p s : exec (.berthMapQuery p) s = execBerthMapQuery p s := rfl
theorem exec_berthCal p run which s : exec (.berthCal p run which) s = execBerthCal p run which s := rfl
theorem exec_berthCalQuery p s : exec (.berthCalQuery p) s = execBerthCalQuery p s := rfl
theorem exec_berthBgclear p s : exec (.berthBgclear p) s = execBerthBgclear p s := rfl
theorem exec_berthTrim p b v s : exec (.berthTrim p b v) s = execBerthTrim p b v s := rfl
theorem exec_berthTrimQuery p b s : exec (.berthTrimQuery p b) s = execBerthTrimQuery p b s := rfl
theorem exec_berthCalofs p b v s : exec (.berthCalofs p b v) s = execBerthCalofs p b v s := rfl
theorem exec_berthCalgain p b v s : exec (.berthCalgain p b v) s = execBerthCalgain p b v s := rfl
theorem exec_berthMonQuery p n s : exec (.berthMonQuery p n) s = execBerthMonQuery p n s := rfl
theorem exec_berthSnapQuery p n s : exec (.berthSnapQuery p n) s = execBerthSnapQuery p n s := rfl
theorem exec_berthMonchk p n on s : exec (.berthMonchk p n on) s = execBerthMonchk p n on s := rfl
theorem exec_berthMonstream p mask s : exec (.berthMonstream p mask) s = execBerthMonstream p mask s := rfl
theorem exec_berthOvrQuery p b s : exec (.berthOvrQuery p b) s = execBerthOvrQuery p b s := rfl
theorem exec_berthStatQuery p s : exec (.berthStatQuery p) s = execBerthStatQuery p s := rfl
theorem exec_pilotComp p n th hyst edge s : exec (.pilotComp p n th hyst edge) s = execPilotComp p n th hyst edge s := rfl
theorem exec_pilotCompQuery p n s : exec (.pilotCompQuery p n) s = execPilotCompQuery p n s := rfl
theorem exec_pilotDly p src v s : exec (.pilotDly p src v) s = execPilotDly p src v s := rfl
theorem exec_pilotDlyQuery p src s : exec (.pilotDlyQuery p src) s = execPilotDlyQuery p src s := rfl
theorem exec_pilotTrigin p j th edge s : exec (.pilotTrigin p j th edge) s = execPilotTrigin p j th edge s := rfl
theorem exec_pilotDig p d ch ty dir th1 th2 hyst ovrq s : exec (.pilotDig p d ch ty dir th1 th2 hyst ovrq) s = execPilotDig p d ch ty dir th1 th2 hyst ovrq s := rfl
theorem exec_pilotWidth p d cond w1 w2 s : exec (.pilotWidth p d cond w1 w2) s = execPilotWidth p d cond w1 w2 s := rfl
theorem exec_pilotSpan p d n s : exec (.pilotSpan p d n) s = execPilotSpan p d n s := rfl
theorem exec_pilotEng p g ab srcA srcB win s : exec (.pilotEng p g ab srcA srcB win) s = execPilotEng p g ab srcA srcB win s := rfl
theorem exec_pilotEngQuery p g s : exec (.pilotEngQuery p g) s = execPilotEngQuery p g s := rfl
theorem exec_pilotRef p g ch s : exec (.pilotRef p g ch) s = execPilotRef p g ch s := rfl
theorem exec_pilotQual p g src pol s : exec (.pilotQual p g src pol) s = execPilotQual p g src pol s := rfl
theorem exec_pilotHold p g count v s : exec (.pilotHold p g count v) s = execPilotHold p g count v s := rfl
theorem exec_pilotOn p g s : exec (.pilotOn p g) s = execPilotOn p g s := rfl
theorem exec_pilotOff p g s : exec (.pilotOff p g) s = execPilotOff p g s := rfl
theorem exec_pilotEfire p on src group width s : exec (.pilotEfire p on src group width) s = execPilotEfire p on src group width s := rfl
theorem exec_pilotTrigout p j mode sel width s : exec (.pilotTrigout p j mode sel width) s = execPilotTrigout p j mode sel width s := rfl
theorem exec_pilotLastQuery p g s : exec (.pilotLastQuery p g) s = execPilotLastQuery p g s := rfl
theorem exec_pilotCountQuery p g s : exec (.pilotCountQuery p g) s = execPilotCountQuery p g s := rfl
theorem exec_trig p gs s : exec (.trig p gs) s = execTrig p gs s := rfl
theorem exec_acqGroup p g stream mask s : exec (.acqGroup p g stream mask) s = execAcqGroup p g stream mask s := rfl
theorem exec_acqGroupQuery p g s : exec (.acqGroupQuery p g) s = execAcqGroupQuery p g s := rfl
theorem exec_acqMem p g mem base size s : exec (.acqMem p g mem base size) s = execAcqMem p g mem base size s := rfl
theorem exec_acqDisarm p g s : exec (.acqDisarm p g) s = execAcqDisarm p g s := rfl
theorem exec_acqStatQuery p g s : exec (.acqStatQuery p g) s = execAcqStatQuery p g s := rfl
theorem exec_acqDeadQuery p g s : exec (.acqDeadQuery p g) s = execAcqDeadQuery p g s := rfl
theorem exec_arm p gs s : exec (.arm p gs) s = execArm p gs s := rfl
theorem exec_segLen p g pre post s : exec (.segLen p g pre post) s = execSegLen p g pre post s := rfl
theorem exec_segOverlap p g on s : exec (.segOverlap p g on) s = execSegOverlap p g on s := rfl
theorem exec_segBuf p g ring count s : exec (.segBuf p g ring count) s = execSegBuf p g ring count s := rfl
theorem exec_segDir p mem base len s : exec (.segDir p mem base len) s = execSegDir p mem base len s := rfl
theorem exec_segDirQuery p s : exec (.segDirQuery p) s = execSegDirQuery p s := rfl
theorem exec_segSeqQuery p s : exec (.segSeqQuery p) s = execSegSeqQuery p s := rfl
theorem exec_streamSrc p g wmark s : exec (.streamSrc p g wmark) s = execStreamSrc p g wmark s := rfl
theorem exec_streamBlock p g log2 nbuf s : exec (.streamBlock p g log2 nbuf) s = execStreamBlock p g log2 nbuf s := rfl
theorem exec_streamStart p g s : exec (.streamStart p g) s = execStreamStart p g s := rfl
theorem exec_streamStop p g s : exec (.streamStop p g) s = execStreamStop p g s := rfl
theorem exec_streamGapQuery p g s : exec (.streamGapQuery p g) s = execStreamGapQuery p g s := rfl
theorem exec_wmarkSet p g mode d s : exec (.wmarkSet p g mode d) s = execWmarkSet p g mode d s := rfl
theorem exec_wmarkSetQuery p g s : exec (.wmarkSetQuery p g) s = execWmarkSetQuery p g s := rfl
theorem exec_whouseHist p h src res ovrx s : exec (.whouseHist p h src res ovrx) s = execWhouseHist p h src res ovrx s := rfl
theorem exec_whouseGate p h seg group s : exec (.whouseGate p h seg group) s = execWhouseGate p h seg group s := rfl
theorem exec_whouseTwin p h ofs shift s : exec (.whouseTwin p h ofs shift) s = execWhouseTwin p h ofs shift s := rfl
theorem exec_whouseFlusht p h t s : exec (.whouseFlusht p h t) s = execWhouseFlusht p h t s := rfl
theorem exec_whouseMem p obj mem base s : exec (.whouseMem p obj mem base) s = execWhouseMem p obj mem base s := rfl
theorem exec_whouseMap p m group ch cols rows ovrx s : exec (.whouseMap p m group ch cols rows ovrx) s = execWhouseMap p m group ch cols rows ovrx s := rfl
theorem exec_whouseRate p m r s : exec (.whouseRate p m r) s = execWhouseRate p m r s := rfl
theorem exec_whouseDecay p m k s : exec (.whouseDecay p m k) s = execWhouseDecay p m k s := rfl
theorem exec_whouseStart p obj clear s : exec (.whouseStart p obj clear) s = execWhouseStart p obj clear s := rfl
theorem exec_whouseStop p obj s : exec (.whouseStop p obj) s = execWhouseStop p obj s := rfl
theorem exec_whouseFlush p h s : exec (.whouseFlush p h) s = execWhouseFlush p h s := rfl
theorem exec_whouseStatQuery p obj s : exec (.whouseStatQuery p obj) s = execWhouseStatQuery p obj s := rfl
theorem exec_whouseBinsQuery p s : exec (.whouseBinsQuery p) s = execWhouseBinsQuery p s := rfl
theorem exec_dockCfg p n x16 dens8 ranks s : exec (.dockCfg p n x16 dens8 ranks) s = execDockCfg p n x16 dens8 ranks s := rfl
theorem exec_dockCfgNone p n s : exec (.dockCfgNone p n) s = execDockCfgNone p n s := rfl
theorem exec_dockCfgQuery p n s : exec (.dockCfgQuery p n) s = execDockCfgQuery p n s := rfl
theorem exec_dockTim p n cl cwl trcd trp twr trc tfaw trfc trrdl tccdl s : exec (.dockTim p n cl cwl trcd trp twr trc tfaw trfc trrdl tccdl) s = execDockTim p n cl cwl trcd trp twr trc tfaw trfc trrdl tccdl s := rfl
theorem exec_dockTrain p n s : exec (.dockTrain p n) s = execDockTrain p n s := rfl
theorem exec_dockFerry p n units s : exec (.dockFerry p n units) s = execDockFerry p n units s := rfl
theorem exec_dockCalQuery p n s : exec (.dockCalQuery p n) s = execDockCalQuery p n s := rfl
theorem exec_dockRefuseQuery p s : exec (.dockRefuseQuery p) s = execDockRefuseQuery p s := rfl
theorem exec_dockStatQuery p n s : exec (.dockStatQuery p n) s = execDockStatQuery p n s := rfl
theorem exec_dockErrQuery p n s : exec (.dockErrQuery p n) s = execDockErrQuery p n s := rfl
theorem exec_tallyIn p l src edge s : exec (.tallyIn p l src edge) s = execTallyIn p l src edge s := rfl
theorem exec_tallyMode p l mode partner s : exec (.tallyMode p l mode partner) s = execTallyMode p l mode partner s := rfl
theorem exec_tallyHold p l t s : exec (.tallyHold p l t) s = execTallyHold p l t s := rfl
theorem exec_tallyGate p l t s : exec (.tallyGate p l t) s = execTallyGate p l t s := rfl
theorem exec_tallyStill p l t s : exec (.tallyStill p l t) s = execTallyStill p l t s := rfl
theorem exec_tallyDly p l v s : exec (.tallyDly p l v) s = execTallyDly p l v s := rfl
theorem exec_tallyEdgein p j th hyst s : exec (.tallyEdgein p j th hyst) s = execTallyEdgein p j th hyst s := rfl
theorem exec_tallyStats p l n cont s : exec (.tallyStats p l n cont) s = execTallyStats p l n cont s := rfl
theorem exec_tallyStart p l s : exec (.tallyStart p l) s = execTallyStart p l s := rfl
theorem exec_tallyStop p l s : exec (.tallyStop p l) s = execTallyStop p l s := rfl
theorem exec_tallyResQuery p l s : exec (.tallyResQuery p l) s = execTallyResQuery p l s := rfl
theorem exec_tallyReadQuery p l s : exec (.tallyReadQuery p l) s = execTallyReadQuery p l s := rfl
theorem exec_tallyStatQuery p l s : exec (.tallyStatQuery p l) s = execTallyStatQuery p l s := rfl
theorem exec_tallyCal p m s : exec (.tallyCal p m) s = execTallyCal p m s := rfl
theorem exec_tallyCalQuery p s : exec (.tallyCalQuery p) s = execTallyCalQuery p s := rfl
theorem exec_knobCfg p filt still inv s : exec (.knobCfg p filt still inv) s = execKnobCfg p filt still inv s := rfl
theorem exec_knobPosQuery p s : exec (.knobPosQuery p) s = execKnobPosQuery p s := rfl
theorem exec_knobPos p v s : exec (.knobPos p v) s = execKnobPos p v s := rfl
theorem exec_knobSvc p on loop detent s : exec (.knobSvc p on loop detent) s = execKnobSvc p on loop detent s := rfl
theorem exec_knobLim p mn mx s : exec (.knobLim p mn mx) s = execKnobLim p mn mx s := rfl
theorem exec_knobAcc p i thresh step s : exec (.knobAcc p i thresh step) s = execKnobAcc p i thresh step s := rfl
theorem exec_sluiceMode p n mode s : exec (.sluiceMode p n mode) s = execSluiceMode p n mode s := rfl
theorem exec_sluiceIn p n ch neg s : exec (.sluiceIn p n ch neg) s = execSluiceIn p n ch neg s := rfl
theorem exec_sluiceShare p n on s : exec (.sluiceShare p n on) s = execSluiceShare p n on s := rfl
theorem exec_sluiceLaw p n hyst band s : exec (.sluiceLaw p n hyst band) s = execSluiceLaw p n hyst band s := rfl
theorem exec_sluiceTiming p n deadline cycle s : exec (.sluiceTiming p n deadline cycle) s = execSluiceTiming p n deadline cycle s := rfl
theorem exec_sluicePair p n on s : exec (.sluicePair p n on) s = execSluicePair p n on s := rfl
theorem exec_sluicePorts p n mask s : exec (.sluicePorts p n mask) s = execSluicePorts p n mask s := rfl
theorem exec_sluicePhsrc p n src s : exec (.sluicePhsrc p n src) s = execSluicePhsrc p n src s := rfl
theorem exec_sluiceSwpreset p n on s : exec (.sluiceSwpreset p n on) s = execSluiceSwpreset p n on s := rfl
theorem exec_sluiceSetp p n code s : exec (.sluiceSetp p n code) s = execSluiceSetp p n code s := rfl
theorem exec_sluiceManout p n v s : exec (.sluiceManout p n v) s = execSluiceManout p n v s := rfl
theorem exec_sluiceSafe p n v s : exec (.sluiceSafe p n v) s = execSluiceSafe p n v s := rfl
theorem exec_sluiceOutlim p n mn mx s : exec (.sluiceOutlim p n mn mx) s = execSluiceOutlim p n mn mx s := rfl
theorem exec_sluiceIlim p n lo hi s : exec (.sluiceIlim p n lo hi) s = execSluiceIlim p n lo hi s := rfl
theorem exec_sluiceStages p n k s : exec (.sluiceStages p n k) s = execSluiceStages p n k s := rfl
theorem exec_sluiceCoef p n k b0 b1 b2 a1 a2 s : exec (.sluiceCoef p n k b0 b1 b2 a1 a2) s = execSluiceCoef p n k b0 b1 b2 a1 a2 s := rfl
theorem exec_sluiceCoefraw p n k e m0 m1 m2 m3 m4 s : exec (.sluiceCoefraw p n k e m0 m1 m2 m3 m4) s = execSluiceCoefraw p n k e m0 m1 m2 m3 m4 s := rfl
theorem exec_sluiceKi p n ki s : exec (.sluiceKi p n ki) s = execSluiceKi p n ki s := rfl
theorem exec_sluiceDband p n i v s : exec (.sluiceDband p n i v) s = execSluiceDband p n i v s := rfl
theorem exec_sluiceRipple p n i v s : exec (.sluiceRipple p n i v) s = execSluiceRipple p n i v s := rfl
theorem exec_sluiceSwap p ns s : exec (.sluiceSwap p ns) s = execSluiceSwap p ns s := rfl
theorem exec_sluiceMoorafter p n s : exec (.sluiceMoorafter p n) s = execSluiceMoorafter p n s := rfl
theorem exec_sluiceStatQuery p n s : exec (.sluiceStatQuery p n) s = execSluiceStatQuery p n s := rfl
theorem exec_sluiceMissedQuery p n s : exec (.sluiceMissedQuery p n) s = execSluiceMissedQuery p n s := rfl
theorem exec_listEntry p i sp dwell s : exec (.listEntry p i sp dwell) s = execListEntry p i sp dwell s := rfl
theorem exec_listRange p n first last rep s : exec (.listRange p n first last rep) s = execListRange p n first last rep s := rfl
theorem exec_listRun p n s : exec (.listRun p n) s = execListRun p n s := rfl
theorem exec_listStop p n s : exec (.listStop p n) s = execListStop p n s := rfl
theorem exec_listStep p n s : exec (.listStep p n) s = execListStep p n s := rfl
theorem exec_listStatQuery p n s : exec (.listStatQuery p n) s = execListStatQuery p n s := rfl
theorem exec_slipMode p k mode s : exec (.slipMode p k mode) s = execSlipMode p k mode s := rfl
theorem exec_slipBus p sckdiv cpol ldac cyc s : exec (.slipBus p sckdiv cpol ldac cyc) s = execSlipBus p sckdiv cpol ldac cyc s := rfl
theorem exec_slipFrame p k len vbits vpos prefixv signed ldac s : exec (.slipFrame p k len vbits vpos prefixv signed ldac) s = execSlipFrame p k len vbits vpos prefixv signed ldac s := rfl
theorem exec_slipPwm p k per phase hshift bmode dt s : exec (.slipPwm p k per phase hshift bmode dt) s = execSlipPwm p k per phase hshift bmode dt s := rfl
theorem exec_slipSafe p k v s : exec (.slipSafe p k v) s = execSlipSafe p k v s := rfl
theorem exec_slipValue p k v s : exec (.slipValue p k v) s = execSlipValue p k v s := rfl
theorem exec_slipStatQuery p k s : exec (.slipStatQuery p k) s = execSlipStatQuery p k s := rfl
theorem exec_protChan p n v i s : exec (.protChan p n v i) s = execProtChan p n v i s := rfl
theorem exec_protLimit p n kind value s : exec (.protLimit p n kind value) s = execProtLimit p n kind value s := rfl
theorem exec_protPersist p n k s : exec (.protPersist p n k) s = execProtPersist p n k s := rfl
theorem exec_protUvdly p n k s : exec (.protUvdly p n k) s = execProtUvdly p n k s := rfl
theorem exec_protOvrt p n on s : exec (.protOvrt p n on) s = execProtOvrt p n on s := rfl
theorem exec_protFast p n th below mask s : exec (.protFast p n th below mask) s = execProtFast p n th below mask s := rfl
theorem exec_protFastOff p n s : exec (.protFastOff p n) s = execProtFastOff p n s := rfl
theorem exec_protTripout p j mask s : exec (.protTripout p j mask) s = execProtTripout p j mask s := rfl
theorem exec_protMoor p ns s : exec (.protMoor p ns) s = execProtMoor p ns s := rfl
theorem exec_protClear p ns s : exec (.protClear p ns) s = execProtClear p ns s := rfl
theorem exec_protStatQuery p s : exec (.protStatQuery p) s = execProtStatQuery p s := rfl
theorem exec_bellEn p n on s : exec (.bellEn p n on) s = execBellEn p n on s := rfl
theorem exec_bellEnQuery p s : exec (.bellEnQuery p) s = execBellEnQuery p s := rfl
theorem exec_bellTarget p t on count time s : exec (.bellTarget p t on count time) s = execBellTarget p t on count time s := rfl
theorem exec_bellTargetQuery p t s : exec (.bellTargetQuery p t) s = execBellTargetQuery p t s := rfl
theorem exec_bellVec p n v s : exec (.bellVec p n v) s = execBellVec p n v s := rfl
theorem exec_bellClaimQuery p t s : exec (.bellClaimQuery p t) s = execBellClaimQuery p t s := rfl
theorem exec_bellComplete p t n s : exec (.bellComplete p t n) s = execBellComplete p t n s := rfl
theorem exec_bellStatQuery p s : exec (.bellStatQuery p) s = execBellStatQuery p s := rfl
theorem exec_bellBadQuery p s : exec (.bellBadQuery p) s = execBellBadQuery p s := rfl
theorem exec_ferryRing p r ty szlog2 groups s : exec (.ferryRing p r ty szlog2 groups) s = execFerryRing p r ty szlog2 groups s := rfl
theorem exec_ferryBase p r d c s : exec (.ferryBase p r d c) s = execFerryBase p r d c s := rfl
theorem exec_ferryMod p r every hold s : exec (.ferryMod p r every hold) s = execFerryMod p r every hold s := rfl
theorem exec_ferryStart p r s : exec (.ferryStart p r) s = execFerryStart p r s := rfl
theorem exec_ferryStop p r s : exec (.ferryStop p r) s = execFerryStop p r s := rfl
theorem exec_ferryResume p r s : exec (.ferryResume p r) s = execFerryResume p r s := rfl
theorem exec_ferryPost p r n s : exec (.ferryPost p r n) s = execFerryPost p r n s := rfl
theorem exec_ferryStatQuery p r s : exec (.ferryStatQuery p r) s = execFerryStatQuery p r s := rfl
theorem exec_ferryBar2 p mem base s : exec (.ferryBar2 p mem base) s = execFerryBar2 p mem base s := rfl
theorem exec_ferryAbrec p addr s : exec (.ferryAbrec p addr) s = execFerryAbrec p addr s := rfl
theorem exec_ferryLinkQuery p s : exec (.ferryLinkQuery p) s = execFerryLinkQuery p s := rfl
theorem exec_emicaRole p role slot s : exec (.emicaRole p role slot) s = execEmicaRole p role slot s := rfl
theorem exec_emicaMembers p mask s : exec (.emicaMembers p mask) s = execEmicaMembers p mask s := rfl
theorem exec_emicaShare p ch on s : exec (.emicaShare p ch on) s = execEmicaShare p ch on s := rfl
theorem exec_emicaGain p ks clamp s : exec (.emicaGain p ks clamp) s = execEmicaGain p ks clamp s := rfl
theorem exec_emicaMoor p on s : exec (.emicaMoor p on) s = execEmicaMoor p on s := rfl
theorem exec_emicaCalrx p on s : exec (.emicaCalrx p on) s = execEmicaCalrx p on s := rfl
theorem exec_emicaEarm p mask s : exec (.emicaEarm p mask) s = execEmicaEarm p mask s := rfl
theorem exec_emicaAlign p s : exec (.emicaAlign p) s = execEmicaAlign p s := rfl
theorem exec_emicaArm p s : exec (.emicaArm p) s = execEmicaArm p s := rfl
theorem exec_emicaCalfire p s : exec (.emicaCalfire p) s = execEmicaCalfire p s := rfl
theorem exec_emicaCal p v s : exec (.emicaCal p v) s = execEmicaCal p v s := rfl
theorem exec_emicaCalQuery p s : exec (.emicaCalQuery p) s = execEmicaCalQuery p s := rfl
theorem exec_emicaShclr p s : exec (.emicaShclr p) s = execEmicaShclr p s := rfl
theorem exec_emicaStatQuery p s : exec (.emicaStatQuery p) s = execEmicaStatQuery p s := rfl
theorem exec_emicaValQuery p j s : exec (.emicaValQuery p j) s = execEmicaValQuery p j s := rfl
theorem exec_emicaAbsQuery p j s : exec (.emicaAbsQuery p j) s = execEmicaAbsQuery p j s := rfl
theorem exec_emicaRigofsQuery p s : exec (.emicaRigofsQuery p) s = execEmicaRigofsQuery p s := rfl
theorem exec_storeSave p rec s : exec (.storeSave p rec) s = execStoreSave p rec s := rfl
theorem exec_storeRecall p rec trim s : exec (.storeRecall p rec trim) s = execStoreRecall p rec trim s := rfl
theorem exec_storeApply p s : exec (.storeApply p) s = execStoreApply p s := rfl
theorem exec_storeVerify p rec s : exec (.storeVerify p rec) s = execStoreVerify p rec s := rfl
theorem exec_storeStatQuery p s : exec (.storeStatQuery p) s = execStoreStatQuery p s := rfl
theorem exec_storeIdentQuery p s : exec (.storeIdentQuery p) s = execStoreIdentQuery p s := rfl
theorem exec_storeRawQuery p addr s : exec (.storeRawQuery p addr) s = execStoreRawQuery p addr s := rfl
theorem exec_pinFunc p n func index park s : exec (.pinFunc p n func index park) s = execPinFunc p n func index park s := rfl
theorem exec_pinInv p n on s : exec (.pinInv p n on) s = execPinInv p n on s := rfl
theorem exec_pinGpo p n hi s : exec (.pinGpo p n hi) s = execPinGpo p n hi s := rfl
theorem exec_yardRoute p k src task target edge s : exec (.yardRoute p k src task target edge) s = execYardRoute p k src task target edge s := rfl
theorem exec_yardRouteQuery p k s : exec (.yardRouteQuery p k) s = execYardRouteQuery p k s := rfl
theorem exec_yardOff p k s : exec (.yardOff p k) s = execYardOff p k s := rfl
theorem exec_yardPulse p j s : exec (.yardPulse p j) s = execYardPulse p j s := rfl
theorem exec_yardBell p j src s : exec (.yardBell p j src) s = execYardBell p j src s := rfl
theorem exec_yardLogmask p src on s : exec (.yardLogmask p src on) s = execYardLogmask p src on s := rfl
theorem exec_pinFuncQuery p n s : exec (.pinFuncQuery p n) s = execPinFuncQuery p n s := rfl
theorem exec_pinLevelQuery p n s : exec (.pinLevelQuery p n) s = execPinLevelQuery p n s := rfl
theorem exec_yardBellQuery p s : exec (.yardBellQuery p) s = execYardBellQuery p s := rfl
theorem exec_yardLogQuery p s : exec (.yardLogQuery p) s = execYardLogQuery p s := rfl
theorem exec_yardCoincQuery p task s : exec (.yardCoincQuery p task) s = execYardCoincQuery p task s := rfl
theorem exec_yardIgnQuery p task s : exec (.yardIgnQuery p task) s = execYardIgnQuery p task s := rfl
theorem exec_yardAbortedQuery p s : exec (.yardAbortedQuery p) s = execYardAbortedQuery p s := rfl
theorem exec_yardSnapQuery p s : exec (.yardSnapQuery p) s = execYardSnapQuery p s := rfl
theorem exec_tideEdge s : exec (.tideEdge) s = execTideEdge s := rfl
theorem exec_stagingCutoff reach s : exec (.stagingCutoff reach) s = execStagingCutoff reach s := rfl
theorem exec_averagingWindowClose late s : exec (.averagingWindowClose late) s = execAveragingWindowClose late s := rfl
theorem exec_limitEvaluation s : exec (.limitEvaluation) s = execLimitEvaluation s := rfl
theorem exec_protectionLatchCycle s : exec (.protectionLatchCycle) s = execProtectionLatchCycle s := rfl
theorem exec_loopOutputWrite n s : exec (.loopOutputWrite n) s = execLoopOutputWrite n s := rfl
theorem exec_pinSwitchTakeover pads s : exec (.pinSwitchTakeover pads) s = execPinSwitchTakeover pads s := rfl
theorem exec_slpValueSend k s : exec (.slpValueSend k) s = execSlpValueSend k s := rfl
theorem exec_ldacCyclePulse s : exec (.ldacCyclePulse) s = execLdacCyclePulse s := rfl
theorem exec_secondRollover s : exec (.secondRollover) s = execSecondRollover s := rfl
theorem exec_slewStep s : exec (.slewStep) s = execSlewStep s := rfl
theorem exec_ppsEdge falling s : exec (.ppsEdge falling) s = execPpsEdge falling s := rfl
theorem exec_ppsLostTimeout s : exec (.ppsLostTimeout) s = execPpsLostTimeout s := rfl
theorem exec_uartByteReceived b bad s : exec (.uartByteReceived b bad) s = execUartByteReceived b bad s := rfl
theorem exec_uartRtsChange high s : exec (.uartRtsChange high) s = execUartRtsChange high s := rfl
theorem exec_spiCsFall sckHigh s : exec (.spiCsFall sckHigh) s = execSpiCsFall sckHigh s := rfl
theorem exec_spiByteTransfer mosi s : exec (.spiByteTransfer mosi) s = execSpiByteTransfer mosi s := rfl
theorem exec_spiCsRise cut s : exec (.spiCsRise cut) s = execSpiCsRise cut s := rfl
theorem exec_cmdMbInWrite v s : exec (.cmdMbInWrite v) s = execCmdMbInWrite v s := rfl
theorem exec_cmdMbOutRead s : exec (.cmdMbOutRead) s = execCmdMbOutRead s := rfl
theorem exec_lineParseComplete p s : exec (.lineParseComplete p) s = execLineParseComplete p s := rfl
theorem exec_responsePlaced p s : exec (.responsePlaced p) s = execResponsePlaced p s := rfl
theorem exec_asyncLineEmit p s : exec (.asyncLineEmit p) s = execAsyncLineEmit p s := rfl
theorem exec_uartRateApply s : exec (.uartRateApply) s = execUartRateApply s := rfl
theorem exec_bareTag p tag s : exec (.bareTag p tag) s = execBareTag p tag s := rfl
theorem exec_abortNLow s : exec (.abortNLow) s = execAbortNLow s := rfl
theorem exec_sysAbortGo s : exec (.sysAbortGo) s = execSysAbortGo s := rfl
theorem exec_abortDrained s : exec (.abortDrained) s = execAbortDrained s := rfl
theorem exec_abortedEmit s : exec (.abortedEmit) s = execAbortedEmit s := rfl
theorem exec_mfPinLevelChange n level s : exec (.mfPinLevelChange n level) s = execMfPinLevelChange n level s := rfl
theorem exec_yrdPulseWrite v s : exec (.yrdPulseWrite v) s = execYrdPulseWrite v s := rfl
theorem exec_yrdLogRead q s : exec (.yrdLogRead q) s = execYrdLogRead q s := rfl
theorem exec_refinAbsentDeclared s : exec (.refinAbsentDeclared) s = execRefinAbsentDeclared s := rfl
theorem exec_refinPresentDeclared s : exec (.refinPresentDeclared) s = execRefinPresentDeclared s := rfl
theorem exec_pullInComplete h s : exec (.pullInComplete h) s = execPullInComplete h s := rfl
theorem exec_lockWindowEnd h count s : exec (.lockWindowEnd h count) s = execLockWindowEnd h count s := rfl
theorem exec_lighthouseResume h s : exec (.lighthouseResume h) s = execLighthouseResume h s := rfl
theorem exec_lockLossPhase h s : exec (.lockLossPhase h) s = execLockLossPhase h s := rfl
theorem exec_capstanDllLocked s : exec (.capstanDllLocked) s = execCapstanDllLocked s := rfl
theorem exec_capstanLockSet s : exec (.capstanLockSet) s = execCapstanLockSet s := rfl
theorem exec_capstanLockClear s : exec (.capstanLockClear) s = execCapstanLockClear s := rfl
theorem exec_capstanHardFault s : exec (.capstanHardFault) s = execCapstanHardFault s := rfl
theorem exec_syncEdgeRegister esync falling s : exec (.syncEdgeRegister esync falling) s = execSyncEdgeRegister esync falling s := rfl
theorem exec_syncRealign s : exec (.syncRealign) s = execSyncRealign s := rfl
theorem exec_lhaSyncResume s : exec (.lhaSyncResume) s = execLhaSyncResume s := rfl
theorem exec_domainOnEntry d s : exec (.domainOnEntry d) s = execDomainOnEntry d s := rfl
theorem exec_domainOffEntry d s : exec (.domainOffEntry d) s = execDomainOffEntry d s := rfl
theorem exec_drainLimitReached d s : exec (.drainLimitReached d) s = execDrainLimitReached d s := rfl
theorem exec_domainStartFail d s : exec (.domainStartFail d) s = execDomainStartFail d s := rfl
theorem exec_powerOnReset s : exec (.powerOnReset) s = execPowerOnReset s := rfl
theorem exec_resetNAssert s : exec (.resetNAssert) s = execResetNAssert s := rfl
theorem exec_perstAssert s : exec (.perstAssert) s = execPerstAssert s := rfl
theorem exec_perstRelease s : exec (.perstRelease) s = execPerstRelease s := rfl
theorem exec_sysResetWrite v s : exec (.sysResetWrite v) s = execSysResetWrite v s := rfl
theorem exec_resetRelease boothost s : exec (.resetRelease boothost) s = execResetRelease boothost s := rfl
theorem exec_linkUp speed width s : exec (.linkUp speed width) s = execLinkUp speed width s := rfl
theorem exec_linkDown s : exec (.linkDown) s = execLinkDown s := rfl
theorem exec_pciePowerStateChange d3 s : exec (.pciePowerStateChange d3) s = execPciePowerStateChange d3 s := rfl
theorem exec_msixConfigChange enable busMaster s : exec (.msixConfigChange enable busMaster) s = execMsixConfigChange enable busMaster s := rfl
theorem exec_msixVectorUnmask v s : exec (.msixVectorUnmask v) s = execMsixVectorUnmask v s := rfl
theorem exec_berthOverRange b cyc positive s : exec (.berthOverRange b cyc positive) s = execBerthOverRange b cyc positive s := rfl
theorem exec_skewRoundComplete sums s : exec (.skewRoundComplete sums) s = execSkewRoundComplete sums s := rfl
theorem exec_matchBlockComplete ch s : exec (.matchBlockComplete ch) s = execMatchBlockComplete ch s := rfl
theorem exec_brtBgClearWrite s : exec (.brtBgClearWrite) s = execBrtBgClearWrite s := rfl
theorem exec_comparatorCrossing n e s : exec (.comparatorCrossing n e) s = execComparatorCrossing n e s := rfl
theorem exec_thresholdSettleEnd n high s : exec (.thresholdSettleEnd n high) s = execThresholdSettleEnd n high s := rfl
theorem exec_triginEdge j e s : exec (.triginEdge j e) s = execTriginEdge j e s := rfl
theorem exec_digitalDetectorFire d s : exec (.digitalDetectorFire d) s = execDigitalDetectorFire d s := rfl
theorem exec_engineEventEntry g s : exec (.engineEventEntry g) s = execEngineEventEntry g s := rfl
theorem exec_abWindowExpire g s : exec (.abWindowExpire g) s = execAbWindowExpire g s := rfl
theorem exec_efirePulseEnd s : exec (.efirePulseEnd) s = execEfirePulseEnd s := rfl
theorem exec_trigoutPulseEnd j s : exec (.trigoutPulseEnd j) s = execTrigoutPulseEnd j s := rfl
theorem exec_pltSoftWrite v s : exec (.pltSoftWrite v) s = execPltSoftWrite v s := rfl
theorem exec_readySampleReached g s : exec (.readySampleReached g) s = execReadySampleReached g s := rfl
theorem exec_segmentCaptureEnd g s : exec (.segmentCaptureEnd g) s = execSegmentCaptureEnd g s := rfl
theorem exec_segmentHeaderWritten g s : exec (.segmentHeaderWritten g) s = execSegmentHeaderWritten g s := rfl
theorem exec_groupCloseComplete g s : exec (.groupCloseComplete g) s = execGroupCloseComplete g s := rfl
theorem exec_streamBlockBegin g s : exec (.streamBlockBegin g) s = execStreamBlockBegin g s := rfl
theorem exec_streamBlockComplete g s : exec (.streamBlockComplete g) s = execStreamBlockComplete g s := rfl
theorem exec_decimatorIntervalEnd g ch s : exec (.decimatorIntervalEnd g ch) s = execDecimatorIntervalEnd g ch s := rfl
theorem exec_acqGCmdArm g s : exec (.acqGCmdArm g) s = execAcqGCmdArm g s := rfl
theorem exec_acqGCmdDisarm g s : exec (.acqGCmdDisarm g) s = execAcqGCmdDisarm g s := rfl
theorem exec_acqGCmdStart g s : exec (.acqGCmdStart g) s = execAcqGCmdStart g s := rfl
theorem exec_acqGCmdStop g s : exec (.acqGCmdStop g) s = execAcqGCmdStop g s := rfl
theorem exec_histSweepStart h s : exec (.histSweepStart h) s = execHistSweepStart h s := rfl
theorem exec_histSweepComplete h s : exec (.histSweepComplete h) s = execHistSweepComplete h s := rfl
theorem exec_whsHCmdFlush h s : exec (.whsHCmdFlush h) s = execWhsHCmdFlush h s := rfl
theorem exec_mapHitsWritten m s : exec (.mapHitsWritten m) s = execMapHitsWritten m s := rfl
theorem exec_mapDecayStart m s : exec (.mapDecayStart m) s = execMapDecayStart m s := rfl
theorem exec_mapDecayComplete m s : exec (.mapDecayComplete m) s = execMapDecayComplete m s := rfl
theorem exec_dckTrainWrite n s : exec (.dckTrainWrite n) s = execDckTrainWrite n s := rfl
theorem exec_dockTrainStepDone n s : exec (.dockTrainStepDone n) s = execDockTrainStepDone n s := rfl
theorem exec_dockTrainTimeout n s : exec (.dockTrainTimeout n) s = execDockTrainTimeout n s := rfl
theorem exec_refreshRoundStart n s : exec (.refreshRoundStart n) s = execRefreshRoundStart n s := rfl
theorem exec_alertNAssert n s : exec (.alertNAssert n) s = execAlertNAssert n s := rfl
theorem exec_dockSelfrefExit n s : exec (.dockSelfrefExit n) s = execDockSelfrefExit n s := rfl
theorem exec_bar2Read off dws s : exec (.bar2Read off dws) s = execBar2Read off dws s := rfl
theorem exec_bar2ReadTimeout s : exec (.bar2ReadTimeout) s = execBar2ReadTimeout s := rfl
theorem exec_bar2Write off v s : exec (.bar2Write off v) s = execBar2Write off v s := rfl
theorem exec_tallyEdgeAccepted l e s : exec (.tallyEdgeAccepted l e) s = execTallyEdgeAccepted l e s := rfl
theorem exec_freqStillTimeout l s : exec (.freqStillTimeout l) s = execFreqStillTimeout l s := rfl
theorem exec_intervalOverflow l s : exec (.intervalOverflow l) s = execIntervalOverflow l s := rfl
theorem exec_tallyCalHitsComplete l h s : exec (.tallyCalHitsComplete l h) s = execTallyCalHitsComplete l h s := rfl
theorem exec_tlyCalGoWrite m s : exec (.tlyCalGoWrite m) s = execTlyCalGoWrite m s := rfl
theorem exec_tlyCalLoadWrite m s : exec (.tlyCalLoadWrite m) s = execTlyCalLoadWrite m s := rfl
theorem exec_tlyTblDataAccess w s : exec (.tlyTblDataAccess w) s = execTlyTblDataAccess w s := rfl
theorem exec_tlyLCmdStart l s : exec (.tlyLCmdStart l) s = execTlyLCmdStart l s := rfl
theorem exec_tlyLCmdStop l s : exec (.tlyLCmdStop l) s = execTlyLCmdStop l s := rfl
theorem exec_tlyFifoRead q l s : exec (.tlyFifoRead q l) s = execTlyFifoRead q l s := rfl
theorem exec_knobCountEdge a b count s : exec (.knobCountEdge a b count) s = execKnobCountEdge a b count s := rfl
theorem exec_knobStillTimeout s : exec (.knobStillTimeout) s = execKnobStillTimeout s := rfl
theorem exec_listDwellExpire n s : exec (.listDwellExpire n) s = execListDwellExpire n s := rfl
theorem exec_slcSwapWrite m s : exec (.slcSwapWrite m) s = execSlcSwapWrite m s := rfl
theorem exec_slcStepWrite m s : exec (.slcStepWrite m) s = execSlcStepWrite m s := rfl
theorem exec_slcListcmdRun n s : exec (.slcListcmdRun n) s = execSlcListcmdRun n s := rfl
theorem exec_slcListcmdStop n s : exec (.slcListcmdStop n) s = execSlcListcmdStop n s := rfl
theorem exec_spidacFrameStart s : exec (.spidacFrameStart) s = execSpidacFrameStart s := rfl
theorem exec_spidacFrameEnd k s : exec (.spidacFrameEnd k) s = execSpidacFrameEnd k s := rfl
theorem exec_hrpwmValueSample k s : exec (.hrpwmValueSample k) s = execHrpwmValueSample k s := rfl
theorem exec_hrpwmPeriodStart k s : exec (.hrpwmPeriodStart k) s = execHrpwmPeriodStart k s := rfl
theorem exec_fastTripCrossing n s : exec (.fastTripCrossing n) s = execFastTripCrossing n s := rfl
theorem exec_prtCmdClear m s : exec (.prtCmdClear m) s = execPrtCmdClear m s := rfl
theorem exec_prtCmdMoor m s : exec (.prtCmdMoor m) s = execPrtCmdMoor m s := rfl
theorem exec_bellDelivery s : exec (.bellDelivery) s = execBellDelivery s := rfl
theorem exec_msixMessageSend s : exec (.msixMessageSend) s = execMsixMessageSend s := rfl
theorem exec_belClaimRead t s : exec (.belClaimRead t) s = execBelClaimRead t s := rfl
theorem exec_belCompleteWrite t n s : exec (.belCompleteWrite t n) s = execBelCompleteWrite t n s := rfl
theorem exec_belEnWrite hi v s : exec (.belEnWrite hi v) s = execBelEnWrite hi v s := rfl
theorem exec_descriptorFetchComplete r res s : exec (.descriptorFetchComplete r res) s = execDescriptorFetchComplete r res s := rfl
theorem exec_descriptorIssue r s : exec (.descriptorIssue r) s = execDescriptorIssue r s := rfl
theorem exec_descriptorComplete r s : exec (.descriptorComplete r) s = execDescriptorComplete r s := rfl
theorem exec_bufferHoldExpire r s : exec (.bufferHoldExpire r) s = execBufferHoldExpire r s := rfl
theorem exec_loadReadComplete r res s : exec (.loadReadComplete r res) s = execLoadReadComplete r res s := rfl
theorem exec_ringStopDone r s : exec (.ringStopDone r) s = execRingStopDone r s := rfl
theorem exec_fryRCmdStart r s : exec (.fryRCmdStart r) s = execFryRCmdStart r s := rfl
theorem exec_fryRCmdStop r s : exec (.fryRCmdStop r) s = execFryRCmdStop r s := rfl
theorem exec_fryRCmdResume r s : exec (.fryRCmdResume r) s = execFryRCmdResume r s := rfl
theorem exec_fryRPostWrite r n s : exec (.fryRPostWrite r n) s = execFryRPostWrite r n s := rfl
theorem exec_emicaPollSend s : exec (.emicaPollSend) s = execEmicaPollSend s := rfl
theorem exec_emicaSlotSend s : exec (.emicaSlotSend) s = execEmicaSlotSend s := rfl
theorem exec_emicaFrameReceived j w s : exec (.emicaFrameReceived j w) s = execEmicaFrameReceived j w s := rfl
theorem exec_emicaDeadline eclk s : exec (.emicaDeadline eclk) s = execEmicaDeadline eclk s := rfl
theorem exec_esyncPulse s : exec (.esyncPulse) s = execEsyncPulse s := rfl
theorem exec_earmPulse s : exec (.earmPulse) s = execEarmPulse s := rfl
theorem exec_earmReceived s : exec (.earmReceived) s = execEarmReceived s := rfl
theorem exec_calfirePulse s : exec (.calfirePulse) s = execCalfirePulse s := rfl
theorem exec_efireReceived e s : exec (.efireReceived e) s = execEfireReceived e s := rfl
theorem exec_emcCmdAlign s : exec (.emcCmdAlign) s = execEmcCmdAlign s := rfl
theorem exec_emcCmdArm s : exec (.emcCmdArm) s = execEmcCmdArm s := rfl
theorem exec_emcCmdCalfire s : exec (.emcCmdCalfire) s = execEmcCmdCalfire s := rfl
theorem exec_emcCmdShclr s : exec (.emcCmdShclr) s = execEmcCmdShclr s := rfl
theorem exec_trlCmdSave rec s : exec (.trlCmdSave rec) s = execTrlCmdSave rec s := rfl
theorem exec_trlCmdRecall rec trim s : exec (.trlCmdRecall rec trim) s = execTrlCmdRecall rec trim s := rfl
theorem exec_trlCmdVerify rec s : exec (.trlCmdVerify rec) s = execTrlCmdVerify rec s := rfl
theorem exec_trlApplyGo s : exec (.trlApplyGo) s = execTrlApplyGo s := rfl
theorem exec_trlRawDataRead q s : exec (.trlRawDataRead q) s = execTrlRawDataRead q s := rfl
theorem exec_storeSaveCopyDone good s : exec (.storeSaveCopyDone good) s = execStoreSaveCopyDone good s := rfl
theorem exec_storeRecallReadDone s : exec (.storeRecallReadDone) s = execStoreRecallReadDone s := rfl
theorem exec_storeVerifyDone s : exec (.storeVerifyDone) s = execStoreVerifyDone s := rfl
theorem exec_timSetCtrlGo s : exec (.timSetCtrlGo) s = execTimSetCtrlGo s := rfl
theorem exec_timSetCtrlCancel s : exec (.timSetCtrlCancel) s = execTimSetCtrlCancel s := rfl
theorem exec_timAdjWrite v s : exec (.timAdjWrite v) s = execTimAdjWrite v s := rfl
theorem exec_sysGuardWrite v s : exec (.sysGuardWrite v) s = execSysGuardWrite v s := rfl
theorem exec_clkLhaResumeWrite s : exec (.clkLhaResumeWrite) s = execClkLhaResumeWrite s := rfl
theorem exec_clkLhsResumeWrite s : exec (.clkLhsResumeWrite) s = execClkLhsResumeWrite s := rfl
theorem exec_snSnapshotRead q off s : exec (.snSnapshotRead q off) s = execSnSnapshotRead q off s := rfl
theorem exec_rcReadClear q off s : exec (.rcReadClear q off) s = execRcReadClear q off s := rfl
theorem exec_registerWrite off v be s : exec (.registerWrite off v be) s = execRegisterWrite off v be s := rfl
theorem exec_tapInstructionUpdate ir s : exec (.tapInstructionUpdate ir) s = execTapInstructionUpdate ir s := rfl
theorem exec_uartCharacterSent s : exec (.uartCharacterSent) s = execUartCharacterSent s := rfl
theorem exec_quayWordHandedOver ch cyc xs s : exec (.quayWordHandedOver ch cyc xs) s = execQuayWordHandedOver ch cyc xs s := rfl
theorem exec_calendarSlot n s : exec (.calendarSlot n) s = execCalendarSlot n s := rfl
theorem exec_mapClearComplete m s : exec (.mapClearComplete m) s = execMapClearComplete m s := rfl
theorem exec_fastTripStateLeft n s : exec (.fastTripStateLeft n) s = execFastTripStateLeft n s := rfl
theorem exec_aspmL1Entry s : exec (.aspmL1Entry) s = execAspmL1Entry s := rfl
theorem exec_bar0MultiDwRead off s : exec (.bar0MultiDwRead off) s = execBar0MultiDwRead off s := rfl
theorem exec_vddqFall s : exec (.vddqFall) s = execVddqFall s := rfl

/-- A step takes the command in front. -/
theorem step_front (s : State) (c : Instr) (rest : List Instr) (h : s.pending = c :: rest) :
    step s = exec c { s with pending := rest } := by
  unfold step; rw [h]

/-- A step on an empty queue. -/
theorem step_idle (s : State) (h : s.pending = []) : step s = .next s.tick := by
  unfold step; rw [h]

end Sys2Proof.Machine
end

