-- ==== Sys2Proof/Laws/State.lean ====
section
/-! SUPPORT. What the named updates of the state leave as it was, one lemma per field and update, and the field a plain
update replaces. -/

namespace Sys2Proof.Machine

variable (s : State)

/-! ### `State.setReg` -/

@[simp] theorem State.setReg_regs (off : Nat) (w : Word) : (s.setReg off w).regs = smSet resetValue s.regs off w := rfl
@[simp] theorem State.setReg_lows (off : Nat) (w : Word) : (s.setReg off w).lows = s.lows := rfl
@[simp] theorem State.setReg_latches (off : Nat) (w : Word) : (s.setReg off w).latches = s.latches := rfl
@[simp] theorem State.setReg_tide (off : Nat) (w : Word) : (s.setReg off w).tide = s.tide := rfl
@[simp] theorem State.setReg_edge (off : Nat) (w : Word) : (s.setReg off w).edge = s.edge := rfl
@[simp] theorem State.setReg_tod (off : Nat) (w : Word) : (s.setReg off w).tod = s.tod := rfl
@[simp] theorem State.setReg_ust (off : Nat) (w : Word) : (s.setReg off w).ust = s.ust := rfl
@[simp] theorem State.setReg_cmd (off : Nat) (w : Word) : (s.setReg off w).cmd = s.cmd := rfl
@[simp] theorem State.setReg_yard (off : Nat) (w : Word) : (s.setReg off w).yard = s.yard := rfl
@[simp] theorem State.setReg_mem (off : Nat) (w : Word) : (s.setReg off w).mem = s.mem := rfl
@[simp] theorem State.setReg_dock (off : Nat) (w : Word) : (s.setReg off w).dock = s.dock := rfl
@[simp] theorem State.setReg_brt (off : Nat) (w : Word) : (s.setReg off w).brt = s.brt := rfl
@[simp] theorem State.setReg_acq (off : Nat) (w : Word) : (s.setReg off w).acq = s.acq := rfl
@[simp] theorem State.setReg_hists (off : Nat) (w : Word) : (s.setReg off w).hists = s.hists := rfl
@[simp] theorem State.setReg_maps (off : Nat) (w : Word) : (s.setReg off w).maps = s.maps := rfl
@[simp] theorem State.setReg_fry (off : Nat) (w : Word) : (s.setReg off w).fry = s.fry := rfl
@[simp] theorem State.setReg_lanes (off : Nat) (w : Word) : (s.setReg off w).lanes = s.lanes := rfl
@[simp] theorem State.setReg_knob (off : Nat) (w : Word) : (s.setReg off w).knob = s.knob := rfl
@[simp] theorem State.setReg_plt (off : Nat) (w : Word) : (s.setReg off w).plt = s.plt := rfl
@[simp] theorem State.setReg_slc (off : Nat) (w : Word) : (s.setReg off w).slc = s.slc := rfl
@[simp] theorem State.setReg_slip (off : Nat) (w : Word) : (s.setReg off w).slip = s.slip := rfl
@[simp] theorem State.setReg_prt (off : Nat) (w : Word) : (s.setReg off w).prt = s.prt := rfl
@[simp] theorem State.setReg_emc (off : Nat) (w : Word) : (s.setReg off w).emc = s.emc := rfl
@[simp] theorem State.setReg_bell (off : Nat) (w : Word) : (s.setReg off w).bell = s.bell := rfl
@[simp] theorem State.setReg_store (off : Nat) (w : Word) : (s.setReg off w).store = s.store := rfl
@[simp] theorem State.setReg_clk (off : Nat) (w : Word) : (s.setReg off w).clk = s.clk := rfl
@[simp] theorem State.setReg_pwr (off : Nat) (w : Word) : (s.setReg off w).pwr = s.pwr := rfl
@[simp] theorem State.setReg_rdata (off : Nat) (w : Word) : (s.setReg off w).rdata = s.rdata := rfl
@[simp] theorem State.setReg_free (off : Nat) (w : Word) : (s.setReg off w).free = s.free := rfl
@[simp] theorem State.setReg_pending (off : Nat) (w : Word) : (s.setReg off w).pending = s.pending := rfl

/-! ### `State.setRegN` -/

@[simp] theorem State.setRegN_lows (off v : Nat) : (s.setRegN off v).lows = s.lows := rfl
@[simp] theorem State.setRegN_latches (off v : Nat) : (s.setRegN off v).latches = s.latches := rfl
@[simp] theorem State.setRegN_tide (off v : Nat) : (s.setRegN off v).tide = s.tide := rfl
@[simp] theorem State.setRegN_edge (off v : Nat) : (s.setRegN off v).edge = s.edge := rfl
@[simp] theorem State.setRegN_tod (off v : Nat) : (s.setRegN off v).tod = s.tod := rfl
@[simp] theorem State.setRegN_ust (off v : Nat) : (s.setRegN off v).ust = s.ust := rfl
@[simp] theorem State.setRegN_cmd (off v : Nat) : (s.setRegN off v).cmd = s.cmd := rfl
@[simp] theorem State.setRegN_yard (off v : Nat) : (s.setRegN off v).yard = s.yard := rfl
@[simp] theorem State.setRegN_mem (off v : Nat) : (s.setRegN off v).mem = s.mem := rfl
@[simp] theorem State.setRegN_dock (off v : Nat) : (s.setRegN off v).dock = s.dock := rfl
@[simp] theorem State.setRegN_brt (off v : Nat) : (s.setRegN off v).brt = s.brt := rfl
@[simp] theorem State.setRegN_acq (off v : Nat) : (s.setRegN off v).acq = s.acq := rfl
@[simp] theorem State.setRegN_hists (off v : Nat) : (s.setRegN off v).hists = s.hists := rfl
@[simp] theorem State.setRegN_maps (off v : Nat) : (s.setRegN off v).maps = s.maps := rfl
@[simp] theorem State.setRegN_fry (off v : Nat) : (s.setRegN off v).fry = s.fry := rfl
@[simp] theorem State.setRegN_lanes (off v : Nat) : (s.setRegN off v).lanes = s.lanes := rfl
@[simp] theorem State.setRegN_knob (off v : Nat) : (s.setRegN off v).knob = s.knob := rfl
@[simp] theorem State.setRegN_plt (off v : Nat) : (s.setRegN off v).plt = s.plt := rfl
@[simp] theorem State.setRegN_slc (off v : Nat) : (s.setRegN off v).slc = s.slc := rfl
@[simp] theorem State.setRegN_slip (off v : Nat) : (s.setRegN off v).slip = s.slip := rfl
@[simp] theorem State.setRegN_prt (off v : Nat) : (s.setRegN off v).prt = s.prt := rfl
@[simp] theorem State.setRegN_emc (off v : Nat) : (s.setRegN off v).emc = s.emc := rfl
@[simp] theorem State.setRegN_bell (off v : Nat) : (s.setRegN off v).bell = s.bell := rfl
@[simp] theorem State.setRegN_store (off v : Nat) : (s.setRegN off v).store = s.store := rfl
@[simp] theorem State.setRegN_clk (off v : Nat) : (s.setRegN off v).clk = s.clk := rfl
@[simp] theorem State.setRegN_pwr (off v : Nat) : (s.setRegN off v).pwr = s.pwr := rfl
@[simp] theorem State.setRegN_rdata (off v : Nat) : (s.setRegN off v).rdata = s.rdata := rfl
@[simp] theorem State.setRegN_free (off v : Nat) : (s.setRegN off v).free = s.free := rfl
@[simp] theorem State.setRegN_pending (off v : Nat) : (s.setRegN off v).pending = s.pending := rfl

/-! ### `State.setFld` -/

@[simp] theorem State.setFld_lows (off lo w v : Nat) : (s.setFld off lo w v).lows = s.lows := rfl
@[simp] theorem State.setFld_latches (off lo w v : Nat) : (s.setFld off lo w v).latches = s.latches := rfl
@[simp] theorem State.setFld_tide (off lo w v : Nat) : (s.setFld off lo w v).tide = s.tide := rfl
@[simp] theorem State.setFld_edge (off lo w v : Nat) : (s.setFld off lo w v).edge = s.edge := rfl
@[simp] theorem State.setFld_tod (off lo w v : Nat) : (s.setFld off lo w v).tod = s.tod := rfl
@[simp] theorem State.setFld_ust (off lo w v : Nat) : (s.setFld off lo w v).ust = s.ust := rfl
@[simp] theorem State.setFld_cmd (off lo w v : Nat) : (s.setFld off lo w v).cmd = s.cmd := rfl
@[simp] theorem State.setFld_yard (off lo w v : Nat) : (s.setFld off lo w v).yard = s.yard := rfl
@[simp] theorem State.setFld_mem (off lo w v : Nat) : (s.setFld off lo w v).mem = s.mem := rfl
@[simp] theorem State.setFld_dock (off lo w v : Nat) : (s.setFld off lo w v).dock = s.dock := rfl
@[simp] theorem State.setFld_brt (off lo w v : Nat) : (s.setFld off lo w v).brt = s.brt := rfl
@[simp] theorem State.setFld_acq (off lo w v : Nat) : (s.setFld off lo w v).acq = s.acq := rfl
@[simp] theorem State.setFld_hists (off lo w v : Nat) : (s.setFld off lo w v).hists = s.hists := rfl
@[simp] theorem State.setFld_maps (off lo w v : Nat) : (s.setFld off lo w v).maps = s.maps := rfl
@[simp] theorem State.setFld_fry (off lo w v : Nat) : (s.setFld off lo w v).fry = s.fry := rfl
@[simp] theorem State.setFld_lanes (off lo w v : Nat) : (s.setFld off lo w v).lanes = s.lanes := rfl
@[simp] theorem State.setFld_knob (off lo w v : Nat) : (s.setFld off lo w v).knob = s.knob := rfl
@[simp] theorem State.setFld_plt (off lo w v : Nat) : (s.setFld off lo w v).plt = s.plt := rfl
@[simp] theorem State.setFld_slc (off lo w v : Nat) : (s.setFld off lo w v).slc = s.slc := rfl
@[simp] theorem State.setFld_slip (off lo w v : Nat) : (s.setFld off lo w v).slip = s.slip := rfl
@[simp] theorem State.setFld_prt (off lo w v : Nat) : (s.setFld off lo w v).prt = s.prt := rfl
@[simp] theorem State.setFld_emc (off lo w v : Nat) : (s.setFld off lo w v).emc = s.emc := rfl
@[simp] theorem State.setFld_bell (off lo w v : Nat) : (s.setFld off lo w v).bell = s.bell := rfl
@[simp] theorem State.setFld_store (off lo w v : Nat) : (s.setFld off lo w v).store = s.store := rfl
@[simp] theorem State.setFld_clk (off lo w v : Nat) : (s.setFld off lo w v).clk = s.clk := rfl
@[simp] theorem State.setFld_pwr (off lo w v : Nat) : (s.setFld off lo w v).pwr = s.pwr := rfl
@[simp] theorem State.setFld_rdata (off lo w v : Nat) : (s.setFld off lo w v).rdata = s.rdata := rfl
@[simp] theorem State.setFld_free (off lo w v : Nat) : (s.setFld off lo w v).free = s.free := rfl
@[simp] theorem State.setFld_pending (off lo w v : Nat) : (s.setFld off lo w v).pending = s.pending := rfl

/-! ### `State.setBit` -/

@[simp] theorem State.setBit_lows (off i : Nat) (b : Bool) : (s.setBit off i b).lows = s.lows := rfl
@[simp] theorem State.setBit_latches (off i : Nat) (b : Bool) : (s.setBit off i b).latches = s.latches := rfl
@[simp] theorem State.setBit_tide (off i : Nat) (b : Bool) : (s.setBit off i b).tide = s.tide := rfl
@[simp] theorem State.setBit_edge (off i : Nat) (b : Bool) : (s.setBit off i b).edge = s.edge := rfl
@[simp] theorem State.setBit_tod (off i : Nat) (b : Bool) : (s.setBit off i b).tod = s.tod := rfl
@[simp] theorem State.setBit_ust (off i : Nat) (b : Bool) : (s.setBit off i b).ust = s.ust := rfl
@[simp] theorem State.setBit_cmd (off i : Nat) (b : Bool) : (s.setBit off i b).cmd = s.cmd := rfl
@[simp] theorem State.setBit_yard (off i : Nat) (b : Bool) : (s.setBit off i b).yard = s.yard := rfl
@[simp] theorem State.setBit_mem (off i : Nat) (b : Bool) : (s.setBit off i b).mem = s.mem := rfl
@[simp] theorem State.setBit_dock (off i : Nat) (b : Bool) : (s.setBit off i b).dock = s.dock := rfl
@[simp] theorem State.setBit_brt (off i : Nat) (b : Bool) : (s.setBit off i b).brt = s.brt := rfl
@[simp] theorem State.setBit_acq (off i : Nat) (b : Bool) : (s.setBit off i b).acq = s.acq := rfl
@[simp] theorem State.setBit_hists (off i : Nat) (b : Bool) : (s.setBit off i b).hists = s.hists := rfl
@[simp] theorem State.setBit_maps (off i : Nat) (b : Bool) : (s.setBit off i b).maps = s.maps := rfl
@[simp] theorem State.setBit_fry (off i : Nat) (b : Bool) : (s.setBit off i b).fry = s.fry := rfl
@[simp] theorem State.setBit_lanes (off i : Nat) (b : Bool) : (s.setBit off i b).lanes = s.lanes := rfl
@[simp] theorem State.setBit_knob (off i : Nat) (b : Bool) : (s.setBit off i b).knob = s.knob := rfl
@[simp] theorem State.setBit_plt (off i : Nat) (b : Bool) : (s.setBit off i b).plt = s.plt := rfl
@[simp] theorem State.setBit_slc (off i : Nat) (b : Bool) : (s.setBit off i b).slc = s.slc := rfl
@[simp] theorem State.setBit_slip (off i : Nat) (b : Bool) : (s.setBit off i b).slip = s.slip := rfl
@[simp] theorem State.setBit_prt (off i : Nat) (b : Bool) : (s.setBit off i b).prt = s.prt := rfl
@[simp] theorem State.setBit_emc (off i : Nat) (b : Bool) : (s.setBit off i b).emc = s.emc := rfl
@[simp] theorem State.setBit_bell (off i : Nat) (b : Bool) : (s.setBit off i b).bell = s.bell := rfl
@[simp] theorem State.setBit_store (off i : Nat) (b : Bool) : (s.setBit off i b).store = s.store := rfl
@[simp] theorem State.setBit_clk (off i : Nat) (b : Bool) : (s.setBit off i b).clk = s.clk := rfl
@[simp] theorem State.setBit_pwr (off i : Nat) (b : Bool) : (s.setBit off i b).pwr = s.pwr := rfl
@[simp] theorem State.setBit_rdata (off i : Nat) (b : Bool) : (s.setBit off i b).rdata = s.rdata := rfl
@[simp] theorem State.setBit_free (off i : Nat) (b : Bool) : (s.setBit off i b).free = s.free := rfl
@[simp] theorem State.setBit_pending (off i : Nat) (b : Bool) : (s.setBit off i b).pending = s.pending := rfl

/-! ### `State.modEdge` -/

@[simp] theorem State.modEdge_regs (f : EdgeSt → EdgeSt) : (s.modEdge f).regs = s.regs := rfl
@[simp] theorem State.modEdge_lows (f : EdgeSt → EdgeSt) : (s.modEdge f).lows = s.lows := rfl
@[simp] theorem State.modEdge_latches (f : EdgeSt → EdgeSt) : (s.modEdge f).latches = s.latches := rfl
@[simp] theorem State.modEdge_tide (f : EdgeSt → EdgeSt) : (s.modEdge f).tide = s.tide := rfl
@[simp] theorem State.modEdge_tod (f : EdgeSt → EdgeSt) : (s.modEdge f).tod = s.tod := rfl
@[simp] theorem State.modEdge_ust (f : EdgeSt → EdgeSt) : (s.modEdge f).ust = s.ust := rfl
@[simp] theorem State.modEdge_cmd (f : EdgeSt → EdgeSt) : (s.modEdge f).cmd = s.cmd := rfl
@[simp] theorem State.modEdge_yard (f : EdgeSt → EdgeSt) : (s.modEdge f).yard = s.yard := rfl
@[simp] theorem State.modEdge_mem (f : EdgeSt → EdgeSt) : (s.modEdge f).mem = s.mem := rfl
@[simp] theorem State.modEdge_dock (f : EdgeSt → EdgeSt) : (s.modEdge f).dock = s.dock := rfl
@[simp] theorem State.modEdge_brt (f : EdgeSt → EdgeSt) : (s.modEdge f).brt = s.brt := rfl
@[simp] theorem State.modEdge_acq (f : EdgeSt → EdgeSt) : (s.modEdge f).acq = s.acq := rfl
@[simp] theorem State.modEdge_hists (f : EdgeSt → EdgeSt) : (s.modEdge f).hists = s.hists := rfl
@[simp] theorem State.modEdge_maps (f : EdgeSt → EdgeSt) : (s.modEdge f).maps = s.maps := rfl
@[simp] theorem State.modEdge_fry (f : EdgeSt → EdgeSt) : (s.modEdge f).fry = s.fry := rfl
@[simp] theorem State.modEdge_lanes (f : EdgeSt → EdgeSt) : (s.modEdge f).lanes = s.lanes := rfl
@[simp] theorem State.modEdge_knob (f : EdgeSt → EdgeSt) : (s.modEdge f).knob = s.knob := rfl
@[simp] theorem State.modEdge_plt (f : EdgeSt → EdgeSt) : (s.modEdge f).plt = s.plt := rfl
@[simp] theorem State.modEdge_slc (f : EdgeSt → EdgeSt) : (s.modEdge f).slc = s.slc := rfl
@[simp] theorem State.modEdge_slip (f : EdgeSt → EdgeSt) : (s.modEdge f).slip = s.slip := rfl
@[simp] theorem State.modEdge_prt (f : EdgeSt → EdgeSt) : (s.modEdge f).prt = s.prt := rfl
@[simp] theorem State.modEdge_emc (f : EdgeSt → EdgeSt) : (s.modEdge f).emc = s.emc := rfl
@[simp] theorem State.modEdge_bell (f : EdgeSt → EdgeSt) : (s.modEdge f).bell = s.bell := rfl
@[simp] theorem State.modEdge_store (f : EdgeSt → EdgeSt) : (s.modEdge f).store = s.store := rfl
@[simp] theorem State.modEdge_clk (f : EdgeSt → EdgeSt) : (s.modEdge f).clk = s.clk := rfl
@[simp] theorem State.modEdge_pwr (f : EdgeSt → EdgeSt) : (s.modEdge f).pwr = s.pwr := rfl
@[simp] theorem State.modEdge_rdata (f : EdgeSt → EdgeSt) : (s.modEdge f).rdata = s.rdata := rfl
@[simp] theorem State.modEdge_free (f : EdgeSt → EdgeSt) : (s.modEdge f).free = s.free := rfl
@[simp] theorem State.modEdge_pending (f : EdgeSt → EdgeSt) : (s.modEdge f).pending = s.pending := rfl
@[simp] theorem State.modEdge_edge (f : EdgeSt → EdgeSt) : (s.modEdge f).edge = f s.edge := rfl
@[simp] theorem State.modEdge_reg (f : EdgeSt → EdgeSt) (off : Nat) : (s.modEdge f).reg off = s.reg off := rfl
@[simp] theorem State.modEdge_regN (f : EdgeSt → EdgeSt) (off : Nat) : (s.modEdge f).regN off = s.regN off := rfl

/-! ### `State.flag` -/

@[simp] theorem State.flag_lows (off i : Nat) : (s.flag off i).lows = s.lows := rfl
@[simp] theorem State.flag_latches (off i : Nat) : (s.flag off i).latches = s.latches := rfl
@[simp] theorem State.flag_tide (off i : Nat) : (s.flag off i).tide = s.tide := rfl
@[simp] theorem State.flag_tod (off i : Nat) : (s.flag off i).tod = s.tod := rfl
@[simp] theorem State.flag_ust (off i : Nat) : (s.flag off i).ust = s.ust := rfl
@[simp] theorem State.flag_cmd (off i : Nat) : (s.flag off i).cmd = s.cmd := rfl
@[simp] theorem State.flag_yard (off i : Nat) : (s.flag off i).yard = s.yard := rfl
@[simp] theorem State.flag_mem (off i : Nat) : (s.flag off i).mem = s.mem := rfl
@[simp] theorem State.flag_dock (off i : Nat) : (s.flag off i).dock = s.dock := rfl
@[simp] theorem State.flag_brt (off i : Nat) : (s.flag off i).brt = s.brt := rfl
@[simp] theorem State.flag_acq (off i : Nat) : (s.flag off i).acq = s.acq := rfl
@[simp] theorem State.flag_hists (off i : Nat) : (s.flag off i).hists = s.hists := rfl
@[simp] theorem State.flag_maps (off i : Nat) : (s.flag off i).maps = s.maps := rfl
@[simp] theorem State.flag_fry (off i : Nat) : (s.flag off i).fry = s.fry := rfl
@[simp] theorem State.flag_lanes (off i : Nat) : (s.flag off i).lanes = s.lanes := rfl
@[simp] theorem State.flag_knob (off i : Nat) : (s.flag off i).knob = s.knob := rfl
@[simp] theorem State.flag_plt (off i : Nat) : (s.flag off i).plt = s.plt := rfl
@[simp] theorem State.flag_slc (off i : Nat) : (s.flag off i).slc = s.slc := rfl
@[simp] theorem State.flag_slip (off i : Nat) : (s.flag off i).slip = s.slip := rfl
@[simp] theorem State.flag_prt (off i : Nat) : (s.flag off i).prt = s.prt := rfl
@[simp] theorem State.flag_emc (off i : Nat) : (s.flag off i).emc = s.emc := rfl
@[simp] theorem State.flag_bell (off i : Nat) : (s.flag off i).bell = s.bell := rfl
@[simp] theorem State.flag_store (off i : Nat) : (s.flag off i).store = s.store := rfl
@[simp] theorem State.flag_clk (off i : Nat) : (s.flag off i).clk = s.clk := rfl
@[simp] theorem State.flag_pwr (off i : Nat) : (s.flag off i).pwr = s.pwr := rfl
@[simp] theorem State.flag_rdata (off i : Nat) : (s.flag off i).rdata = s.rdata := rfl
@[simp] theorem State.flag_free (off i : Nat) : (s.flag off i).free = s.free := rfl
@[simp] theorem State.flag_pending (off i : Nat) : (s.flag off i).pending = s.pending := rfl

/-! ### `State.count` -/

@[simp] theorem State.count_lows (off n : Nat) : (s.count off n).lows = s.lows := rfl
@[simp] theorem State.count_latches (off n : Nat) : (s.count off n).latches = s.latches := rfl
@[simp] theorem State.count_tide (off n : Nat) : (s.count off n).tide = s.tide := rfl
@[simp] theorem State.count_tod (off n : Nat) : (s.count off n).tod = s.tod := rfl
@[simp] theorem State.count_ust (off n : Nat) : (s.count off n).ust = s.ust := rfl
@[simp] theorem State.count_cmd (off n : Nat) : (s.count off n).cmd = s.cmd := rfl
@[simp] theorem State.count_yard (off n : Nat) : (s.count off n).yard = s.yard := rfl
@[simp] theorem State.count_mem (off n : Nat) : (s.count off n).mem = s.mem := rfl
@[simp] theorem State.count_dock (off n : Nat) : (s.count off n).dock = s.dock := rfl
@[simp] theorem State.count_brt (off n : Nat) : (s.count off n).brt = s.brt := rfl
@[simp] theorem State.count_acq (off n : Nat) : (s.count off n).acq = s.acq := rfl
@[simp] theorem State.count_hists (off n : Nat) : (s.count off n).hists = s.hists := rfl
@[simp] theorem State.count_maps (off n : Nat) : (s.count off n).maps = s.maps := rfl
@[simp] theorem State.count_fry (off n : Nat) : (s.count off n).fry = s.fry := rfl
@[simp] theorem State.count_lanes (off n : Nat) : (s.count off n).lanes = s.lanes := rfl
@[simp] theorem State.count_knob (off n : Nat) : (s.count off n).knob = s.knob := rfl
@[simp] theorem State.count_plt (off n : Nat) : (s.count off n).plt = s.plt := rfl
@[simp] theorem State.count_slc (off n : Nat) : (s.count off n).slc = s.slc := rfl
@[simp] theorem State.count_slip (off n : Nat) : (s.count off n).slip = s.slip := rfl
@[simp] theorem State.count_prt (off n : Nat) : (s.count off n).prt = s.prt := rfl
@[simp] theorem State.count_emc (off n : Nat) : (s.count off n).emc = s.emc := rfl
@[simp] theorem State.count_bell (off n : Nat) : (s.count off n).bell = s.bell := rfl
@[simp] theorem State.count_store (off n : Nat) : (s.count off n).store = s.store := rfl
@[simp] theorem State.count_clk (off n : Nat) : (s.count off n).clk = s.clk := rfl
@[simp] theorem State.count_pwr (off n : Nat) : (s.count off n).pwr = s.pwr := rfl
@[simp] theorem State.count_rdata (off n : Nat) : (s.count off n).rdata = s.rdata := rfl
@[simp] theorem State.count_free (off n : Nat) : (s.count off n).free = s.free := rfl
@[simp] theorem State.count_pending (off n : Nat) : (s.count off n).pending = s.pending := rfl

/-! ### `State.countFld` -/

@[simp] theorem State.countFld_lows (off lo w n : Nat) : (s.countFld off lo w n).lows = s.lows := rfl
@[simp] theorem State.countFld_latches (off lo w n : Nat) : (s.countFld off lo w n).latches = s.latches := rfl
@[simp] theorem State.countFld_tide (off lo w n : Nat) : (s.countFld off lo w n).tide = s.tide := rfl
@[simp] theorem State.countFld_tod (off lo w n : Nat) : (s.countFld off lo w n).tod = s.tod := rfl
@[simp] theorem State.countFld_ust (off lo w n : Nat) : (s.countFld off lo w n).ust = s.ust := rfl
@[simp] theorem State.countFld_cmd (off lo w n : Nat) : (s.countFld off lo w n).cmd = s.cmd := rfl
@[simp] theorem State.countFld_yard (off lo w n : Nat) : (s.countFld off lo w n).yard = s.yard := rfl
@[simp] theorem State.countFld_mem (off lo w n : Nat) : (s.countFld off lo w n).mem = s.mem := rfl
@[simp] theorem State.countFld_dock (off lo w n : Nat) : (s.countFld off lo w n).dock = s.dock := rfl
@[simp] theorem State.countFld_brt (off lo w n : Nat) : (s.countFld off lo w n).brt = s.brt := rfl
@[simp] theorem State.countFld_acq (off lo w n : Nat) : (s.countFld off lo w n).acq = s.acq := rfl
@[simp] theorem State.countFld_hists (off lo w n : Nat) : (s.countFld off lo w n).hists = s.hists := rfl
@[simp] theorem State.countFld_maps (off lo w n : Nat) : (s.countFld off lo w n).maps = s.maps := rfl
@[simp] theorem State.countFld_fry (off lo w n : Nat) : (s.countFld off lo w n).fry = s.fry := rfl
@[simp] theorem State.countFld_lanes (off lo w n : Nat) : (s.countFld off lo w n).lanes = s.lanes := rfl
@[simp] theorem State.countFld_knob (off lo w n : Nat) : (s.countFld off lo w n).knob = s.knob := rfl
@[simp] theorem State.countFld_plt (off lo w n : Nat) : (s.countFld off lo w n).plt = s.plt := rfl
@[simp] theorem State.countFld_slc (off lo w n : Nat) : (s.countFld off lo w n).slc = s.slc := rfl
@[simp] theorem State.countFld_slip (off lo w n : Nat) : (s.countFld off lo w n).slip = s.slip := rfl
@[simp] theorem State.countFld_prt (off lo w n : Nat) : (s.countFld off lo w n).prt = s.prt := rfl
@[simp] theorem State.countFld_emc (off lo w n : Nat) : (s.countFld off lo w n).emc = s.emc := rfl
@[simp] theorem State.countFld_bell (off lo w n : Nat) : (s.countFld off lo w n).bell = s.bell := rfl
@[simp] theorem State.countFld_store (off lo w n : Nat) : (s.countFld off lo w n).store = s.store := rfl
@[simp] theorem State.countFld_clk (off lo w n : Nat) : (s.countFld off lo w n).clk = s.clk := rfl
@[simp] theorem State.countFld_pwr (off lo w n : Nat) : (s.countFld off lo w n).pwr = s.pwr := rfl
@[simp] theorem State.countFld_rdata (off lo w n : Nat) : (s.countFld off lo w n).rdata = s.rdata := rfl
@[simp] theorem State.countFld_free (off lo w n : Nat) : (s.countFld off lo w n).free = s.free := rfl
@[simp] theorem State.countFld_pending (off lo w n : Nat) : (s.countFld off lo w n).pending = s.pending := rfl

/-! ### `State.bump` -/

@[simp] theorem State.bump_lows (off n : Nat) : (s.bump off n).lows = s.lows := rfl
@[simp] theorem State.bump_latches (off n : Nat) : (s.bump off n).latches = s.latches := rfl
@[simp] theorem State.bump_tide (off n : Nat) : (s.bump off n).tide = s.tide := rfl
@[simp] theorem State.bump_edge (off n : Nat) : (s.bump off n).edge = s.edge := rfl
@[simp] theorem State.bump_tod (off n : Nat) : (s.bump off n).tod = s.tod := rfl
@[simp] theorem State.bump_ust (off n : Nat) : (s.bump off n).ust = s.ust := rfl
@[simp] theorem State.bump_cmd (off n : Nat) : (s.bump off n).cmd = s.cmd := rfl
@[simp] theorem State.bump_yard (off n : Nat) : (s.bump off n).yard = s.yard := rfl
@[simp] theorem State.bump_mem (off n : Nat) : (s.bump off n).mem = s.mem := rfl
@[simp] theorem State.bump_dock (off n : Nat) : (s.bump off n).dock = s.dock := rfl
@[simp] theorem State.bump_brt (off n : Nat) : (s.bump off n).brt = s.brt := rfl
@[simp] theorem State.bump_acq (off n : Nat) : (s.bump off n).acq = s.acq := rfl
@[simp] theorem State.bump_hists (off n : Nat) : (s.bump off n).hists = s.hists := rfl
@[simp] theorem State.bump_maps (off n : Nat) : (s.bump off n).maps = s.maps := rfl
@[simp] theorem State.bump_fry (off n : Nat) : (s.bump off n).fry = s.fry := rfl
@[simp] theorem State.bump_lanes (off n : Nat) : (s.bump off n).lanes = s.lanes := rfl
@[simp] theorem State.bump_knob (off n : Nat) : (s.bump off n).knob = s.knob := rfl
@[simp] theorem State.bump_plt (off n : Nat) : (s.bump off n).plt = s.plt := rfl
@[simp] theorem State.bump_slc (off n : Nat) : (s.bump off n).slc = s.slc := rfl
@[simp] theorem State.bump_slip (off n : Nat) : (s.bump off n).slip = s.slip := rfl
@[simp] theorem State.bump_prt (off n : Nat) : (s.bump off n).prt = s.prt := rfl
@[simp] theorem State.bump_emc (off n : Nat) : (s.bump off n).emc = s.emc := rfl
@[simp] theorem State.bump_bell (off n : Nat) : (s.bump off n).bell = s.bell := rfl
@[simp] theorem State.bump_store (off n : Nat) : (s.bump off n).store = s.store := rfl
@[simp] theorem State.bump_clk (off n : Nat) : (s.bump off n).clk = s.clk := rfl
@[simp] theorem State.bump_pwr (off n : Nat) : (s.bump off n).pwr = s.pwr := rfl
@[simp] theorem State.bump_rdata (off n : Nat) : (s.bump off n).rdata = s.rdata := rfl
@[simp] theorem State.bump_free (off n : Nat) : (s.bump off n).free = s.free := rfl
@[simp] theorem State.bump_pending (off n : Nat) : (s.bump off n).pending = s.pending := rfl

/-! ### `State.setReg72` -/

@[simp] theorem State.setReg72_lows (off : Nat) (q : Quay) : (s.setReg72 off q).lows = s.lows := rfl
@[simp] theorem State.setReg72_latches (off : Nat) (q : Quay) : (s.setReg72 off q).latches = s.latches := rfl
@[simp] theorem State.setReg72_tide (off : Nat) (q : Quay) : (s.setReg72 off q).tide = s.tide := rfl
@[simp] theorem State.setReg72_edge (off : Nat) (q : Quay) : (s.setReg72 off q).edge = s.edge := rfl
@[simp] theorem State.setReg72_tod (off : Nat) (q : Quay) : (s.setReg72 off q).tod = s.tod := rfl
@[simp] theorem State.setReg72_ust (off : Nat) (q : Quay) : (s.setReg72 off q).ust = s.ust := rfl
@[simp] theorem State.setReg72_cmd (off : Nat) (q : Quay) : (s.setReg72 off q).cmd = s.cmd := rfl
@[simp] theorem State.setReg72_yard (off : Nat) (q : Quay) : (s.setReg72 off q).yard = s.yard := rfl
@[simp] theorem State.setReg72_mem (off : Nat) (q : Quay) : (s.setReg72 off q).mem = s.mem := rfl
@[simp] theorem State.setReg72_dock (off : Nat) (q : Quay) : (s.setReg72 off q).dock = s.dock := rfl
@[simp] theorem State.setReg72_brt (off : Nat) (q : Quay) : (s.setReg72 off q).brt = s.brt := rfl
@[simp] theorem State.setReg72_acq (off : Nat) (q : Quay) : (s.setReg72 off q).acq = s.acq := rfl
@[simp] theorem State.setReg72_hists (off : Nat) (q : Quay) : (s.setReg72 off q).hists = s.hists := rfl
@[simp] theorem State.setReg72_maps (off : Nat) (q : Quay) : (s.setReg72 off q).maps = s.maps := rfl
@[simp] theorem State.setReg72_fry (off : Nat) (q : Quay) : (s.setReg72 off q).fry = s.fry := rfl
@[simp] theorem State.setReg72_lanes (off : Nat) (q : Quay) : (s.setReg72 off q).lanes = s.lanes := rfl
@[simp] theorem State.setReg72_knob (off : Nat) (q : Quay) : (s.setReg72 off q).knob = s.knob := rfl
@[simp] theorem State.setReg72_plt (off : Nat) (q : Quay) : (s.setReg72 off q).plt = s.plt := rfl
@[simp] theorem State.setReg72_slc (off : Nat) (q : Quay) : (s.setReg72 off q).slc = s.slc := rfl
@[simp] theorem State.setReg72_slip (off : Nat) (q : Quay) : (s.setReg72 off q).slip = s.slip := rfl
@[simp] theorem State.setReg72_prt (off : Nat) (q : Quay) : (s.setReg72 off q).prt = s.prt := rfl
@[simp] theorem State.setReg72_emc (off : Nat) (q : Quay) : (s.setReg72 off q).emc = s.emc := rfl
@[simp] theorem State.setReg72_bell (off : Nat) (q : Quay) : (s.setReg72 off q).bell = s.bell := rfl
@[simp] theorem State.setReg72_store (off : Nat) (q : Quay) : (s.setReg72 off q).store = s.store := rfl
@[simp] theorem State.setReg72_clk (off : Nat) (q : Quay) : (s.setReg72 off q).clk = s.clk := rfl
@[simp] theorem State.setReg72_pwr (off : Nat) (q : Quay) : (s.setReg72 off q).pwr = s.pwr := rfl
@[simp] theorem State.setReg72_rdata (off : Nat) (q : Quay) : (s.setReg72 off q).rdata = s.rdata := rfl
@[simp] theorem State.setReg72_free (off : Nat) (q : Quay) : (s.setReg72 off q).free = s.free := rfl
@[simp] theorem State.setReg72_pending (off : Nat) (q : Quay) : (s.setReg72 off q).pending = s.pending := rfl

/-! ### `State.setReg64` -/

@[simp] theorem State.setReg64_lows (lo hi v : Nat) : (s.setReg64 lo hi v).lows = s.lows := rfl
@[simp] theorem State.setReg64_latches (lo hi v : Nat) : (s.setReg64 lo hi v).latches = s.latches := rfl
@[simp] theorem State.setReg64_tide (lo hi v : Nat) : (s.setReg64 lo hi v).tide = s.tide := rfl
@[simp] theorem State.setReg64_edge (lo hi v : Nat) : (s.setReg64 lo hi v).edge = s.edge := rfl
@[simp] theorem State.setReg64_tod (lo hi v : Nat) : (s.setReg64 lo hi v).tod = s.tod := rfl
@[simp] theorem State.setReg64_ust (lo hi v : Nat) : (s.setReg64 lo hi v).ust = s.ust := rfl
@[simp] theorem State.setReg64_cmd (lo hi v : Nat) : (s.setReg64 lo hi v).cmd = s.cmd := rfl
@[simp] theorem State.setReg64_yard (lo hi v : Nat) : (s.setReg64 lo hi v).yard = s.yard := rfl
@[simp] theorem State.setReg64_mem (lo hi v : Nat) : (s.setReg64 lo hi v).mem = s.mem := rfl
@[simp] theorem State.setReg64_dock (lo hi v : Nat) : (s.setReg64 lo hi v).dock = s.dock := rfl
@[simp] theorem State.setReg64_brt (lo hi v : Nat) : (s.setReg64 lo hi v).brt = s.brt := rfl
@[simp] theorem State.setReg64_acq (lo hi v : Nat) : (s.setReg64 lo hi v).acq = s.acq := rfl
@[simp] theorem State.setReg64_hists (lo hi v : Nat) : (s.setReg64 lo hi v).hists = s.hists := rfl
@[simp] theorem State.setReg64_maps (lo hi v : Nat) : (s.setReg64 lo hi v).maps = s.maps := rfl
@[simp] theorem State.setReg64_fry (lo hi v : Nat) : (s.setReg64 lo hi v).fry = s.fry := rfl
@[simp] theorem State.setReg64_lanes (lo hi v : Nat) : (s.setReg64 lo hi v).lanes = s.lanes := rfl
@[simp] theorem State.setReg64_knob (lo hi v : Nat) : (s.setReg64 lo hi v).knob = s.knob := rfl
@[simp] theorem State.setReg64_plt (lo hi v : Nat) : (s.setReg64 lo hi v).plt = s.plt := rfl
@[simp] theorem State.setReg64_slc (lo hi v : Nat) : (s.setReg64 lo hi v).slc = s.slc := rfl
@[simp] theorem State.setReg64_slip (lo hi v : Nat) : (s.setReg64 lo hi v).slip = s.slip := rfl
@[simp] theorem State.setReg64_prt (lo hi v : Nat) : (s.setReg64 lo hi v).prt = s.prt := rfl
@[simp] theorem State.setReg64_emc (lo hi v : Nat) : (s.setReg64 lo hi v).emc = s.emc := rfl
@[simp] theorem State.setReg64_bell (lo hi v : Nat) : (s.setReg64 lo hi v).bell = s.bell := rfl
@[simp] theorem State.setReg64_store (lo hi v : Nat) : (s.setReg64 lo hi v).store = s.store := rfl
@[simp] theorem State.setReg64_clk (lo hi v : Nat) : (s.setReg64 lo hi v).clk = s.clk := rfl
@[simp] theorem State.setReg64_pwr (lo hi v : Nat) : (s.setReg64 lo hi v).pwr = s.pwr := rfl
@[simp] theorem State.setReg64_rdata (lo hi v : Nat) : (s.setReg64 lo hi v).rdata = s.rdata := rfl
@[simp] theorem State.setReg64_free (lo hi v : Nat) : (s.setReg64 lo hi v).free = s.free := rfl
@[simp] theorem State.setReg64_pending (lo hi v : Nat) : (s.setReg64 lo hi v).pending = s.pending := rfl

/-! ### `State.ignore` -/

@[simp] theorem State.ignore_lows : (s.ignore).lows = s.lows := rfl
@[simp] theorem State.ignore_latches : (s.ignore).latches = s.latches := rfl
@[simp] theorem State.ignore_tide : (s.ignore).tide = s.tide := rfl
@[simp] theorem State.ignore_tod : (s.ignore).tod = s.tod := rfl
@[simp] theorem State.ignore_ust : (s.ignore).ust = s.ust := rfl
@[simp] theorem State.ignore_cmd : (s.ignore).cmd = s.cmd := rfl
@[simp] theorem State.ignore_yard : (s.ignore).yard = s.yard := rfl
@[simp] theorem State.ignore_mem : (s.ignore).mem = s.mem := rfl
@[simp] theorem State.ignore_dock : (s.ignore).dock = s.dock := rfl
@[simp] theorem State.ignore_brt : (s.ignore).brt = s.brt := rfl
@[simp] theorem State.ignore_acq : (s.ignore).acq = s.acq := rfl
@[simp] theorem State.ignore_hists : (s.ignore).hists = s.hists := rfl
@[simp] theorem State.ignore_maps : (s.ignore).maps = s.maps := rfl
@[simp] theorem State.ignore_fry : (s.ignore).fry = s.fry := rfl
@[simp] theorem State.ignore_lanes : (s.ignore).lanes = s.lanes := rfl
@[simp] theorem State.ignore_knob : (s.ignore).knob = s.knob := rfl
@[simp] theorem State.ignore_plt : (s.ignore).plt = s.plt := rfl
@[simp] theorem State.ignore_slc : (s.ignore).slc = s.slc := rfl
@[simp] theorem State.ignore_slip : (s.ignore).slip = s.slip := rfl
@[simp] theorem State.ignore_prt : (s.ignore).prt = s.prt := rfl
@[simp] theorem State.ignore_emc : (s.ignore).emc = s.emc := rfl
@[simp] theorem State.ignore_bell : (s.ignore).bell = s.bell := rfl
@[simp] theorem State.ignore_store : (s.ignore).store = s.store := rfl
@[simp] theorem State.ignore_clk : (s.ignore).clk = s.clk := rfl
@[simp] theorem State.ignore_pwr : (s.ignore).pwr = s.pwr := rfl
@[simp] theorem State.ignore_rdata : (s.ignore).rdata = s.rdata := rfl
@[simp] theorem State.ignore_free : (s.ignore).free = s.free := rfl
@[simp] theorem State.ignore_pending : (s.ignore).pending = s.pending := rfl

/-! ### `State.badAddr` -/

@[simp] theorem State.badAddr_lows (off : Nat) : (s.badAddr off).lows = s.lows :=
  by rw [State.badAddr, State.modEdge_lows, State.setRegN_lows, State.ignore_lows]
@[simp] theorem State.badAddr_latches (off : Nat) : (s.badAddr off).latches = s.latches :=
  by rw [State.badAddr, State.modEdge_latches, State.setRegN_latches, State.ignore_latches]
@[simp] theorem State.badAddr_tide (off : Nat) : (s.badAddr off).tide = s.tide :=
  by rw [State.badAddr, State.modEdge_tide, State.setRegN_tide, State.ignore_tide]
@[simp] theorem State.badAddr_tod (off : Nat) : (s.badAddr off).tod = s.tod :=
  by rw [State.badAddr, State.modEdge_tod, State.setRegN_tod, State.ignore_tod]
@[simp] theorem State.badAddr_ust (off : Nat) : (s.badAddr off).ust = s.ust :=
  by rw [State.badAddr, State.modEdge_ust, State.setRegN_ust, State.ignore_ust]
@[simp] theorem State.badAddr_cmd (off : Nat) : (s.badAddr off).cmd = s.cmd :=
  by rw [State.badAddr, State.modEdge_cmd, State.setRegN_cmd, State.ignore_cmd]
@[simp] theorem State.badAddr_yard (off : Nat) : (s.badAddr off).yard = s.yard :=
  by rw [State.badAddr, State.modEdge_yard, State.setRegN_yard, State.ignore_yard]
@[simp] theorem State.badAddr_mem (off : Nat) : (s.badAddr off).mem = s.mem :=
  by rw [State.badAddr, State.modEdge_mem, State.setRegN_mem, State.ignore_mem]
@[simp] theorem State.badAddr_dock (off : Nat) : (s.badAddr off).dock = s.dock :=
  by rw [State.badAddr, State.modEdge_dock, State.setRegN_dock, State.ignore_dock]
@[simp] theorem State.badAddr_brt (off : Nat) : (s.badAddr off).brt = s.brt :=
  by rw [State.badAddr, State.modEdge_brt, State.setRegN_brt, State.ignore_brt]
@[simp] theorem State.badAddr_acq (off : Nat) : (s.badAddr off).acq = s.acq :=
  by rw [State.badAddr, State.modEdge_acq, State.setRegN_acq, State.ignore_acq]
@[simp] theorem State.badAddr_hists (off : Nat) : (s.badAddr off).hists = s.hists :=
  by rw [State.badAddr, State.modEdge_hists, State.setRegN_hists, State.ignore_hists]
@[simp] theorem State.badAddr_maps (off : Nat) : (s.badAddr off).maps = s.maps :=
  by rw [State.badAddr, State.modEdge_maps, State.setRegN_maps, State.ignore_maps]
@[simp] theorem State.badAddr_fry (off : Nat) : (s.badAddr off).fry = s.fry :=
  by rw [State.badAddr, State.modEdge_fry, State.setRegN_fry, State.ignore_fry]
@[simp] theorem State.badAddr_lanes (off : Nat) : (s.badAddr off).lanes = s.lanes :=
  by rw [State.badAddr, State.modEdge_lanes, State.setRegN_lanes, State.ignore_lanes]
@[simp] theorem State.badAddr_knob (off : Nat) : (s.badAddr off).knob = s.knob :=
  by rw [State.badAddr, State.modEdge_knob, State.setRegN_knob, State.ignore_knob]
@[simp] theorem State.badAddr_plt (off : Nat) : (s.badAddr off).plt = s.plt :=
  by rw [State.badAddr, State.modEdge_plt, State.setRegN_plt, State.ignore_plt]
@[simp] theorem State.badAddr_slc (off : Nat) : (s.badAddr off).slc = s.slc :=
  by rw [State.badAddr, State.modEdge_slc, State.setRegN_slc, State.ignore_slc]
@[simp] theorem State.badAddr_slip (off : Nat) : (s.badAddr off).slip = s.slip :=
  by rw [State.badAddr, State.modEdge_slip, State.setRegN_slip, State.ignore_slip]
@[simp] theorem State.badAddr_prt (off : Nat) : (s.badAddr off).prt = s.prt :=
  by rw [State.badAddr, State.modEdge_prt, State.setRegN_prt, State.ignore_prt]
@[simp] theorem State.badAddr_emc (off : Nat) : (s.badAddr off).emc = s.emc :=
  by rw [State.badAddr, State.modEdge_emc, State.setRegN_emc, State.ignore_emc]
@[simp] theorem State.badAddr_bell (off : Nat) : (s.badAddr off).bell = s.bell :=
  by rw [State.badAddr, State.modEdge_bell, State.setRegN_bell, State.ignore_bell]
@[simp] theorem State.badAddr_store (off : Nat) : (s.badAddr off).store = s.store :=
  by rw [State.badAddr, State.modEdge_store, State.setRegN_store, State.ignore_store]
@[simp] theorem State.badAddr_clk (off : Nat) : (s.badAddr off).clk = s.clk :=
  by rw [State.badAddr, State.modEdge_clk, State.setRegN_clk, State.ignore_clk]
@[simp] theorem State.badAddr_pwr (off : Nat) : (s.badAddr off).pwr = s.pwr :=
  by rw [State.badAddr, State.modEdge_pwr, State.setRegN_pwr, State.ignore_pwr]
@[simp] theorem State.badAddr_rdata (off : Nat) : (s.badAddr off).rdata = s.rdata :=
  by rw [State.badAddr, State.modEdge_rdata, State.setRegN_rdata, State.ignore_rdata]
@[simp] theorem State.badAddr_free (off : Nat) : (s.badAddr off).free = s.free :=
  by rw [State.badAddr, State.modEdge_free, State.setRegN_free, State.ignore_free]
@[simp] theorem State.badAddr_pending (off : Nat) : (s.badAddr off).pending = s.pending :=
  by rw [State.badAddr, State.modEdge_pending, State.setRegN_pending, State.ignore_pending]

/-! ### `State.bumpEpoch` -/

@[simp] theorem State.bumpEpoch_lows : (s.bumpEpoch).lows = s.lows := rfl
@[simp] theorem State.bumpEpoch_latches : (s.bumpEpoch).latches = s.latches := rfl
@[simp] theorem State.bumpEpoch_tide : (s.bumpEpoch).tide = s.tide := rfl
@[simp] theorem State.bumpEpoch_edge : (s.bumpEpoch).edge = s.edge := rfl
@[simp] theorem State.bumpEpoch_tod : (s.bumpEpoch).tod = s.tod := rfl
@[simp] theorem State.bumpEpoch_ust : (s.bumpEpoch).ust = s.ust := rfl
@[simp] theorem State.bumpEpoch_cmd : (s.bumpEpoch).cmd = s.cmd := rfl
@[simp] theorem State.bumpEpoch_yard : (s.bumpEpoch).yard = s.yard := rfl
@[simp] theorem State.bumpEpoch_mem : (s.bumpEpoch).mem = s.mem := rfl
@[simp] theorem State.bumpEpoch_dock : (s.bumpEpoch).dock = s.dock := rfl
@[simp] theorem State.bumpEpoch_brt : (s.bumpEpoch).brt = s.brt := rfl
@[simp] theorem State.bumpEpoch_acq : (s.bumpEpoch).acq = s.acq := rfl
@[simp] theorem State.bumpEpoch_hists : (s.bumpEpoch).hists = s.hists := rfl
@[simp] theorem State.bumpEpoch_maps : (s.bumpEpoch).maps = s.maps := rfl
@[simp] theorem State.bumpEpoch_fry : (s.bumpEpoch).fry = s.fry := rfl
@[simp] theorem State.bumpEpoch_lanes : (s.bumpEpoch).lanes = s.lanes := rfl
@[simp] theorem State.bumpEpoch_knob : (s.bumpEpoch).knob = s.knob := rfl
@[simp] theorem State.bumpEpoch_plt : (s.bumpEpoch).plt = s.plt := rfl
@[simp] theorem State.bumpEpoch_slc : (s.bumpEpoch).slc = s.slc := rfl
@[simp] theorem State.bumpEpoch_slip : (s.bumpEpoch).slip = s.slip := rfl
@[simp] theorem State.bumpEpoch_prt : (s.bumpEpoch).prt = s.prt := rfl
@[simp] theorem State.bumpEpoch_emc : (s.bumpEpoch).emc = s.emc := rfl
@[simp] theorem State.bumpEpoch_bell : (s.bumpEpoch).bell = s.bell := rfl
@[simp] theorem State.bumpEpoch_store : (s.bumpEpoch).store = s.store := rfl
@[simp] theorem State.bumpEpoch_clk : (s.bumpEpoch).clk = s.clk := rfl
@[simp] theorem State.bumpEpoch_pwr : (s.bumpEpoch).pwr = s.pwr := rfl
@[simp] theorem State.bumpEpoch_rdata : (s.bumpEpoch).rdata = s.rdata := rfl
@[simp] theorem State.bumpEpoch_free : (s.bumpEpoch).free = s.free := rfl
@[simp] theorem State.bumpEpoch_pending : (s.bumpEpoch).pending = s.pending := rfl

/-! ### `State.setDom` -/

@[simp] theorem State.setDom_lows (d : Dom) (v : Nat) : (s.setDom d v).lows = s.lows := rfl
@[simp] theorem State.setDom_latches (d : Dom) (v : Nat) : (s.setDom d v).latches = s.latches := rfl
@[simp] theorem State.setDom_tide (d : Dom) (v : Nat) : (s.setDom d v).tide = s.tide := rfl
@[simp] theorem State.setDom_edge (d : Dom) (v : Nat) : (s.setDom d v).edge = s.edge := rfl
@[simp] theorem State.setDom_tod (d : Dom) (v : Nat) : (s.setDom d v).tod = s.tod := rfl
@[simp] theorem State.setDom_ust (d : Dom) (v : Nat) : (s.setDom d v).ust = s.ust := rfl
@[simp] theorem State.setDom_cmd (d : Dom) (v : Nat) : (s.setDom d v).cmd = s.cmd := rfl
@[simp] theorem State.setDom_yard (d : Dom) (v : Nat) : (s.setDom d v).yard = s.yard := rfl
@[simp] theorem State.setDom_mem (d : Dom) (v : Nat) : (s.setDom d v).mem = s.mem := rfl
@[simp] theorem State.setDom_dock (d : Dom) (v : Nat) : (s.setDom d v).dock = s.dock := rfl
@[simp] theorem State.setDom_brt (d : Dom) (v : Nat) : (s.setDom d v).brt = s.brt := rfl
@[simp] theorem State.setDom_acq (d : Dom) (v : Nat) : (s.setDom d v).acq = s.acq := rfl
@[simp] theorem State.setDom_hists (d : Dom) (v : Nat) : (s.setDom d v).hists = s.hists := rfl
@[simp] theorem State.setDom_maps (d : Dom) (v : Nat) : (s.setDom d v).maps = s.maps := rfl
@[simp] theorem State.setDom_fry (d : Dom) (v : Nat) : (s.setDom d v).fry = s.fry := rfl
@[simp] theorem State.setDom_lanes (d : Dom) (v : Nat) : (s.setDom d v).lanes = s.lanes := rfl
@[simp] theorem State.setDom_knob (d : Dom) (v : Nat) : (s.setDom d v).knob = s.knob := rfl
@[simp] theorem State.setDom_plt (d : Dom) (v : Nat) : (s.setDom d v).plt = s.plt := rfl
@[simp] theorem State.setDom_slc (d : Dom) (v : Nat) : (s.setDom d v).slc = s.slc := rfl
@[simp] theorem State.setDom_slip (d : Dom) (v : Nat) : (s.setDom d v).slip = s.slip := rfl
@[simp] theorem State.setDom_prt (d : Dom) (v : Nat) : (s.setDom d v).prt = s.prt := rfl
@[simp] theorem State.setDom_emc (d : Dom) (v : Nat) : (s.setDom d v).emc = s.emc := rfl
@[simp] theorem State.setDom_bell (d : Dom) (v : Nat) : (s.setDom d v).bell = s.bell := rfl
@[simp] theorem State.setDom_store (d : Dom) (v : Nat) : (s.setDom d v).store = s.store := rfl
@[simp] theorem State.setDom_clk (d : Dom) (v : Nat) : (s.setDom d v).clk = s.clk := rfl
@[simp] theorem State.setDom_pwr (d : Dom) (v : Nat) : (s.setDom d v).pwr = s.pwr := rfl
@[simp] theorem State.setDom_rdata (d : Dom) (v : Nat) : (s.setDom d v).rdata = s.rdata := rfl
@[simp] theorem State.setDom_free (d : Dom) (v : Nat) : (s.setDom d v).free = s.free := rfl
@[simp] theorem State.setDom_pending (d : Dom) (v : Nat) : (s.setDom d v).pending = s.pending := rfl

/-! ### `State.setLow` -/

@[simp] theorem State.setLow_regs (off : Nat) (w : Word) : (s.setLow off w).regs = s.regs := rfl
@[simp] theorem State.setLow_lows (off : Nat) (w : Word) : (s.setLow off w).lows = smSet (fun _ => 0) s.lows off w := rfl
@[simp] theorem State.setLow_latches (off : Nat) (w : Word) : (s.setLow off w).latches = s.latches := rfl
@[simp] theorem State.setLow_tide (off : Nat) (w : Word) : (s.setLow off w).tide = s.tide := rfl
@[simp] theorem State.setLow_edge (off : Nat) (w : Word) : (s.setLow off w).edge = s.edge := rfl
@[simp] theorem State.setLow_tod (off : Nat) (w : Word) : (s.setLow off w).tod = s.tod := rfl
@[simp] theorem State.setLow_ust (off : Nat) (w : Word) : (s.setLow off w).ust = s.ust := rfl
@[simp] theorem State.setLow_cmd (off : Nat) (w : Word) : (s.setLow off w).cmd = s.cmd := rfl
@[simp] theorem State.setLow_yard (off : Nat) (w : Word) : (s.setLow off w).yard = s.yard := rfl
@[simp] theorem State.setLow_mem (off : Nat) (w : Word) : (s.setLow off w).mem = s.mem := rfl
@[simp] theorem State.setLow_dock (off : Nat) (w : Word) : (s.setLow off w).dock = s.dock := rfl
@[simp] theorem State.setLow_brt (off : Nat) (w : Word) : (s.setLow off w).brt = s.brt := rfl
@[simp] theorem State.setLow_acq (off : Nat) (w : Word) : (s.setLow off w).acq = s.acq := rfl
@[simp] theorem State.setLow_hists (off : Nat) (w : Word) : (s.setLow off w).hists = s.hists := rfl
@[simp] theorem State.setLow_maps (off : Nat) (w : Word) : (s.setLow off w).maps = s.maps := rfl
@[simp] theorem State.setLow_fry (off : Nat) (w : Word) : (s.setLow off w).fry = s.fry := rfl
@[simp] theorem State.setLow_lanes (off : Nat) (w : Word) : (s.setLow off w).lanes = s.lanes := rfl
@[simp] theorem State.setLow_knob (off : Nat) (w : Word) : (s.setLow off w).knob = s.knob := rfl
@[simp] theorem State.setLow_plt (off : Nat) (w : Word) : (s.setLow off w).plt = s.plt := rfl
@[simp] theorem State.setLow_slc (off : Nat) (w : Word) : (s.setLow off w).slc = s.slc := rfl
@[simp] theorem State.setLow_slip (off : Nat) (w : Word) : (s.setLow off w).slip = s.slip := rfl
@[simp] theorem State.setLow_prt (off : Nat) (w : Word) : (s.setLow off w).prt = s.prt := rfl
@[simp] theorem State.setLow_emc (off : Nat) (w : Word) : (s.setLow off w).emc = s.emc := rfl
@[simp] theorem State.setLow_bell (off : Nat) (w : Word) : (s.setLow off w).bell = s.bell := rfl
@[simp] theorem State.setLow_store (off : Nat) (w : Word) : (s.setLow off w).store = s.store := rfl
@[simp] theorem State.setLow_clk (off : Nat) (w : Word) : (s.setLow off w).clk = s.clk := rfl
@[simp] theorem State.setLow_pwr (off : Nat) (w : Word) : (s.setLow off w).pwr = s.pwr := rfl
@[simp] theorem State.setLow_rdata (off : Nat) (w : Word) : (s.setLow off w).rdata = s.rdata := rfl
@[simp] theorem State.setLow_free (off : Nat) (w : Word) : (s.setLow off w).free = s.free := rfl
@[simp] theorem State.setLow_pending (off : Nat) (w : Word) : (s.setLow off w).pending = s.pending := rfl

/-! ### `State.touch` -/

@[simp] theorem State.touch_regs (off : Nat) : (s.touch off).regs = s.regs := rfl
@[simp] theorem State.touch_lows (off : Nat) : (s.touch off).lows = s.lows := rfl
@[simp] theorem State.touch_latches (off : Nat) : (s.touch off).latches = s.latches := rfl
@[simp] theorem State.touch_tide (off : Nat) : (s.touch off).tide = s.tide := rfl
@[simp] theorem State.touch_edge (off : Nat) : (s.touch off).edge = s.edge := rfl
@[simp] theorem State.touch_tod (off : Nat) : (s.touch off).tod = s.tod := rfl
@[simp] theorem State.touch_cmd (off : Nat) : (s.touch off).cmd = s.cmd := rfl
@[simp] theorem State.touch_yard (off : Nat) : (s.touch off).yard = s.yard := rfl
@[simp] theorem State.touch_mem (off : Nat) : (s.touch off).mem = s.mem := rfl
@[simp] theorem State.touch_dock (off : Nat) : (s.touch off).dock = s.dock := rfl
@[simp] theorem State.touch_brt (off : Nat) : (s.touch off).brt = s.brt := rfl
@[simp] theorem State.touch_acq (off : Nat) : (s.touch off).acq = s.acq := rfl
@[simp] theorem State.touch_hists (off : Nat) : (s.touch off).hists = s.hists := rfl
@[simp] theorem State.touch_maps (off : Nat) : (s.touch off).maps = s.maps := rfl
@[simp] theorem State.touch_fry (off : Nat) : (s.touch off).fry = s.fry := rfl
@[simp] theorem State.touch_lanes (off : Nat) : (s.touch off).lanes = s.lanes := rfl
@[simp] theorem State.touch_knob (off : Nat) : (s.touch off).knob = s.knob := rfl
@[simp] theorem State.touch_plt (off : Nat) : (s.touch off).plt = s.plt := rfl
@[simp] theorem State.touch_slc (off : Nat) : (s.touch off).slc = s.slc := rfl
@[simp] theorem State.touch_slip (off : Nat) : (s.touch off).slip = s.slip := rfl
@[simp] theorem State.touch_prt (off : Nat) : (s.touch off).prt = s.prt := rfl
@[simp] theorem State.touch_emc (off : Nat) : (s.touch off).emc = s.emc := rfl
@[simp] theorem State.touch_bell (off : Nat) : (s.touch off).bell = s.bell := rfl
@[simp] theorem State.touch_store (off : Nat) : (s.touch off).store = s.store := rfl
@[simp] theorem State.touch_clk (off : Nat) : (s.touch off).clk = s.clk := rfl
@[simp] theorem State.touch_pwr (off : Nat) : (s.touch off).pwr = s.pwr := rfl
@[simp] theorem State.touch_rdata (off : Nat) : (s.touch off).rdata = s.rdata := rfl
@[simp] theorem State.touch_free (off : Nat) : (s.touch off).free = s.free := rfl
@[simp] theorem State.touch_pending (off : Nat) : (s.touch off).pending = s.pending := rfl

/-! ### `State.raise` -/

@[simp] theorem State.raise_regs (code : Nat) : (s.raise code).regs = s.regs := rfl
@[simp] theorem State.raise_lows (code : Nat) : (s.raise code).lows = s.lows := rfl
@[simp] theorem State.raise_latches (code : Nat) : (s.raise code).latches = s.latches := rfl
@[simp] theorem State.raise_tide (code : Nat) : (s.raise code).tide = s.tide := rfl
@[simp] theorem State.raise_edge (code : Nat) : (s.raise code).edge = s.edge := rfl
@[simp] theorem State.raise_tod (code : Nat) : (s.raise code).tod = s.tod := rfl
@[simp] theorem State.raise_ust (code : Nat) : (s.raise code).ust = s.ust := rfl
@[simp] theorem State.raise_cmd (code : Nat) : (s.raise code).cmd = s.cmd := rfl
@[simp] theorem State.raise_mem (code : Nat) : (s.raise code).mem = s.mem := rfl
@[simp] theorem State.raise_dock (code : Nat) : (s.raise code).dock = s.dock := rfl
@[simp] theorem State.raise_brt (code : Nat) : (s.raise code).brt = s.brt := rfl
@[simp] theorem State.raise_acq (code : Nat) : (s.raise code).acq = s.acq := rfl
@[simp] theorem State.raise_hists (code : Nat) : (s.raise code).hists = s.hists := rfl
@[simp] theorem State.raise_maps (code : Nat) : (s.raise code).maps = s.maps := rfl
@[simp] theorem State.raise_fry (code : Nat) : (s.raise code).fry = s.fry := rfl
@[simp] theorem State.raise_lanes (code : Nat) : (s.raise code).lanes = s.lanes := rfl
@[simp] theorem State.raise_knob (code : Nat) : (s.raise code).knob = s.knob := rfl
@[simp] theorem State.raise_plt (code : Nat) : (s.raise code).plt = s.plt := rfl
@[simp] theorem State.raise_slc (code : Nat) : (s.raise code).slc = s.slc := rfl
@[simp] theorem State.raise_slip (code : Nat) : (s.raise code).slip = s.slip := rfl
@[simp] theorem State.raise_prt (code : Nat) : (s.raise code).prt = s.prt := rfl
@[simp] theorem State.raise_emc (code : Nat) : (s.raise code).emc = s.emc := rfl
@[simp] theorem State.raise_bell (code : Nat) : (s.raise code).bell = s.bell := rfl
@[simp] theorem State.raise_store (code : Nat) : (s.raise code).store = s.store := rfl
@[simp] theorem State.raise_clk (code : Nat) : (s.raise code).clk = s.clk := rfl
@[simp] theorem State.raise_pwr (code : Nat) : (s.raise code).pwr = s.pwr := rfl
@[simp] theorem State.raise_rdata (code : Nat) : (s.raise code).rdata = s.rdata := rfl
@[simp] theorem State.raise_free (code : Nat) : (s.raise code).free = s.free := rfl
@[simp] theorem State.raise_pending (code : Nat) : (s.raise code).pending = s.pending := rfl



/-! ### `State.modYard` -/

@[simp] theorem State.modYard_regs (f : YardSt → YardSt) : (s.modYard f).regs = s.regs := rfl
@[simp] theorem State.modYard_lows (f : YardSt → YardSt) : (s.modYard f).lows = s.lows := rfl
@[simp] theorem State.modYard_latches (f : YardSt → YardSt) : (s.modYard f).latches = s.latches := rfl
@[simp] theorem State.modYard_tide (f : YardSt → YardSt) : (s.modYard f).tide = s.tide := rfl
@[simp] theorem State.modYard_edge (f : YardSt → YardSt) : (s.modYard f).edge = s.edge := rfl
@[simp] theorem State.modYard_tod (f : YardSt → YardSt) : (s.modYard f).tod = s.tod := rfl
@[simp] theorem State.modYard_ust (f : YardSt → YardSt) : (s.modYard f).ust = s.ust := rfl
@[simp] theorem State.modYard_cmd (f : YardSt → YardSt) : (s.modYard f).cmd = s.cmd := rfl
@[simp] theorem State.modYard_yard (f : YardSt → YardSt) : (s.modYard f).yard = f s.yard := rfl
@[simp] theorem State.modYard_mem (f : YardSt → YardSt) : (s.modYard f).mem = s.mem := rfl
@[simp] theorem State.modYard_dock (f : YardSt → YardSt) : (s.modYard f).dock = s.dock := rfl
@[simp] theorem State.modYard_brt (f : YardSt → YardSt) : (s.modYard f).brt = s.brt := rfl
@[simp] theorem State.modYard_acq (f : YardSt → YardSt) : (s.modYard f).acq = s.acq := rfl
@[simp] theorem State.modYard_hists (f : YardSt → YardSt) : (s.modYard f).hists = s.hists := rfl
@[simp] theorem State.modYard_maps (f : YardSt → YardSt) : (s.modYard f).maps = s.maps := rfl
@[simp] theorem State.modYard_fry (f : YardSt → YardSt) : (s.modYard f).fry = s.fry := rfl
@[simp] theorem State.modYard_lanes (f : YardSt → YardSt) : (s.modYard f).lanes = s.lanes := rfl
@[simp] theorem State.modYard_knob (f : YardSt → YardSt) : (s.modYard f).knob = s.knob := rfl
@[simp] theorem State.modYard_plt (f : YardSt → YardSt) : (s.modYard f).plt = s.plt := rfl
@[simp] theorem State.modYard_slc (f : YardSt → YardSt) : (s.modYard f).slc = s.slc := rfl
@[simp] theorem State.modYard_slip (f : YardSt → YardSt) : (s.modYard f).slip = s.slip := rfl
@[simp] theorem State.modYard_prt (f : YardSt → YardSt) : (s.modYard f).prt = s.prt := rfl
@[simp] theorem State.modYard_emc (f : YardSt → YardSt) : (s.modYard f).emc = s.emc := rfl
@[simp] theorem State.modYard_bell (f : YardSt → YardSt) : (s.modYard f).bell = s.bell := rfl
@[simp] theorem State.modYard_store (f : YardSt → YardSt) : (s.modYard f).store = s.store := rfl
@[simp] theorem State.modYard_clk (f : YardSt → YardSt) : (s.modYard f).clk = s.clk := rfl
@[simp] theorem State.modYard_pwr (f : YardSt → YardSt) : (s.modYard f).pwr = s.pwr := rfl
@[simp] theorem State.modYard_rdata (f : YardSt → YardSt) : (s.modYard f).rdata = s.rdata := rfl
@[simp] theorem State.modYard_free (f : YardSt → YardSt) : (s.modYard f).free = s.free := rfl
@[simp] theorem State.modYard_pending (f : YardSt → YardSt) : (s.modYard f).pending = s.pending := rfl

/-! ### `State.modBell` -/

@[simp] theorem State.modBell_regs (f : BellSt → BellSt) : (s.modBell f).regs = s.regs := rfl
@[simp] theorem State.modBell_lows (f : BellSt → BellSt) : (s.modBell f).lows = s.lows := rfl
@[simp] theorem State.modBell_latches (f : BellSt → BellSt) : (s.modBell f).latches = s.latches := rfl
@[simp] theorem State.modBell_tide (f : BellSt → BellSt) : (s.modBell f).tide = s.tide := rfl
@[simp] theorem State.modBell_edge (f : BellSt → BellSt) : (s.modBell f).edge = s.edge := rfl
@[simp] theorem State.modBell_tod (f : BellSt → BellSt) : (s.modBell f).tod = s.tod := rfl
@[simp] theorem State.modBell_ust (f : BellSt → BellSt) : (s.modBell f).ust = s.ust := rfl
@[simp] theorem State.modBell_cmd (f : BellSt → BellSt) : (s.modBell f).cmd = s.cmd := rfl
@[simp] theorem State.modBell_yard (f : BellSt → BellSt) : (s.modBell f).yard = s.yard := rfl
@[simp] theorem State.modBell_mem (f : BellSt → BellSt) : (s.modBell f).mem = s.mem := rfl
@[simp] theorem State.modBell_dock (f : BellSt → BellSt) : (s.modBell f).dock = s.dock := rfl
@[simp] theorem State.modBell_brt (f : BellSt → BellSt) : (s.modBell f).brt = s.brt := rfl
@[simp] theorem State.modBell_acq (f : BellSt → BellSt) : (s.modBell f).acq = s.acq := rfl
@[simp] theorem State.modBell_hists (f : BellSt → BellSt) : (s.modBell f).hists = s.hists := rfl
@[simp] theorem State.modBell_maps (f : BellSt → BellSt) : (s.modBell f).maps = s.maps := rfl
@[simp] theorem State.modBell_fry (f : BellSt → BellSt) : (s.modBell f).fry = s.fry := rfl
@[simp] theorem State.modBell_lanes (f : BellSt → BellSt) : (s.modBell f).lanes = s.lanes := rfl
@[simp] theorem State.modBell_knob (f : BellSt → BellSt) : (s.modBell f).knob = s.knob := rfl
@[simp] theorem State.modBell_plt (f : BellSt → BellSt) : (s.modBell f).plt = s.plt := rfl
@[simp] theorem State.modBell_slc (f : BellSt → BellSt) : (s.modBell f).slc = s.slc := rfl
@[simp] theorem State.modBell_slip (f : BellSt → BellSt) : (s.modBell f).slip = s.slip := rfl
@[simp] theorem State.modBell_prt (f : BellSt → BellSt) : (s.modBell f).prt = s.prt := rfl
@[simp] theorem State.modBell_emc (f : BellSt → BellSt) : (s.modBell f).emc = s.emc := rfl
@[simp] theorem State.modBell_bell (f : BellSt → BellSt) : (s.modBell f).bell = f s.bell := rfl
@[simp] theorem State.modBell_store (f : BellSt → BellSt) : (s.modBell f).store = s.store := rfl
@[simp] theorem State.modBell_clk (f : BellSt → BellSt) : (s.modBell f).clk = s.clk := rfl
@[simp] theorem State.modBell_pwr (f : BellSt → BellSt) : (s.modBell f).pwr = s.pwr := rfl
@[simp] theorem State.modBell_rdata (f : BellSt → BellSt) : (s.modBell f).rdata = s.rdata := rfl
@[simp] theorem State.modBell_free (f : BellSt → BellSt) : (s.modBell f).free = s.free := rfl
@[simp] theorem State.modBell_pending (f : BellSt → BellSt) : (s.modBell f).pending = s.pending := rfl

/-! ### `State.modTgt` -/

@[simp] theorem State.modTgt_regs (t : Nat) (f : BellTgt → BellTgt) : (s.modTgt t f).regs = s.regs := rfl
@[simp] theorem State.modTgt_lows (t : Nat) (f : BellTgt → BellTgt) : (s.modTgt t f).lows = s.lows := rfl
@[simp] theorem State.modTgt_latches (t : Nat) (f : BellTgt → BellTgt) : (s.modTgt t f).latches = s.latches := rfl
@[simp] theorem State.modTgt_tide (t : Nat) (f : BellTgt → BellTgt) : (s.modTgt t f).tide = s.tide := rfl
@[simp] theorem State.modTgt_edge (t : Nat) (f : BellTgt → BellTgt) : (s.modTgt t f).edge = s.edge := rfl
@[simp] theorem State.modTgt_tod (t : Nat) (f : BellTgt → BellTgt) : (s.modTgt t f).tod = s.tod := rfl
@[simp] theorem State.modTgt_ust (t : Nat) (f : BellTgt → BellTgt) : (s.modTgt t f).ust = s.ust := rfl
@[simp] theorem State.modTgt_cmd (t : Nat) (f : BellTgt → BellTgt) : (s.modTgt t f).cmd = s.cmd := rfl
@[simp] theorem State.modTgt_yard (t : Nat) (f : BellTgt → BellTgt) : (s.modTgt t f).yard = s.yard := rfl
@[simp] theorem State.modTgt_mem (t : Nat) (f : BellTgt → BellTgt) : (s.modTgt t f).mem = s.mem := rfl
@[simp] theorem State.modTgt_dock (t : Nat) (f : BellTgt → BellTgt) : (s.modTgt t f).dock = s.dock := rfl
@[simp] theorem State.modTgt_brt (t : Nat) (f : BellTgt → BellTgt) : (s.modTgt t f).brt = s.brt := rfl
@[simp] theorem State.modTgt_acq (t : Nat) (f : BellTgt → BellTgt) : (s.modTgt t f).acq = s.acq := rfl
@[simp] theorem State.modTgt_hists (t : Nat) (f : BellTgt → BellTgt) : (s.modTgt t f).hists = s.hists := rfl
@[simp] theorem State.modTgt_maps (t : Nat) (f : BellTgt → BellTgt) : (s.modTgt t f).maps = s.maps := rfl
@[simp] theorem State.modTgt_fry (t : Nat) (f : BellTgt → BellTgt) : (s.modTgt t f).fry = s.fry := rfl
@[simp] theorem State.modTgt_lanes (t : Nat) (f : BellTgt → BellTgt) : (s.modTgt t f).lanes = s.lanes := rfl
@[simp] theorem State.modTgt_knob (t : Nat) (f : BellTgt → BellTgt) : (s.modTgt t f).knob = s.knob := rfl
@[simp] theorem State.modTgt_plt (t : Nat) (f : BellTgt → BellTgt) : (s.modTgt t f).plt = s.plt := rfl
@[simp] theorem State.modTgt_slc (t : Nat) (f : BellTgt → BellTgt) : (s.modTgt t f).slc = s.slc := rfl
@[simp] theorem State.modTgt_slip (t : Nat) (f : BellTgt → BellTgt) : (s.modTgt t f).slip = s.slip := rfl
@[simp] theorem State.modTgt_prt (t : Nat) (f : BellTgt → BellTgt) : (s.modTgt t f).prt = s.prt := rfl
@[simp] theorem State.modTgt_emc (t : Nat) (f : BellTgt → BellTgt) : (s.modTgt t f).emc = s.emc := rfl
@[simp] theorem State.modTgt_store (t : Nat) (f : BellTgt → BellTgt) : (s.modTgt t f).store = s.store := rfl
@[simp] theorem State.modTgt_clk (t : Nat) (f : BellTgt → BellTgt) : (s.modTgt t f).clk = s.clk := rfl
@[simp] theorem State.modTgt_pwr (t : Nat) (f : BellTgt → BellTgt) : (s.modTgt t f).pwr = s.pwr := rfl
@[simp] theorem State.modTgt_rdata (t : Nat) (f : BellTgt → BellTgt) : (s.modTgt t f).rdata = s.rdata := rfl
@[simp] theorem State.modTgt_free (t : Nat) (f : BellTgt → BellTgt) : (s.modTgt t f).free = s.free := rfl
@[simp] theorem State.modTgt_pending (t : Nat) (f : BellTgt → BellTgt) : (s.modTgt t f).pending = s.pending := rfl

/-! ### `State.modBrt` -/

@[simp] theorem State.modBrt_regs (f : BrtSt → BrtSt) : (s.modBrt f).regs = s.regs := rfl
@[simp] theorem State.modBrt_lows (f : BrtSt → BrtSt) : (s.modBrt f).lows = s.lows := rfl
@[simp] theorem State.modBrt_latches (f : BrtSt → BrtSt) : (s.modBrt f).latches = s.latches := rfl
@[simp] theorem State.modBrt_tide (f : BrtSt → BrtSt) : (s.modBrt f).tide = s.tide := rfl
@[simp] theorem State.modBrt_edge (f : BrtSt → BrtSt) : (s.modBrt f).edge = s.edge := rfl
@[simp] theorem State.modBrt_tod (f : BrtSt → BrtSt) : (s.modBrt f).tod = s.tod := rfl
@[simp] theorem State.modBrt_ust (f : BrtSt → BrtSt) : (s.modBrt f).ust = s.ust := rfl
@[simp] theorem State.modBrt_cmd (f : BrtSt → BrtSt) : (s.modBrt f).cmd = s.cmd := rfl
@[simp] theorem State.modBrt_yard (f : BrtSt → BrtSt) : (s.modBrt f).yard = s.yard := rfl
@[simp] theorem State.modBrt_mem (f : BrtSt → BrtSt) : (s.modBrt f).mem = s.mem := rfl
@[simp] theorem State.modBrt_dock (f : BrtSt → BrtSt) : (s.modBrt f).dock = s.dock := rfl
@[simp] theorem State.modBrt_brt (f : BrtSt → BrtSt) : (s.modBrt f).brt = f s.brt := rfl
@[simp] theorem State.modBrt_acq (f : BrtSt → BrtSt) : (s.modBrt f).acq = s.acq := rfl
@[simp] theorem State.modBrt_hists (f : BrtSt → BrtSt) : (s.modBrt f).hists = s.hists := rfl
@[simp] theorem State.modBrt_maps (f : BrtSt → BrtSt) : (s.modBrt f).maps = s.maps := rfl
@[simp] theorem State.modBrt_fry (f : BrtSt → BrtSt) : (s.modBrt f).fry = s.fry := rfl
@[simp] theorem State.modBrt_lanes (f : BrtSt → BrtSt) : (s.modBrt f).lanes = s.lanes := rfl
@[simp] theorem State.modBrt_knob (f : BrtSt → BrtSt) : (s.modBrt f).knob = s.knob := rfl
@[simp] theorem State.modBrt_plt (f : BrtSt → BrtSt) : (s.modBrt f).plt = s.plt := rfl
@[simp] theorem State.modBrt_slc (f : BrtSt → BrtSt) : (s.modBrt f).slc = s.slc := rfl
@[simp] theorem State.modBrt_slip (f : BrtSt → BrtSt) : (s.modBrt f).slip = s.slip := rfl
@[simp] theorem State.modBrt_prt (f : BrtSt → BrtSt) : (s.modBrt f).prt = s.prt := rfl
@[simp] theorem State.modBrt_emc (f : BrtSt → BrtSt) : (s.modBrt f).emc = s.emc := rfl
@[simp] theorem State.modBrt_bell (f : BrtSt → BrtSt) : (s.modBrt f).bell = s.bell := rfl
@[simp] theorem State.modBrt_store (f : BrtSt → BrtSt) : (s.modBrt f).store = s.store := rfl
@[simp] theorem State.modBrt_clk (f : BrtSt → BrtSt) : (s.modBrt f).clk = s.clk := rfl
@[simp] theorem State.modBrt_pwr (f : BrtSt → BrtSt) : (s.modBrt f).pwr = s.pwr := rfl
@[simp] theorem State.modBrt_rdata (f : BrtSt → BrtSt) : (s.modBrt f).rdata = s.rdata := rfl
@[simp] theorem State.modBrt_free (f : BrtSt → BrtSt) : (s.modBrt f).free = s.free := rfl
@[simp] theorem State.modBrt_pending (f : BrtSt → BrtSt) : (s.modBrt f).pending = s.pending := rfl

/-! ### `State.modChan` -/

@[simp] theorem State.modChan_regs (n : Nat) (f : ChanSt → ChanSt) : (s.modChan n f).regs = s.regs := rfl
@[simp] theorem State.modChan_lows (n : Nat) (f : ChanSt → ChanSt) : (s.modChan n f).lows = s.lows := rfl
@[simp] theorem State.modChan_latches (n : Nat) (f : ChanSt → ChanSt) : (s.modChan n f).latches = s.latches := rfl
@[simp] theorem State.modChan_tide (n : Nat) (f : ChanSt → ChanSt) : (s.modChan n f).tide = s.tide := rfl
@[simp] theorem State.modChan_edge (n : Nat) (f : ChanSt → ChanSt) : (s.modChan n f).edge = s.edge := rfl
@[simp] theorem State.modChan_tod (n : Nat) (f : ChanSt → ChanSt) : (s.modChan n f).tod = s.tod := rfl
@[simp] theorem State.modChan_ust (n : Nat) (f : ChanSt → ChanSt) : (s.modChan n f).ust = s.ust := rfl
@[simp] theorem State.modChan_cmd (n : Nat) (f : ChanSt → ChanSt) : (s.modChan n f).cmd = s.cmd := rfl
@[simp] theorem State.modChan_yard (n : Nat) (f : ChanSt → ChanSt) : (s.modChan n f).yard = s.yard := rfl
@[simp] theorem State.modChan_mem (n : Nat) (f : ChanSt → ChanSt) : (s.modChan n f).mem = s.mem := rfl
@[simp] theorem State.modChan_dock (n : Nat) (f : ChanSt → ChanSt) : (s.modChan n f).dock = s.dock := rfl
@[simp] theorem State.modChan_acq (n : Nat) (f : ChanSt → ChanSt) : (s.modChan n f).acq = s.acq := rfl
@[simp] theorem State.modChan_hists (n : Nat) (f : ChanSt → ChanSt) : (s.modChan n f).hists = s.hists := rfl
@[simp] theorem State.modChan_maps (n : Nat) (f : ChanSt → ChanSt) : (s.modChan n f).maps = s.maps := rfl
@[simp] theorem State.modChan_fry (n : Nat) (f : ChanSt → ChanSt) : (s.modChan n f).fry = s.fry := rfl
@[simp] theorem State.modChan_lanes (n : Nat) (f : ChanSt → ChanSt) : (s.modChan n f).lanes = s.lanes := rfl
@[simp] theorem State.modChan_knob (n : Nat) (f : ChanSt → ChanSt) : (s.modChan n f).knob = s.knob := rfl
@[simp] theorem State.modChan_plt (n : Nat) (f : ChanSt → ChanSt) : (s.modChan n f).plt = s.plt := rfl
@[simp] theorem State.modChan_slc (n : Nat) (f : ChanSt → ChanSt) : (s.modChan n f).slc = s.slc := rfl
@[simp] theorem State.modChan_slip (n : Nat) (f : ChanSt → ChanSt) : (s.modChan n f).slip = s.slip := rfl
@[simp] theorem State.modChan_prt (n : Nat) (f : ChanSt → ChanSt) : (s.modChan n f).prt = s.prt := rfl
@[simp] theorem State.modChan_emc (n : Nat) (f : ChanSt → ChanSt) : (s.modChan n f).emc = s.emc := rfl
@[simp] theorem State.modChan_bell (n : Nat) (f : ChanSt → ChanSt) : (s.modChan n f).bell = s.bell := rfl
@[simp] theorem State.modChan_store (n : Nat) (f : ChanSt → ChanSt) : (s.modChan n f).store = s.store := rfl
@[simp] theorem State.modChan_clk (n : Nat) (f : ChanSt → ChanSt) : (s.modChan n f).clk = s.clk := rfl
@[simp] theorem State.modChan_pwr (n : Nat) (f : ChanSt → ChanSt) : (s.modChan n f).pwr = s.pwr := rfl
@[simp] theorem State.modChan_rdata (n : Nat) (f : ChanSt → ChanSt) : (s.modChan n f).rdata = s.rdata := rfl
@[simp] theorem State.modChan_free (n : Nat) (f : ChanSt → ChanSt) : (s.modChan n f).free = s.free := rfl
@[simp] theorem State.modChan_pending (n : Nat) (f : ChanSt → ChanSt) : (s.modChan n f).pending = s.pending := rfl

/-! ### `State.modClk` -/

@[simp] theorem State.modClk_regs (f : ClkSt → ClkSt) : (s.modClk f).regs = s.regs := rfl
@[simp] theorem State.modClk_lows (f : ClkSt → ClkSt) : (s.modClk f).lows = s.lows := rfl
@[simp] theorem State.modClk_latches (f : ClkSt → ClkSt) : (s.modClk f).latches = s.latches := rfl
@[simp] theorem State.modClk_tide (f : ClkSt → ClkSt) : (s.modClk f).tide = s.tide := rfl
@[simp] theorem State.modClk_edge (f : ClkSt → ClkSt) : (s.modClk f).edge = s.edge := rfl
@[simp] theorem State.modClk_tod (f : ClkSt → ClkSt) : (s.modClk f).tod = s.tod := rfl
@[simp] theorem State.modClk_ust (f : ClkSt → ClkSt) : (s.modClk f).ust = s.ust := rfl
@[simp] theorem State.modClk_cmd (f : ClkSt → ClkSt) : (s.modClk f).cmd = s.cmd := rfl
@[simp] theorem State.modClk_yard (f : ClkSt → ClkSt) : (s.modClk f).yard = s.yard := rfl
@[simp] theorem State.modClk_mem (f : ClkSt → ClkSt) : (s.modClk f).mem = s.mem := rfl
@[simp] theorem State.modClk_dock (f : ClkSt → ClkSt) : (s.modClk f).dock = s.dock := rfl
@[simp] theorem State.modClk_brt (f : ClkSt → ClkSt) : (s.modClk f).brt = s.brt := rfl
@[simp] theorem State.modClk_acq (f : ClkSt → ClkSt) : (s.modClk f).acq = s.acq := rfl
@[simp] theorem State.modClk_hists (f : ClkSt → ClkSt) : (s.modClk f).hists = s.hists := rfl
@[simp] theorem State.modClk_maps (f : ClkSt → ClkSt) : (s.modClk f).maps = s.maps := rfl
@[simp] theorem State.modClk_fry (f : ClkSt → ClkSt) : (s.modClk f).fry = s.fry := rfl
@[simp] theorem State.modClk_lanes (f : ClkSt → ClkSt) : (s.modClk f).lanes = s.lanes := rfl
@[simp] theorem State.modClk_knob (f : ClkSt → ClkSt) : (s.modClk f).knob = s.knob := rfl
@[simp] theorem State.modClk_plt (f : ClkSt → ClkSt) : (s.modClk f).plt = s.plt := rfl
@[simp] theorem State.modClk_slc (f : ClkSt → ClkSt) : (s.modClk f).slc = s.slc := rfl
@[simp] theorem State.modClk_slip (f : ClkSt → ClkSt) : (s.modClk f).slip = s.slip := rfl
@[simp] theorem State.modClk_prt (f : ClkSt → ClkSt) : (s.modClk f).prt = s.prt := rfl
@[simp] theorem State.modClk_emc (f : ClkSt → ClkSt) : (s.modClk f).emc = s.emc := rfl
@[simp] theorem State.modClk_bell (f : ClkSt → ClkSt) : (s.modClk f).bell = s.bell := rfl
@[simp] theorem State.modClk_store (f : ClkSt → ClkSt) : (s.modClk f).store = s.store := rfl
@[simp] theorem State.modClk_clk (f : ClkSt → ClkSt) : (s.modClk f).clk = f s.clk := rfl
@[simp] theorem State.modClk_pwr (f : ClkSt → ClkSt) : (s.modClk f).pwr = s.pwr := rfl
@[simp] theorem State.modClk_rdata (f : ClkSt → ClkSt) : (s.modClk f).rdata = s.rdata := rfl
@[simp] theorem State.modClk_free (f : ClkSt → ClkSt) : (s.modClk f).free = s.free := rfl
@[simp] theorem State.modClk_pending (f : ClkSt → ClkSt) : (s.modClk f).pending = s.pending := rfl

/-! ### `State.modDock` -/

@[simp] theorem State.modDock_regs (n : Nat) (f : DockCh → DockCh) : (s.modDock n f).regs = s.regs := rfl
@[simp] theorem State.modDock_lows (n : Nat) (f : DockCh → DockCh) : (s.modDock n f).lows = s.lows := rfl
@[simp] theorem State.modDock_latches (n : Nat) (f : DockCh → DockCh) : (s.modDock n f).latches = s.latches := rfl
@[simp] theorem State.modDock_tide (n : Nat) (f : DockCh → DockCh) : (s.modDock n f).tide = s.tide := rfl
@[simp] theorem State.modDock_edge (n : Nat) (f : DockCh → DockCh) : (s.modDock n f).edge = s.edge := rfl
@[simp] theorem State.modDock_tod (n : Nat) (f : DockCh → DockCh) : (s.modDock n f).tod = s.tod := rfl
@[simp] theorem State.modDock_ust (n : Nat) (f : DockCh → DockCh) : (s.modDock n f).ust = s.ust := rfl
@[simp] theorem State.modDock_cmd (n : Nat) (f : DockCh → DockCh) : (s.modDock n f).cmd = s.cmd := rfl
@[simp] theorem State.modDock_yard (n : Nat) (f : DockCh → DockCh) : (s.modDock n f).yard = s.yard := rfl
@[simp] theorem State.modDock_mem (n : Nat) (f : DockCh → DockCh) : (s.modDock n f).mem = s.mem := rfl
@[simp] theorem State.modDock_brt (n : Nat) (f : DockCh → DockCh) : (s.modDock n f).brt = s.brt := rfl
@[simp] theorem State.modDock_acq (n : Nat) (f : DockCh → DockCh) : (s.modDock n f).acq = s.acq := rfl
@[simp] theorem State.modDock_hists (n : Nat) (f : DockCh → DockCh) : (s.modDock n f).hists = s.hists := rfl
@[simp] theorem State.modDock_maps (n : Nat) (f : DockCh → DockCh) : (s.modDock n f).maps = s.maps := rfl
@[simp] theorem State.modDock_fry (n : Nat) (f : DockCh → DockCh) : (s.modDock n f).fry = s.fry := rfl
@[simp] theorem State.modDock_lanes (n : Nat) (f : DockCh → DockCh) : (s.modDock n f).lanes = s.lanes := rfl
@[simp] theorem State.modDock_knob (n : Nat) (f : DockCh → DockCh) : (s.modDock n f).knob = s.knob := rfl
@[simp] theorem State.modDock_plt (n : Nat) (f : DockCh → DockCh) : (s.modDock n f).plt = s.plt := rfl
@[simp] theorem State.modDock_slc (n : Nat) (f : DockCh → DockCh) : (s.modDock n f).slc = s.slc := rfl
@[simp] theorem State.modDock_slip (n : Nat) (f : DockCh → DockCh) : (s.modDock n f).slip = s.slip := rfl
@[simp] theorem State.modDock_prt (n : Nat) (f : DockCh → DockCh) : (s.modDock n f).prt = s.prt := rfl
@[simp] theorem State.modDock_emc (n : Nat) (f : DockCh → DockCh) : (s.modDock n f).emc = s.emc := rfl
@[simp] theorem State.modDock_bell (n : Nat) (f : DockCh → DockCh) : (s.modDock n f).bell = s.bell := rfl
@[simp] theorem State.modDock_store (n : Nat) (f : DockCh → DockCh) : (s.modDock n f).store = s.store := rfl
@[simp] theorem State.modDock_clk (n : Nat) (f : DockCh → DockCh) : (s.modDock n f).clk = s.clk := rfl
@[simp] theorem State.modDock_pwr (n : Nat) (f : DockCh → DockCh) : (s.modDock n f).pwr = s.pwr := rfl
@[simp] theorem State.modDock_rdata (n : Nat) (f : DockCh → DockCh) : (s.modDock n f).rdata = s.rdata := rfl
@[simp] theorem State.modDock_free (n : Nat) (f : DockCh → DockCh) : (s.modDock n f).free = s.free := rfl
@[simp] theorem State.modDock_pending (n : Nat) (f : DockCh → DockCh) : (s.modDock n f).pending = s.pending := rfl

/-! ### `State.modGrp` -/

@[simp] theorem State.modGrp_regs (g : Nat) (f : GrpSt → GrpSt) : (s.modGrp g f).regs = s.regs := rfl
@[simp] theorem State.modGrp_lows (g : Nat) (f : GrpSt → GrpSt) : (s.modGrp g f).lows = s.lows := rfl
@[simp] theorem State.modGrp_latches (g : Nat) (f : GrpSt → GrpSt) : (s.modGrp g f).latches = s.latches := rfl
@[simp] theorem State.modGrp_tide (g : Nat) (f : GrpSt → GrpSt) : (s.modGrp g f).tide = s.tide := rfl
@[simp] theorem State.modGrp_edge (g : Nat) (f : GrpSt → GrpSt) : (s.modGrp g f).edge = s.edge := rfl
@[simp] theorem State.modGrp_tod (g : Nat) (f : GrpSt → GrpSt) : (s.modGrp g f).tod = s.tod := rfl
@[simp] theorem State.modGrp_ust (g : Nat) (f : GrpSt → GrpSt) : (s.modGrp g f).ust = s.ust := rfl
@[simp] theorem State.modGrp_cmd (g : Nat) (f : GrpSt → GrpSt) : (s.modGrp g f).cmd = s.cmd := rfl
@[simp] theorem State.modGrp_yard (g : Nat) (f : GrpSt → GrpSt) : (s.modGrp g f).yard = s.yard := rfl
@[simp] theorem State.modGrp_mem (g : Nat) (f : GrpSt → GrpSt) : (s.modGrp g f).mem = s.mem := rfl
@[simp] theorem State.modGrp_dock (g : Nat) (f : GrpSt → GrpSt) : (s.modGrp g f).dock = s.dock := rfl
@[simp] theorem State.modGrp_brt (g : Nat) (f : GrpSt → GrpSt) : (s.modGrp g f).brt = s.brt := rfl
@[simp] theorem State.modGrp_hists (g : Nat) (f : GrpSt → GrpSt) : (s.modGrp g f).hists = s.hists := rfl
@[simp] theorem State.modGrp_maps (g : Nat) (f : GrpSt → GrpSt) : (s.modGrp g f).maps = s.maps := rfl
@[simp] theorem State.modGrp_fry (g : Nat) (f : GrpSt → GrpSt) : (s.modGrp g f).fry = s.fry := rfl
@[simp] theorem State.modGrp_lanes (g : Nat) (f : GrpSt → GrpSt) : (s.modGrp g f).lanes = s.lanes := rfl
@[simp] theorem State.modGrp_knob (g : Nat) (f : GrpSt → GrpSt) : (s.modGrp g f).knob = s.knob := rfl
@[simp] theorem State.modGrp_plt (g : Nat) (f : GrpSt → GrpSt) : (s.modGrp g f).plt = s.plt := rfl
@[simp] theorem State.modGrp_slc (g : Nat) (f : GrpSt → GrpSt) : (s.modGrp g f).slc = s.slc := rfl
@[simp] theorem State.modGrp_slip (g : Nat) (f : GrpSt → GrpSt) : (s.modGrp g f).slip = s.slip := rfl
@[simp] theorem State.modGrp_prt (g : Nat) (f : GrpSt → GrpSt) : (s.modGrp g f).prt = s.prt := rfl
@[simp] theorem State.modGrp_emc (g : Nat) (f : GrpSt → GrpSt) : (s.modGrp g f).emc = s.emc := rfl
@[simp] theorem State.modGrp_bell (g : Nat) (f : GrpSt → GrpSt) : (s.modGrp g f).bell = s.bell := rfl
@[simp] theorem State.modGrp_store (g : Nat) (f : GrpSt → GrpSt) : (s.modGrp g f).store = s.store := rfl
@[simp] theorem State.modGrp_clk (g : Nat) (f : GrpSt → GrpSt) : (s.modGrp g f).clk = s.clk := rfl
@[simp] theorem State.modGrp_pwr (g : Nat) (f : GrpSt → GrpSt) : (s.modGrp g f).pwr = s.pwr := rfl
@[simp] theorem State.modGrp_rdata (g : Nat) (f : GrpSt → GrpSt) : (s.modGrp g f).rdata = s.rdata := rfl
@[simp] theorem State.modGrp_free (g : Nat) (f : GrpSt → GrpSt) : (s.modGrp g f).free = s.free := rfl
@[simp] theorem State.modGrp_pending (g : Nat) (f : GrpSt → GrpSt) : (s.modGrp g f).pending = s.pending := rfl

/-! ### `State.modFry` -/

@[simp] theorem State.modFry_regs (f : FrySt → FrySt) : (s.modFry f).regs = s.regs := rfl
@[simp] theorem State.modFry_lows (f : FrySt → FrySt) : (s.modFry f).lows = s.lows := rfl
@[simp] theorem State.modFry_latches (f : FrySt → FrySt) : (s.modFry f).latches = s.latches := rfl
@[simp] theorem State.modFry_tide (f : FrySt → FrySt) : (s.modFry f).tide = s.tide := rfl
@[simp] theorem State.modFry_edge (f : FrySt → FrySt) : (s.modFry f).edge = s.edge := rfl
@[simp] theorem State.modFry_tod (f : FrySt → FrySt) : (s.modFry f).tod = s.tod := rfl
@[simp] theorem State.modFry_ust (f : FrySt → FrySt) : (s.modFry f).ust = s.ust := rfl
@[simp] theorem State.modFry_cmd (f : FrySt → FrySt) : (s.modFry f).cmd = s.cmd := rfl
@[simp] theorem State.modFry_yard (f : FrySt → FrySt) : (s.modFry f).yard = s.yard := rfl
@[simp] theorem State.modFry_mem (f : FrySt → FrySt) : (s.modFry f).mem = s.mem := rfl
@[simp] theorem State.modFry_dock (f : FrySt → FrySt) : (s.modFry f).dock = s.dock := rfl
@[simp] theorem State.modFry_brt (f : FrySt → FrySt) : (s.modFry f).brt = s.brt := rfl
@[simp] theorem State.modFry_acq (f : FrySt → FrySt) : (s.modFry f).acq = s.acq := rfl
@[simp] theorem State.modFry_hists (f : FrySt → FrySt) : (s.modFry f).hists = s.hists := rfl
@[simp] theorem State.modFry_maps (f : FrySt → FrySt) : (s.modFry f).maps = s.maps := rfl
@[simp] theorem State.modFry_fry (f : FrySt → FrySt) : (s.modFry f).fry = f s.fry := rfl
@[simp] theorem State.modFry_lanes (f : FrySt → FrySt) : (s.modFry f).lanes = s.lanes := rfl
@[simp] theorem State.modFry_knob (f : FrySt → FrySt) : (s.modFry f).knob = s.knob := rfl
@[simp] theorem State.modFry_plt (f : FrySt → FrySt) : (s.modFry f).plt = s.plt := rfl
@[simp] theorem State.modFry_slc (f : FrySt → FrySt) : (s.modFry f).slc = s.slc := rfl
@[simp] theorem State.modFry_slip (f : FrySt → FrySt) : (s.modFry f).slip = s.slip := rfl
@[simp] theorem State.modFry_prt (f : FrySt → FrySt) : (s.modFry f).prt = s.prt := rfl
@[simp] theorem State.modFry_emc (f : FrySt → FrySt) : (s.modFry f).emc = s.emc := rfl
@[simp] theorem State.modFry_bell (f : FrySt → FrySt) : (s.modFry f).bell = s.bell := rfl
@[simp] theorem State.modFry_store (f : FrySt → FrySt) : (s.modFry f).store = s.store := rfl
@[simp] theorem State.modFry_clk (f : FrySt → FrySt) : (s.modFry f).clk = s.clk := rfl
@[simp] theorem State.modFry_pwr (f : FrySt → FrySt) : (s.modFry f).pwr = s.pwr := rfl
@[simp] theorem State.modFry_rdata (f : FrySt → FrySt) : (s.modFry f).rdata = s.rdata := rfl
@[simp] theorem State.modFry_free (f : FrySt → FrySt) : (s.modFry f).free = s.free := rfl
@[simp] theorem State.modFry_pending (f : FrySt → FrySt) : (s.modFry f).pending = s.pending := rfl

/-! ### `State.modRing` -/

@[simp] theorem State.modRing_regs (r : Nat) (f : RingSt → RingSt) : (s.modRing r f).regs = s.regs := rfl
@[simp] theorem State.modRing_lows (r : Nat) (f : RingSt → RingSt) : (s.modRing r f).lows = s.lows := rfl
@[simp] theorem State.modRing_latches (r : Nat) (f : RingSt → RingSt) : (s.modRing r f).latches = s.latches := rfl
@[simp] theorem State.modRing_tide (r : Nat) (f : RingSt → RingSt) : (s.modRing r f).tide = s.tide := rfl
@[simp] theorem State.modRing_edge (r : Nat) (f : RingSt → RingSt) : (s.modRing r f).edge = s.edge := rfl
@[simp] theorem State.modRing_tod (r : Nat) (f : RingSt → RingSt) : (s.modRing r f).tod = s.tod := rfl
@[simp] theorem State.modRing_ust (r : Nat) (f : RingSt → RingSt) : (s.modRing r f).ust = s.ust := rfl
@[simp] theorem State.modRing_cmd (r : Nat) (f : RingSt → RingSt) : (s.modRing r f).cmd = s.cmd := rfl
@[simp] theorem State.modRing_yard (r : Nat) (f : RingSt → RingSt) : (s.modRing r f).yard = s.yard := rfl
@[simp] theorem State.modRing_mem (r : Nat) (f : RingSt → RingSt) : (s.modRing r f).mem = s.mem := rfl
@[simp] theorem State.modRing_dock (r : Nat) (f : RingSt → RingSt) : (s.modRing r f).dock = s.dock := rfl
@[simp] theorem State.modRing_brt (r : Nat) (f : RingSt → RingSt) : (s.modRing r f).brt = s.brt := rfl
@[simp] theorem State.modRing_acq (r : Nat) (f : RingSt → RingSt) : (s.modRing r f).acq = s.acq := rfl
@[simp] theorem State.modRing_hists (r : Nat) (f : RingSt → RingSt) : (s.modRing r f).hists = s.hists := rfl
@[simp] theorem State.modRing_maps (r : Nat) (f : RingSt → RingSt) : (s.modRing r f).maps = s.maps := rfl
@[simp] theorem State.modRing_lanes (r : Nat) (f : RingSt → RingSt) : (s.modRing r f).lanes = s.lanes := rfl
@[simp] theorem State.modRing_knob (r : Nat) (f : RingSt → RingSt) : (s.modRing r f).knob = s.knob := rfl
@[simp] theorem State.modRing_plt (r : Nat) (f : RingSt → RingSt) : (s.modRing r f).plt = s.plt := rfl
@[simp] theorem State.modRing_slc (r : Nat) (f : RingSt → RingSt) : (s.modRing r f).slc = s.slc := rfl
@[simp] theorem State.modRing_slip (r : Nat) (f : RingSt → RingSt) : (s.modRing r f).slip = s.slip := rfl
@[simp] theorem State.modRing_prt (r : Nat) (f : RingSt → RingSt) : (s.modRing r f).prt = s.prt := rfl
@[simp] theorem State.modRing_emc (r : Nat) (f : RingSt → RingSt) : (s.modRing r f).emc = s.emc := rfl
@[simp] theorem State.modRing_bell (r : Nat) (f : RingSt → RingSt) : (s.modRing r f).bell = s.bell := rfl
@[simp] theorem State.modRing_store (r : Nat) (f : RingSt → RingSt) : (s.modRing r f).store = s.store := rfl
@[simp] theorem State.modRing_clk (r : Nat) (f : RingSt → RingSt) : (s.modRing r f).clk = s.clk := rfl
@[simp] theorem State.modRing_pwr (r : Nat) (f : RingSt → RingSt) : (s.modRing r f).pwr = s.pwr := rfl
@[simp] theorem State.modRing_rdata (r : Nat) (f : RingSt → RingSt) : (s.modRing r f).rdata = s.rdata := rfl
@[simp] theorem State.modRing_free (r : Nat) (f : RingSt → RingSt) : (s.modRing r f).free = s.free := rfl
@[simp] theorem State.modRing_pending (r : Nat) (f : RingSt → RingSt) : (s.modRing r f).pending = s.pending := rfl

/-! ### `State.modLane` -/

@[simp] theorem State.modLane_regs (l : Nat) (f : LaneSt → LaneSt) : (s.modLane l f).regs = s.regs := rfl
@[simp] theorem State.modLane_lows (l : Nat) (f : LaneSt → LaneSt) : (s.modLane l f).lows = s.lows := rfl
@[simp] theorem State.modLane_latches (l : Nat) (f : LaneSt → LaneSt) : (s.modLane l f).latches = s.latches := rfl
@[simp] theorem State.modLane_tide (l : Nat) (f : LaneSt → LaneSt) : (s.modLane l f).tide = s.tide := rfl
@[simp] theorem State.modLane_edge (l : Nat) (f : LaneSt → LaneSt) : (s.modLane l f).edge = s.edge := rfl
@[simp] theorem State.modLane_tod (l : Nat) (f : LaneSt → LaneSt) : (s.modLane l f).tod = s.tod := rfl
@[simp] theorem State.modLane_ust (l : Nat) (f : LaneSt → LaneSt) : (s.modLane l f).ust = s.ust := rfl
@[simp] theorem State.modLane_cmd (l : Nat) (f : LaneSt → LaneSt) : (s.modLane l f).cmd = s.cmd := rfl
@[simp] theorem State.modLane_yard (l : Nat) (f : LaneSt → LaneSt) : (s.modLane l f).yard = s.yard := rfl
@[simp] theorem State.modLane_mem (l : Nat) (f : LaneSt → LaneSt) : (s.modLane l f).mem = s.mem := rfl
@[simp] theorem State.modLane_dock (l : Nat) (f : LaneSt → LaneSt) : (s.modLane l f).dock = s.dock := rfl
@[simp] theorem State.modLane_brt (l : Nat) (f : LaneSt → LaneSt) : (s.modLane l f).brt = s.brt := rfl
@[simp] theorem State.modLane_acq (l : Nat) (f : LaneSt → LaneSt) : (s.modLane l f).acq = s.acq := rfl
@[simp] theorem State.modLane_hists (l : Nat) (f : LaneSt → LaneSt) : (s.modLane l f).hists = s.hists := rfl
@[simp] theorem State.modLane_maps (l : Nat) (f : LaneSt → LaneSt) : (s.modLane l f).maps = s.maps := rfl
@[simp] theorem State.modLane_fry (l : Nat) (f : LaneSt → LaneSt) : (s.modLane l f).fry = s.fry := rfl
@[simp] theorem State.modLane_knob (l : Nat) (f : LaneSt → LaneSt) : (s.modLane l f).knob = s.knob := rfl
@[simp] theorem State.modLane_plt (l : Nat) (f : LaneSt → LaneSt) : (s.modLane l f).plt = s.plt := rfl
@[simp] theorem State.modLane_slc (l : Nat) (f : LaneSt → LaneSt) : (s.modLane l f).slc = s.slc := rfl
@[simp] theorem State.modLane_slip (l : Nat) (f : LaneSt → LaneSt) : (s.modLane l f).slip = s.slip := rfl
@[simp] theorem State.modLane_prt (l : Nat) (f : LaneSt → LaneSt) : (s.modLane l f).prt = s.prt := rfl
@[simp] theorem State.modLane_emc (l : Nat) (f : LaneSt → LaneSt) : (s.modLane l f).emc = s.emc := rfl
@[simp] theorem State.modLane_bell (l : Nat) (f : LaneSt → LaneSt) : (s.modLane l f).bell = s.bell := rfl
@[simp] theorem State.modLane_store (l : Nat) (f : LaneSt → LaneSt) : (s.modLane l f).store = s.store := rfl
@[simp] theorem State.modLane_clk (l : Nat) (f : LaneSt → LaneSt) : (s.modLane l f).clk = s.clk := rfl
@[simp] theorem State.modLane_pwr (l : Nat) (f : LaneSt → LaneSt) : (s.modLane l f).pwr = s.pwr := rfl
@[simp] theorem State.modLane_rdata (l : Nat) (f : LaneSt → LaneSt) : (s.modLane l f).rdata = s.rdata := rfl
@[simp] theorem State.modLane_free (l : Nat) (f : LaneSt → LaneSt) : (s.modLane l f).free = s.free := rfl
@[simp] theorem State.modLane_pending (l : Nat) (f : LaneSt → LaneSt) : (s.modLane l f).pending = s.pending := rfl

/-! ### `State.modEmc` -/

@[simp] theorem State.modEmc_regs (f : EmcSt → EmcSt) : (s.modEmc f).regs = s.regs := rfl
@[simp] theorem State.modEmc_lows (f : EmcSt → EmcSt) : (s.modEmc f).lows = s.lows := rfl
@[simp] theorem State.modEmc_latches (f : EmcSt → EmcSt) : (s.modEmc f).latches = s.latches := rfl
@[simp] theorem State.modEmc_tide (f : EmcSt → EmcSt) : (s.modEmc f).tide = s.tide := rfl
@[simp] theorem State.modEmc_edge (f : EmcSt → EmcSt) : (s.modEmc f).edge = s.edge := rfl
@[simp] theorem State.modEmc_tod (f : EmcSt → EmcSt) : (s.modEmc f).tod = s.tod := rfl
@[simp] theorem State.modEmc_ust (f : EmcSt → EmcSt) : (s.modEmc f).ust = s.ust := rfl
@[simp] theorem State.modEmc_cmd (f : EmcSt → EmcSt) : (s.modEmc f).cmd = s.cmd := rfl
@[simp] theorem State.modEmc_yard (f : EmcSt → EmcSt) : (s.modEmc f).yard = s.yard := rfl
@[simp] theorem State.modEmc_mem (f : EmcSt → EmcSt) : (s.modEmc f).mem = s.mem := rfl
@[simp] theorem State.modEmc_dock (f : EmcSt → EmcSt) : (s.modEmc f).dock = s.dock := rfl
@[simp] theorem State.modEmc_brt (f : EmcSt → EmcSt) : (s.modEmc f).brt = s.brt := rfl
@[simp] theorem State.modEmc_acq (f : EmcSt → EmcSt) : (s.modEmc f).acq = s.acq := rfl
@[simp] theorem State.modEmc_hists (f : EmcSt → EmcSt) : (s.modEmc f).hists = s.hists := rfl
@[simp] theorem State.modEmc_maps (f : EmcSt → EmcSt) : (s.modEmc f).maps = s.maps := rfl
@[simp] theorem State.modEmc_fry (f : EmcSt → EmcSt) : (s.modEmc f).fry = s.fry := rfl
@[simp] theorem State.modEmc_lanes (f : EmcSt → EmcSt) : (s.modEmc f).lanes = s.lanes := rfl
@[simp] theorem State.modEmc_knob (f : EmcSt → EmcSt) : (s.modEmc f).knob = s.knob := rfl
@[simp] theorem State.modEmc_plt (f : EmcSt → EmcSt) : (s.modEmc f).plt = s.plt := rfl
@[simp] theorem State.modEmc_slc (f : EmcSt → EmcSt) : (s.modEmc f).slc = s.slc := rfl
@[simp] theorem State.modEmc_slip (f : EmcSt → EmcSt) : (s.modEmc f).slip = s.slip := rfl
@[simp] theorem State.modEmc_prt (f : EmcSt → EmcSt) : (s.modEmc f).prt = s.prt := rfl
@[simp] theorem State.modEmc_emc (f : EmcSt → EmcSt) : (s.modEmc f).emc = f s.emc := rfl
@[simp] theorem State.modEmc_bell (f : EmcSt → EmcSt) : (s.modEmc f).bell = s.bell := rfl
@[simp] theorem State.modEmc_store (f : EmcSt → EmcSt) : (s.modEmc f).store = s.store := rfl
@[simp] theorem State.modEmc_clk (f : EmcSt → EmcSt) : (s.modEmc f).clk = s.clk := rfl
@[simp] theorem State.modEmc_pwr (f : EmcSt → EmcSt) : (s.modEmc f).pwr = s.pwr := rfl
@[simp] theorem State.modEmc_rdata (f : EmcSt → EmcSt) : (s.modEmc f).rdata = s.rdata := rfl
@[simp] theorem State.modEmc_free (f : EmcSt → EmcSt) : (s.modEmc f).free = s.free := rfl
@[simp] theorem State.modEmc_pending (f : EmcSt → EmcSt) : (s.modEmc f).pending = s.pending := rfl

/-! ### `State.modPlt` -/

@[simp] theorem State.modPlt_regs (f : PltSt → PltSt) : (s.modPlt f).regs = s.regs := rfl
@[simp] theorem State.modPlt_lows (f : PltSt → PltSt) : (s.modPlt f).lows = s.lows := rfl
@[simp] theorem State.modPlt_latches (f : PltSt → PltSt) : (s.modPlt f).latches = s.latches := rfl
@[simp] theorem State.modPlt_tide (f : PltSt → PltSt) : (s.modPlt f).tide = s.tide := rfl
@[simp] theorem State.modPlt_edge (f : PltSt → PltSt) : (s.modPlt f).edge = s.edge := rfl
@[simp] theorem State.modPlt_tod (f : PltSt → PltSt) : (s.modPlt f).tod = s.tod := rfl
@[simp] theorem State.modPlt_ust (f : PltSt → PltSt) : (s.modPlt f).ust = s.ust := rfl
@[simp] theorem State.modPlt_cmd (f : PltSt → PltSt) : (s.modPlt f).cmd = s.cmd := rfl
@[simp] theorem State.modPlt_yard (f : PltSt → PltSt) : (s.modPlt f).yard = s.yard := rfl
@[simp] theorem State.modPlt_mem (f : PltSt → PltSt) : (s.modPlt f).mem = s.mem := rfl
@[simp] theorem State.modPlt_dock (f : PltSt → PltSt) : (s.modPlt f).dock = s.dock := rfl
@[simp] theorem State.modPlt_brt (f : PltSt → PltSt) : (s.modPlt f).brt = s.brt := rfl
@[simp] theorem State.modPlt_acq (f : PltSt → PltSt) : (s.modPlt f).acq = s.acq := rfl
@[simp] theorem State.modPlt_hists (f : PltSt → PltSt) : (s.modPlt f).hists = s.hists := rfl
@[simp] theorem State.modPlt_maps (f : PltSt → PltSt) : (s.modPlt f).maps = s.maps := rfl
@[simp] theorem State.modPlt_fry (f : PltSt → PltSt) : (s.modPlt f).fry = s.fry := rfl
@[simp] theorem State.modPlt_lanes (f : PltSt → PltSt) : (s.modPlt f).lanes = s.lanes := rfl
@[simp] theorem State.modPlt_knob (f : PltSt → PltSt) : (s.modPlt f).knob = s.knob := rfl
@[simp] theorem State.modPlt_plt (f : PltSt → PltSt) : (s.modPlt f).plt = f s.plt := rfl
@[simp] theorem State.modPlt_slc (f : PltSt → PltSt) : (s.modPlt f).slc = s.slc := rfl
@[simp] theorem State.modPlt_slip (f : PltSt → PltSt) : (s.modPlt f).slip = s.slip := rfl
@[simp] theorem State.modPlt_prt (f : PltSt → PltSt) : (s.modPlt f).prt = s.prt := rfl
@[simp] theorem State.modPlt_emc (f : PltSt → PltSt) : (s.modPlt f).emc = s.emc := rfl
@[simp] theorem State.modPlt_bell (f : PltSt → PltSt) : (s.modPlt f).bell = s.bell := rfl
@[simp] theorem State.modPlt_store (f : PltSt → PltSt) : (s.modPlt f).store = s.store := rfl
@[simp] theorem State.modPlt_clk (f : PltSt → PltSt) : (s.modPlt f).clk = s.clk := rfl
@[simp] theorem State.modPlt_pwr (f : PltSt → PltSt) : (s.modPlt f).pwr = s.pwr := rfl
@[simp] theorem State.modPlt_rdata (f : PltSt → PltSt) : (s.modPlt f).rdata = s.rdata := rfl
@[simp] theorem State.modPlt_free (f : PltSt → PltSt) : (s.modPlt f).free = s.free := rfl
@[simp] theorem State.modPlt_pending (f : PltSt → PltSt) : (s.modPlt f).pending = s.pending := rfl

/-! ### `State.modEng` -/

@[simp] theorem State.modEng_regs (g : Nat) (f : EngSt → EngSt) : (s.modEng g f).regs = s.regs := rfl
@[simp] theorem State.modEng_lows (g : Nat) (f : EngSt → EngSt) : (s.modEng g f).lows = s.lows := rfl
@[simp] theorem State.modEng_latches (g : Nat) (f : EngSt → EngSt) : (s.modEng g f).latches = s.latches := rfl
@[simp] theorem State.modEng_tide (g : Nat) (f : EngSt → EngSt) : (s.modEng g f).tide = s.tide := rfl
@[simp] theorem State.modEng_edge (g : Nat) (f : EngSt → EngSt) : (s.modEng g f).edge = s.edge := rfl
@[simp] theorem State.modEng_tod (g : Nat) (f : EngSt → EngSt) : (s.modEng g f).tod = s.tod := rfl
@[simp] theorem State.modEng_ust (g : Nat) (f : EngSt → EngSt) : (s.modEng g f).ust = s.ust := rfl
@[simp] theorem State.modEng_cmd (g : Nat) (f : EngSt → EngSt) : (s.modEng g f).cmd = s.cmd := rfl
@[simp] theorem State.modEng_yard (g : Nat) (f : EngSt → EngSt) : (s.modEng g f).yard = s.yard := rfl
@[simp] theorem State.modEng_mem (g : Nat) (f : EngSt → EngSt) : (s.modEng g f).mem = s.mem := rfl
@[simp] theorem State.modEng_dock (g : Nat) (f : EngSt → EngSt) : (s.modEng g f).dock = s.dock := rfl
@[simp] theorem State.modEng_brt (g : Nat) (f : EngSt → EngSt) : (s.modEng g f).brt = s.brt := rfl
@[simp] theorem State.modEng_acq (g : Nat) (f : EngSt → EngSt) : (s.modEng g f).acq = s.acq := rfl
@[simp] theorem State.modEng_hists (g : Nat) (f : EngSt → EngSt) : (s.modEng g f).hists = s.hists := rfl
@[simp] theorem State.modEng_maps (g : Nat) (f : EngSt → EngSt) : (s.modEng g f).maps = s.maps := rfl
@[simp] theorem State.modEng_fry (g : Nat) (f : EngSt → EngSt) : (s.modEng g f).fry = s.fry := rfl
@[simp] theorem State.modEng_lanes (g : Nat) (f : EngSt → EngSt) : (s.modEng g f).lanes = s.lanes := rfl
@[simp] theorem State.modEng_knob (g : Nat) (f : EngSt → EngSt) : (s.modEng g f).knob = s.knob := rfl
@[simp] theorem State.modEng_slc (g : Nat) (f : EngSt → EngSt) : (s.modEng g f).slc = s.slc := rfl
@[simp] theorem State.modEng_slip (g : Nat) (f : EngSt → EngSt) : (s.modEng g f).slip = s.slip := rfl
@[simp] theorem State.modEng_prt (g : Nat) (f : EngSt → EngSt) : (s.modEng g f).prt = s.prt := rfl
@[simp] theorem State.modEng_emc (g : Nat) (f : EngSt → EngSt) : (s.modEng g f).emc = s.emc := rfl
@[simp] theorem State.modEng_bell (g : Nat) (f : EngSt → EngSt) : (s.modEng g f).bell = s.bell := rfl
@[simp] theorem State.modEng_store (g : Nat) (f : EngSt → EngSt) : (s.modEng g f).store = s.store := rfl
@[simp] theorem State.modEng_clk (g : Nat) (f : EngSt → EngSt) : (s.modEng g f).clk = s.clk := rfl
@[simp] theorem State.modEng_pwr (g : Nat) (f : EngSt → EngSt) : (s.modEng g f).pwr = s.pwr := rfl
@[simp] theorem State.modEng_rdata (g : Nat) (f : EngSt → EngSt) : (s.modEng g f).rdata = s.rdata := rfl
@[simp] theorem State.modEng_free (g : Nat) (f : EngSt → EngSt) : (s.modEng g f).free = s.free := rfl
@[simp] theorem State.modEng_pending (g : Nat) (f : EngSt → EngSt) : (s.modEng g f).pending = s.pending := rfl

/-! ### `State.modDet` -/

@[simp] theorem State.modDet_regs (d : Nat) (f : DetSt → DetSt) : (s.modDet d f).regs = s.regs := rfl
@[simp] theorem State.modDet_lows (d : Nat) (f : DetSt → DetSt) : (s.modDet d f).lows = s.lows := rfl
@[simp] theorem State.modDet_latches (d : Nat) (f : DetSt → DetSt) : (s.modDet d f).latches = s.latches := rfl
@[simp] theorem State.modDet_tide (d : Nat) (f : DetSt → DetSt) : (s.modDet d f).tide = s.tide := rfl
@[simp] theorem State.modDet_edge (d : Nat) (f : DetSt → DetSt) : (s.modDet d f).edge = s.edge := rfl
@[simp] theorem State.modDet_tod (d : Nat) (f : DetSt → DetSt) : (s.modDet d f).tod = s.tod := rfl
@[simp] theorem State.modDet_ust (d : Nat) (f : DetSt → DetSt) : (s.modDet d f).ust = s.ust := rfl
@[simp] theorem State.modDet_cmd (d : Nat) (f : DetSt → DetSt) : (s.modDet d f).cmd = s.cmd := rfl
@[simp] theorem State.modDet_yard (d : Nat) (f : DetSt → DetSt) : (s.modDet d f).yard = s.yard := rfl
@[simp] theorem State.modDet_mem (d : Nat) (f : DetSt → DetSt) : (s.modDet d f).mem = s.mem := rfl
@[simp] theorem State.modDet_dock (d : Nat) (f : DetSt → DetSt) : (s.modDet d f).dock = s.dock := rfl
@[simp] theorem State.modDet_brt (d : Nat) (f : DetSt → DetSt) : (s.modDet d f).brt = s.brt := rfl
@[simp] theorem State.modDet_acq (d : Nat) (f : DetSt → DetSt) : (s.modDet d f).acq = s.acq := rfl
@[simp] theorem State.modDet_hists (d : Nat) (f : DetSt → DetSt) : (s.modDet d f).hists = s.hists := rfl
@[simp] theorem State.modDet_maps (d : Nat) (f : DetSt → DetSt) : (s.modDet d f).maps = s.maps := rfl
@[simp] theorem State.modDet_fry (d : Nat) (f : DetSt → DetSt) : (s.modDet d f).fry = s.fry := rfl
@[simp] theorem State.modDet_lanes (d : Nat) (f : DetSt → DetSt) : (s.modDet d f).lanes = s.lanes := rfl
@[simp] theorem State.modDet_knob (d : Nat) (f : DetSt → DetSt) : (s.modDet d f).knob = s.knob := rfl
@[simp] theorem State.modDet_slc (d : Nat) (f : DetSt → DetSt) : (s.modDet d f).slc = s.slc := rfl
@[simp] theorem State.modDet_slip (d : Nat) (f : DetSt → DetSt) : (s.modDet d f).slip = s.slip := rfl
@[simp] theorem State.modDet_prt (d : Nat) (f : DetSt → DetSt) : (s.modDet d f).prt = s.prt := rfl
@[simp] theorem State.modDet_emc (d : Nat) (f : DetSt → DetSt) : (s.modDet d f).emc = s.emc := rfl
@[simp] theorem State.modDet_bell (d : Nat) (f : DetSt → DetSt) : (s.modDet d f).bell = s.bell := rfl
@[simp] theorem State.modDet_store (d : Nat) (f : DetSt → DetSt) : (s.modDet d f).store = s.store := rfl
@[simp] theorem State.modDet_clk (d : Nat) (f : DetSt → DetSt) : (s.modDet d f).clk = s.clk := rfl
@[simp] theorem State.modDet_pwr (d : Nat) (f : DetSt → DetSt) : (s.modDet d f).pwr = s.pwr := rfl
@[simp] theorem State.modDet_rdata (d : Nat) (f : DetSt → DetSt) : (s.modDet d f).rdata = s.rdata := rfl
@[simp] theorem State.modDet_free (d : Nat) (f : DetSt → DetSt) : (s.modDet d f).free = s.free := rfl
@[simp] theorem State.modDet_pending (d : Nat) (f : DetSt → DetSt) : (s.modDet d f).pending = s.pending := rfl

/-! ### `State.modPwr` -/

@[simp] theorem State.modPwr_regs (f : PwrSt → PwrSt) : (s.modPwr f).regs = s.regs := rfl
@[simp] theorem State.modPwr_lows (f : PwrSt → PwrSt) : (s.modPwr f).lows = s.lows := rfl
@[simp] theorem State.modPwr_latches (f : PwrSt → PwrSt) : (s.modPwr f).latches = s.latches := rfl
@[simp] theorem State.modPwr_tide (f : PwrSt → PwrSt) : (s.modPwr f).tide = s.tide := rfl
@[simp] theorem State.modPwr_edge (f : PwrSt → PwrSt) : (s.modPwr f).edge = s.edge := rfl
@[simp] theorem State.modPwr_tod (f : PwrSt → PwrSt) : (s.modPwr f).tod = s.tod := rfl
@[simp] theorem State.modPwr_ust (f : PwrSt → PwrSt) : (s.modPwr f).ust = s.ust := rfl
@[simp] theorem State.modPwr_cmd (f : PwrSt → PwrSt) : (s.modPwr f).cmd = s.cmd := rfl
@[simp] theorem State.modPwr_yard (f : PwrSt → PwrSt) : (s.modPwr f).yard = s.yard := rfl
@[simp] theorem State.modPwr_mem (f : PwrSt → PwrSt) : (s.modPwr f).mem = s.mem := rfl
@[simp] theorem State.modPwr_dock (f : PwrSt → PwrSt) : (s.modPwr f).dock = s.dock := rfl
@[simp] theorem State.modPwr_brt (f : PwrSt → PwrSt) : (s.modPwr f).brt = s.brt := rfl
@[simp] theorem State.modPwr_acq (f : PwrSt → PwrSt) : (s.modPwr f).acq = s.acq := rfl
@[simp] theorem State.modPwr_hists (f : PwrSt → PwrSt) : (s.modPwr f).hists = s.hists := rfl
@[simp] theorem State.modPwr_maps (f : PwrSt → PwrSt) : (s.modPwr f).maps = s.maps := rfl
@[simp] theorem State.modPwr_fry (f : PwrSt → PwrSt) : (s.modPwr f).fry = s.fry := rfl
@[simp] theorem State.modPwr_lanes (f : PwrSt → PwrSt) : (s.modPwr f).lanes = s.lanes := rfl
@[simp] theorem State.modPwr_knob (f : PwrSt → PwrSt) : (s.modPwr f).knob = s.knob := rfl
@[simp] theorem State.modPwr_plt (f : PwrSt → PwrSt) : (s.modPwr f).plt = s.plt := rfl
@[simp] theorem State.modPwr_slc (f : PwrSt → PwrSt) : (s.modPwr f).slc = s.slc := rfl
@[simp] theorem State.modPwr_slip (f : PwrSt → PwrSt) : (s.modPwr f).slip = s.slip := rfl
@[simp] theorem State.modPwr_prt (f : PwrSt → PwrSt) : (s.modPwr f).prt = s.prt := rfl
@[simp] theorem State.modPwr_emc (f : PwrSt → PwrSt) : (s.modPwr f).emc = s.emc := rfl
@[simp] theorem State.modPwr_bell (f : PwrSt → PwrSt) : (s.modPwr f).bell = s.bell := rfl
@[simp] theorem State.modPwr_store (f : PwrSt → PwrSt) : (s.modPwr f).store = s.store := rfl
@[simp] theorem State.modPwr_clk (f : PwrSt → PwrSt) : (s.modPwr f).clk = s.clk := rfl
@[simp] theorem State.modPwr_pwr (f : PwrSt → PwrSt) : (s.modPwr f).pwr = f s.pwr := rfl
@[simp] theorem State.modPwr_rdata (f : PwrSt → PwrSt) : (s.modPwr f).rdata = s.rdata := rfl
@[simp] theorem State.modPwr_free (f : PwrSt → PwrSt) : (s.modPwr f).free = s.free := rfl
@[simp] theorem State.modPwr_pending (f : PwrSt → PwrSt) : (s.modPwr f).pending = s.pending := rfl

/-! ### `State.modPrt` -/

@[simp] theorem State.modPrt_regs (f : PrtSt → PrtSt) : (s.modPrt f).regs = s.regs := rfl
@[simp] theorem State.modPrt_lows (f : PrtSt → PrtSt) : (s.modPrt f).lows = s.lows := rfl
@[simp] theorem State.modPrt_latches (f : PrtSt → PrtSt) : (s.modPrt f).latches = s.latches := rfl
@[simp] theorem State.modPrt_tide (f : PrtSt → PrtSt) : (s.modPrt f).tide = s.tide := rfl
@[simp] theorem State.modPrt_edge (f : PrtSt → PrtSt) : (s.modPrt f).edge = s.edge := rfl
@[simp] theorem State.modPrt_tod (f : PrtSt → PrtSt) : (s.modPrt f).tod = s.tod := rfl
@[simp] theorem State.modPrt_ust (f : PrtSt → PrtSt) : (s.modPrt f).ust = s.ust := rfl
@[simp] theorem State.modPrt_cmd (f : PrtSt → PrtSt) : (s.modPrt f).cmd = s.cmd := rfl
@[simp] theorem State.modPrt_yard (f : PrtSt → PrtSt) : (s.modPrt f).yard = s.yard := rfl
@[simp] theorem State.modPrt_mem (f : PrtSt → PrtSt) : (s.modPrt f).mem = s.mem := rfl
@[simp] theorem State.modPrt_dock (f : PrtSt → PrtSt) : (s.modPrt f).dock = s.dock := rfl
@[simp] theorem State.modPrt_brt (f : PrtSt → PrtSt) : (s.modPrt f).brt = s.brt := rfl
@[simp] theorem State.modPrt_acq (f : PrtSt → PrtSt) : (s.modPrt f).acq = s.acq := rfl
@[simp] theorem State.modPrt_hists (f : PrtSt → PrtSt) : (s.modPrt f).hists = s.hists := rfl
@[simp] theorem State.modPrt_maps (f : PrtSt → PrtSt) : (s.modPrt f).maps = s.maps := rfl
@[simp] theorem State.modPrt_fry (f : PrtSt → PrtSt) : (s.modPrt f).fry = s.fry := rfl
@[simp] theorem State.modPrt_lanes (f : PrtSt → PrtSt) : (s.modPrt f).lanes = s.lanes := rfl
@[simp] theorem State.modPrt_knob (f : PrtSt → PrtSt) : (s.modPrt f).knob = s.knob := rfl
@[simp] theorem State.modPrt_plt (f : PrtSt → PrtSt) : (s.modPrt f).plt = s.plt := rfl
@[simp] theorem State.modPrt_slc (f : PrtSt → PrtSt) : (s.modPrt f).slc = s.slc := rfl
@[simp] theorem State.modPrt_slip (f : PrtSt → PrtSt) : (s.modPrt f).slip = s.slip := rfl
@[simp] theorem State.modPrt_prt (f : PrtSt → PrtSt) : (s.modPrt f).prt = f s.prt := rfl
@[simp] theorem State.modPrt_emc (f : PrtSt → PrtSt) : (s.modPrt f).emc = s.emc := rfl
@[simp] theorem State.modPrt_bell (f : PrtSt → PrtSt) : (s.modPrt f).bell = s.bell := rfl
@[simp] theorem State.modPrt_store (f : PrtSt → PrtSt) : (s.modPrt f).store = s.store := rfl
@[simp] theorem State.modPrt_clk (f : PrtSt → PrtSt) : (s.modPrt f).clk = s.clk := rfl
@[simp] theorem State.modPrt_pwr (f : PrtSt → PrtSt) : (s.modPrt f).pwr = s.pwr := rfl
@[simp] theorem State.modPrt_rdata (f : PrtSt → PrtSt) : (s.modPrt f).rdata = s.rdata := rfl
@[simp] theorem State.modPrt_free (f : PrtSt → PrtSt) : (s.modPrt f).free = s.free := rfl
@[simp] theorem State.modPrt_pending (f : PrtSt → PrtSt) : (s.modPrt f).pending = s.pending := rfl

/-! ### `State.modSlip` -/

@[simp] theorem State.modSlip_regs (f : SlipSt → SlipSt) : (s.modSlip f).regs = s.regs := rfl
@[simp] theorem State.modSlip_lows (f : SlipSt → SlipSt) : (s.modSlip f).lows = s.lows := rfl
@[simp] theorem State.modSlip_latches (f : SlipSt → SlipSt) : (s.modSlip f).latches = s.latches := rfl
@[simp] theorem State.modSlip_tide (f : SlipSt → SlipSt) : (s.modSlip f).tide = s.tide := rfl
@[simp] theorem State.modSlip_edge (f : SlipSt → SlipSt) : (s.modSlip f).edge = s.edge := rfl
@[simp] theorem State.modSlip_tod (f : SlipSt → SlipSt) : (s.modSlip f).tod = s.tod := rfl
@[simp] theorem State.modSlip_ust (f : SlipSt → SlipSt) : (s.modSlip f).ust = s.ust := rfl
@[simp] theorem State.modSlip_cmd (f : SlipSt → SlipSt) : (s.modSlip f).cmd = s.cmd := rfl
@[simp] theorem State.modSlip_yard (f : SlipSt → SlipSt) : (s.modSlip f).yard = s.yard := rfl
@[simp] theorem State.modSlip_mem (f : SlipSt → SlipSt) : (s.modSlip f).mem = s.mem := rfl
@[simp] theorem State.modSlip_dock (f : SlipSt → SlipSt) : (s.modSlip f).dock = s.dock := rfl
@[simp] theorem State.modSlip_brt (f : SlipSt → SlipSt) : (s.modSlip f).brt = s.brt := rfl
@[simp] theorem State.modSlip_acq (f : SlipSt → SlipSt) : (s.modSlip f).acq = s.acq := rfl
@[simp] theorem State.modSlip_hists (f : SlipSt → SlipSt) : (s.modSlip f).hists = s.hists := rfl
@[simp] theorem State.modSlip_maps (f : SlipSt → SlipSt) : (s.modSlip f).maps = s.maps := rfl
@[simp] theorem State.modSlip_fry (f : SlipSt → SlipSt) : (s.modSlip f).fry = s.fry := rfl
@[simp] theorem State.modSlip_lanes (f : SlipSt → SlipSt) : (s.modSlip f).lanes = s.lanes := rfl
@[simp] theorem State.modSlip_knob (f : SlipSt → SlipSt) : (s.modSlip f).knob = s.knob := rfl
@[simp] theorem State.modSlip_plt (f : SlipSt → SlipSt) : (s.modSlip f).plt = s.plt := rfl
@[simp] theorem State.modSlip_slc (f : SlipSt → SlipSt) : (s.modSlip f).slc = s.slc := rfl
@[simp] theorem State.modSlip_slip (f : SlipSt → SlipSt) : (s.modSlip f).slip = f s.slip := rfl
@[simp] theorem State.modSlip_prt (f : SlipSt → SlipSt) : (s.modSlip f).prt = s.prt := rfl
@[simp] theorem State.modSlip_emc (f : SlipSt → SlipSt) : (s.modSlip f).emc = s.emc := rfl
@[simp] theorem State.modSlip_bell (f : SlipSt → SlipSt) : (s.modSlip f).bell = s.bell := rfl
@[simp] theorem State.modSlip_store (f : SlipSt → SlipSt) : (s.modSlip f).store = s.store := rfl
@[simp] theorem State.modSlip_clk (f : SlipSt → SlipSt) : (s.modSlip f).clk = s.clk := rfl
@[simp] theorem State.modSlip_pwr (f : SlipSt → SlipSt) : (s.modSlip f).pwr = s.pwr := rfl
@[simp] theorem State.modSlip_rdata (f : SlipSt → SlipSt) : (s.modSlip f).rdata = s.rdata := rfl
@[simp] theorem State.modSlip_free (f : SlipSt → SlipSt) : (s.modSlip f).free = s.free := rfl
@[simp] theorem State.modSlip_pending (f : SlipSt → SlipSt) : (s.modSlip f).pending = s.pending := rfl

/-! ### `State.modPort` -/

@[simp] theorem State.modPort_regs (p : Nat) (f : SlipPort → SlipPort) : (s.modPort p f).regs = s.regs := rfl
@[simp] theorem State.modPort_lows (p : Nat) (f : SlipPort → SlipPort) : (s.modPort p f).lows = s.lows := rfl
@[simp] theorem State.modPort_latches (p : Nat) (f : SlipPort → SlipPort) : (s.modPort p f).latches = s.latches := rfl
@[simp] theorem State.modPort_tide (p : Nat) (f : SlipPort → SlipPort) : (s.modPort p f).tide = s.tide := rfl
@[simp] theorem State.modPort_edge (p : Nat) (f : SlipPort → SlipPort) : (s.modPort p f).edge = s.edge := rfl
@[simp] theorem State.modPort_tod (p : Nat) (f : SlipPort → SlipPort) : (s.modPort p f).tod = s.tod := rfl
@[simp] theorem State.modPort_ust (p : Nat) (f : SlipPort → SlipPort) : (s.modPort p f).ust = s.ust := rfl
@[simp] theorem State.modPort_cmd (p : Nat) (f : SlipPort → SlipPort) : (s.modPort p f).cmd = s.cmd := rfl
@[simp] theorem State.modPort_yard (p : Nat) (f : SlipPort → SlipPort) : (s.modPort p f).yard = s.yard := rfl
@[simp] theorem State.modPort_mem (p : Nat) (f : SlipPort → SlipPort) : (s.modPort p f).mem = s.mem := rfl
@[simp] theorem State.modPort_dock (p : Nat) (f : SlipPort → SlipPort) : (s.modPort p f).dock = s.dock := rfl
@[simp] theorem State.modPort_brt (p : Nat) (f : SlipPort → SlipPort) : (s.modPort p f).brt = s.brt := rfl
@[simp] theorem State.modPort_acq (p : Nat) (f : SlipPort → SlipPort) : (s.modPort p f).acq = s.acq := rfl
@[simp] theorem State.modPort_hists (p : Nat) (f : SlipPort → SlipPort) : (s.modPort p f).hists = s.hists := rfl
@[simp] theorem State.modPort_maps (p : Nat) (f : SlipPort → SlipPort) : (s.modPort p f).maps = s.maps := rfl
@[simp] theorem State.modPort_fry (p : Nat) (f : SlipPort → SlipPort) : (s.modPort p f).fry = s.fry := rfl
@[simp] theorem State.modPort_lanes (p : Nat) (f : SlipPort → SlipPort) : (s.modPort p f).lanes = s.lanes := rfl
@[simp] theorem State.modPort_knob (p : Nat) (f : SlipPort → SlipPort) : (s.modPort p f).knob = s.knob := rfl
@[simp] theorem State.modPort_plt (p : Nat) (f : SlipPort → SlipPort) : (s.modPort p f).plt = s.plt := rfl
@[simp] theorem State.modPort_slc (p : Nat) (f : SlipPort → SlipPort) : (s.modPort p f).slc = s.slc := rfl
@[simp] theorem State.modPort_prt (p : Nat) (f : SlipPort → SlipPort) : (s.modPort p f).prt = s.prt := rfl
@[simp] theorem State.modPort_emc (p : Nat) (f : SlipPort → SlipPort) : (s.modPort p f).emc = s.emc := rfl
@[simp] theorem State.modPort_bell (p : Nat) (f : SlipPort → SlipPort) : (s.modPort p f).bell = s.bell := rfl
@[simp] theorem State.modPort_store (p : Nat) (f : SlipPort → SlipPort) : (s.modPort p f).store = s.store := rfl
@[simp] theorem State.modPort_clk (p : Nat) (f : SlipPort → SlipPort) : (s.modPort p f).clk = s.clk := rfl
@[simp] theorem State.modPort_pwr (p : Nat) (f : SlipPort → SlipPort) : (s.modPort p f).pwr = s.pwr := rfl
@[simp] theorem State.modPort_rdata (p : Nat) (f : SlipPort → SlipPort) : (s.modPort p f).rdata = s.rdata := rfl
@[simp] theorem State.modPort_free (p : Nat) (f : SlipPort → SlipPort) : (s.modPort p f).free = s.free := rfl
@[simp] theorem State.modPort_pending (p : Nat) (f : SlipPort → SlipPort) : (s.modPort p f).pending = s.pending := rfl

/-! ### `State.modLoop` -/

@[simp] theorem State.modLoop_regs (n : Nat) (f : LoopSt → LoopSt) : (s.modLoop n f).regs = s.regs := rfl
@[simp] theorem State.modLoop_lows (n : Nat) (f : LoopSt → LoopSt) : (s.modLoop n f).lows = s.lows := rfl
@[simp] theorem State.modLoop_latches (n : Nat) (f : LoopSt → LoopSt) : (s.modLoop n f).latches = s.latches := rfl
@[simp] theorem State.modLoop_tide (n : Nat) (f : LoopSt → LoopSt) : (s.modLoop n f).tide = s.tide := rfl
@[simp] theorem State.modLoop_edge (n : Nat) (f : LoopSt → LoopSt) : (s.modLoop n f).edge = s.edge := rfl
@[simp] theorem State.modLoop_tod (n : Nat) (f : LoopSt → LoopSt) : (s.modLoop n f).tod = s.tod := rfl
@[simp] theorem State.modLoop_ust (n : Nat) (f : LoopSt → LoopSt) : (s.modLoop n f).ust = s.ust := rfl
@[simp] theorem State.modLoop_cmd (n : Nat) (f : LoopSt → LoopSt) : (s.modLoop n f).cmd = s.cmd := rfl
@[simp] theorem State.modLoop_yard (n : Nat) (f : LoopSt → LoopSt) : (s.modLoop n f).yard = s.yard := rfl
@[simp] theorem State.modLoop_mem (n : Nat) (f : LoopSt → LoopSt) : (s.modLoop n f).mem = s.mem := rfl
@[simp] theorem State.modLoop_dock (n : Nat) (f : LoopSt → LoopSt) : (s.modLoop n f).dock = s.dock := rfl
@[simp] theorem State.modLoop_brt (n : Nat) (f : LoopSt → LoopSt) : (s.modLoop n f).brt = s.brt := rfl
@[simp] theorem State.modLoop_acq (n : Nat) (f : LoopSt → LoopSt) : (s.modLoop n f).acq = s.acq := rfl
@[simp] theorem State.modLoop_hists (n : Nat) (f : LoopSt → LoopSt) : (s.modLoop n f).hists = s.hists := rfl
@[simp] theorem State.modLoop_maps (n : Nat) (f : LoopSt → LoopSt) : (s.modLoop n f).maps = s.maps := rfl
@[simp] theorem State.modLoop_fry (n : Nat) (f : LoopSt → LoopSt) : (s.modLoop n f).fry = s.fry := rfl
@[simp] theorem State.modLoop_lanes (n : Nat) (f : LoopSt → LoopSt) : (s.modLoop n f).lanes = s.lanes := rfl
@[simp] theorem State.modLoop_knob (n : Nat) (f : LoopSt → LoopSt) : (s.modLoop n f).knob = s.knob := rfl
@[simp] theorem State.modLoop_plt (n : Nat) (f : LoopSt → LoopSt) : (s.modLoop n f).plt = s.plt := rfl
@[simp] theorem State.modLoop_slip (n : Nat) (f : LoopSt → LoopSt) : (s.modLoop n f).slip = s.slip := rfl
@[simp] theorem State.modLoop_prt (n : Nat) (f : LoopSt → LoopSt) : (s.modLoop n f).prt = s.prt := rfl
@[simp] theorem State.modLoop_emc (n : Nat) (f : LoopSt → LoopSt) : (s.modLoop n f).emc = s.emc := rfl
@[simp] theorem State.modLoop_bell (n : Nat) (f : LoopSt → LoopSt) : (s.modLoop n f).bell = s.bell := rfl
@[simp] theorem State.modLoop_store (n : Nat) (f : LoopSt → LoopSt) : (s.modLoop n f).store = s.store := rfl
@[simp] theorem State.modLoop_clk (n : Nat) (f : LoopSt → LoopSt) : (s.modLoop n f).clk = s.clk := rfl
@[simp] theorem State.modLoop_pwr (n : Nat) (f : LoopSt → LoopSt) : (s.modLoop n f).pwr = s.pwr := rfl
@[simp] theorem State.modLoop_rdata (n : Nat) (f : LoopSt → LoopSt) : (s.modLoop n f).rdata = s.rdata := rfl
@[simp] theorem State.modLoop_free (n : Nat) (f : LoopSt → LoopSt) : (s.modLoop n f).free = s.free := rfl
@[simp] theorem State.modLoop_pending (n : Nat) (f : LoopSt → LoopSt) : (s.modLoop n f).pending = s.pending := rfl

/-! ### `State.modList` -/

@[simp] theorem State.modList_regs (n : Nat) (f : ListSt → ListSt) : (s.modList n f).regs = s.regs := rfl
@[simp] theorem State.modList_lows (n : Nat) (f : ListSt → ListSt) : (s.modList n f).lows = s.lows := rfl
@[simp] theorem State.modList_latches (n : Nat) (f : ListSt → ListSt) : (s.modList n f).latches = s.latches := rfl
@[simp] theorem State.modList_tide (n : Nat) (f : ListSt → ListSt) : (s.modList n f).tide = s.tide := rfl
@[simp] theorem State.modList_edge (n : Nat) (f : ListSt → ListSt) : (s.modList n f).edge = s.edge := rfl
@[simp] theorem State.modList_tod (n : Nat) (f : ListSt → ListSt) : (s.modList n f).tod = s.tod := rfl
@[simp] theorem State.modList_ust (n : Nat) (f : ListSt → ListSt) : (s.modList n f).ust = s.ust := rfl
@[simp] theorem State.modList_cmd (n : Nat) (f : ListSt → ListSt) : (s.modList n f).cmd = s.cmd := rfl
@[simp] theorem State.modList_yard (n : Nat) (f : ListSt → ListSt) : (s.modList n f).yard = s.yard := rfl
@[simp] theorem State.modList_mem (n : Nat) (f : ListSt → ListSt) : (s.modList n f).mem = s.mem := rfl
@[simp] theorem State.modList_dock (n : Nat) (f : ListSt → ListSt) : (s.modList n f).dock = s.dock := rfl
@[simp] theorem State.modList_brt (n : Nat) (f : ListSt → ListSt) : (s.modList n f).brt = s.brt := rfl
@[simp] theorem State.modList_acq (n : Nat) (f : ListSt → ListSt) : (s.modList n f).acq = s.acq := rfl
@[simp] theorem State.modList_hists (n : Nat) (f : ListSt → ListSt) : (s.modList n f).hists = s.hists := rfl
@[simp] theorem State.modList_maps (n : Nat) (f : ListSt → ListSt) : (s.modList n f).maps = s.maps := rfl
@[simp] theorem State.modList_fry (n : Nat) (f : ListSt → ListSt) : (s.modList n f).fry = s.fry := rfl
@[simp] theorem State.modList_lanes (n : Nat) (f : ListSt → ListSt) : (s.modList n f).lanes = s.lanes := rfl
@[simp] theorem State.modList_knob (n : Nat) (f : ListSt → ListSt) : (s.modList n f).knob = s.knob := rfl
@[simp] theorem State.modList_plt (n : Nat) (f : ListSt → ListSt) : (s.modList n f).plt = s.plt := rfl
@[simp] theorem State.modList_slip (n : Nat) (f : ListSt → ListSt) : (s.modList n f).slip = s.slip := rfl
@[simp] theorem State.modList_prt (n : Nat) (f : ListSt → ListSt) : (s.modList n f).prt = s.prt := rfl
@[simp] theorem State.modList_emc (n : Nat) (f : ListSt → ListSt) : (s.modList n f).emc = s.emc := rfl
@[simp] theorem State.modList_bell (n : Nat) (f : ListSt → ListSt) : (s.modList n f).bell = s.bell := rfl
@[simp] theorem State.modList_store (n : Nat) (f : ListSt → ListSt) : (s.modList n f).store = s.store := rfl
@[simp] theorem State.modList_clk (n : Nat) (f : ListSt → ListSt) : (s.modList n f).clk = s.clk := rfl
@[simp] theorem State.modList_pwr (n : Nat) (f : ListSt → ListSt) : (s.modList n f).pwr = s.pwr := rfl
@[simp] theorem State.modList_rdata (n : Nat) (f : ListSt → ListSt) : (s.modList n f).rdata = s.rdata := rfl
@[simp] theorem State.modList_free (n : Nat) (f : ListSt → ListSt) : (s.modList n f).free = s.free := rfl
@[simp] theorem State.modList_pending (n : Nat) (f : ListSt → ListSt) : (s.modList n f).pending = s.pending := rfl

/-! ### `State.modKnob` -/

@[simp] theorem State.modKnob_regs (f : KnobSt → KnobSt) : (s.modKnob f).regs = s.regs := rfl
@[simp] theorem State.modKnob_lows (f : KnobSt → KnobSt) : (s.modKnob f).lows = s.lows := rfl
@[simp] theorem State.modKnob_latches (f : KnobSt → KnobSt) : (s.modKnob f).latches = s.latches := rfl
@[simp] theorem State.modKnob_tide (f : KnobSt → KnobSt) : (s.modKnob f).tide = s.tide := rfl
@[simp] theorem State.modKnob_edge (f : KnobSt → KnobSt) : (s.modKnob f).edge = s.edge := rfl
@[simp] theorem State.modKnob_tod (f : KnobSt → KnobSt) : (s.modKnob f).tod = s.tod := rfl
@[simp] theorem State.modKnob_ust (f : KnobSt → KnobSt) : (s.modKnob f).ust = s.ust := rfl
@[simp] theorem State.modKnob_cmd (f : KnobSt → KnobSt) : (s.modKnob f).cmd = s.cmd := rfl
@[simp] theorem State.modKnob_yard (f : KnobSt → KnobSt) : (s.modKnob f).yard = s.yard := rfl
@[simp] theorem State.modKnob_mem (f : KnobSt → KnobSt) : (s.modKnob f).mem = s.mem := rfl
@[simp] theorem State.modKnob_dock (f : KnobSt → KnobSt) : (s.modKnob f).dock = s.dock := rfl
@[simp] theorem State.modKnob_brt (f : KnobSt → KnobSt) : (s.modKnob f).brt = s.brt := rfl
@[simp] theorem State.modKnob_acq (f : KnobSt → KnobSt) : (s.modKnob f).acq = s.acq := rfl
@[simp] theorem State.modKnob_hists (f : KnobSt → KnobSt) : (s.modKnob f).hists = s.hists := rfl
@[simp] theorem State.modKnob_maps (f : KnobSt → KnobSt) : (s.modKnob f).maps = s.maps := rfl
@[simp] theorem State.modKnob_fry (f : KnobSt → KnobSt) : (s.modKnob f).fry = s.fry := rfl
@[simp] theorem State.modKnob_lanes (f : KnobSt → KnobSt) : (s.modKnob f).lanes = s.lanes := rfl
@[simp] theorem State.modKnob_knob (f : KnobSt → KnobSt) : (s.modKnob f).knob = f s.knob := rfl
@[simp] theorem State.modKnob_plt (f : KnobSt → KnobSt) : (s.modKnob f).plt = s.plt := rfl
@[simp] theorem State.modKnob_slc (f : KnobSt → KnobSt) : (s.modKnob f).slc = s.slc := rfl
@[simp] theorem State.modKnob_slip (f : KnobSt → KnobSt) : (s.modKnob f).slip = s.slip := rfl
@[simp] theorem State.modKnob_prt (f : KnobSt → KnobSt) : (s.modKnob f).prt = s.prt := rfl
@[simp] theorem State.modKnob_emc (f : KnobSt → KnobSt) : (s.modKnob f).emc = s.emc := rfl
@[simp] theorem State.modKnob_bell (f : KnobSt → KnobSt) : (s.modKnob f).bell = s.bell := rfl
@[simp] theorem State.modKnob_store (f : KnobSt → KnobSt) : (s.modKnob f).store = s.store := rfl
@[simp] theorem State.modKnob_clk (f : KnobSt → KnobSt) : (s.modKnob f).clk = s.clk := rfl
@[simp] theorem State.modKnob_pwr (f : KnobSt → KnobSt) : (s.modKnob f).pwr = s.pwr := rfl
@[simp] theorem State.modKnob_rdata (f : KnobSt → KnobSt) : (s.modKnob f).rdata = s.rdata := rfl
@[simp] theorem State.modKnob_free (f : KnobSt → KnobSt) : (s.modKnob f).free = s.free := rfl
@[simp] theorem State.modKnob_pending (f : KnobSt → KnobSt) : (s.modKnob f).pending = s.pending := rfl

/-! ### `State.modStore` -/

@[simp] theorem State.modStore_regs (f : StoreSt → StoreSt) : (s.modStore f).regs = s.regs := rfl
@[simp] theorem State.modStore_lows (f : StoreSt → StoreSt) : (s.modStore f).lows = s.lows := rfl
@[simp] theorem State.modStore_latches (f : StoreSt → StoreSt) : (s.modStore f).latches = s.latches := rfl
@[simp] theorem State.modStore_tide (f : StoreSt → StoreSt) : (s.modStore f).tide = s.tide := rfl
@[simp] theorem State.modStore_edge (f : StoreSt → StoreSt) : (s.modStore f).edge = s.edge := rfl
@[simp] theorem State.modStore_tod (f : StoreSt → StoreSt) : (s.modStore f).tod = s.tod := rfl
@[simp] theorem State.modStore_ust (f : StoreSt → StoreSt) : (s.modStore f).ust = s.ust := rfl
@[simp] theorem State.modStore_cmd (f : StoreSt → StoreSt) : (s.modStore f).cmd = s.cmd := rfl
@[simp] theorem State.modStore_yard (f : StoreSt → StoreSt) : (s.modStore f).yard = s.yard := rfl
@[simp] theorem State.modStore_mem (f : StoreSt → StoreSt) : (s.modStore f).mem = s.mem := rfl
@[simp] theorem State.modStore_dock (f : StoreSt → StoreSt) : (s.modStore f).dock = s.dock := rfl
@[simp] theorem State.modStore_brt (f : StoreSt → StoreSt) : (s.modStore f).brt = s.brt := rfl
@[simp] theorem State.modStore_acq (f : StoreSt → StoreSt) : (s.modStore f).acq = s.acq := rfl
@[simp] theorem State.modStore_hists (f : StoreSt → StoreSt) : (s.modStore f).hists = s.hists := rfl
@[simp] theorem State.modStore_maps (f : StoreSt → StoreSt) : (s.modStore f).maps = s.maps := rfl
@[simp] theorem State.modStore_fry (f : StoreSt → StoreSt) : (s.modStore f).fry = s.fry := rfl
@[simp] theorem State.modStore_lanes (f : StoreSt → StoreSt) : (s.modStore f).lanes = s.lanes := rfl
@[simp] theorem State.modStore_knob (f : StoreSt → StoreSt) : (s.modStore f).knob = s.knob := rfl
@[simp] theorem State.modStore_plt (f : StoreSt → StoreSt) : (s.modStore f).plt = s.plt := rfl
@[simp] theorem State.modStore_slc (f : StoreSt → StoreSt) : (s.modStore f).slc = s.slc := rfl
@[simp] theorem State.modStore_slip (f : StoreSt → StoreSt) : (s.modStore f).slip = s.slip := rfl
@[simp] theorem State.modStore_prt (f : StoreSt → StoreSt) : (s.modStore f).prt = s.prt := rfl
@[simp] theorem State.modStore_emc (f : StoreSt → StoreSt) : (s.modStore f).emc = s.emc := rfl
@[simp] theorem State.modStore_bell (f : StoreSt → StoreSt) : (s.modStore f).bell = s.bell := rfl
@[simp] theorem State.modStore_store (f : StoreSt → StoreSt) : (s.modStore f).store = f s.store := rfl
@[simp] theorem State.modStore_clk (f : StoreSt → StoreSt) : (s.modStore f).clk = s.clk := rfl
@[simp] theorem State.modStore_pwr (f : StoreSt → StoreSt) : (s.modStore f).pwr = s.pwr := rfl
@[simp] theorem State.modStore_rdata (f : StoreSt → StoreSt) : (s.modStore f).rdata = s.rdata := rfl
@[simp] theorem State.modStore_free (f : StoreSt → StoreSt) : (s.modStore f).free = s.free := rfl
@[simp] theorem State.modStore_pending (f : StoreSt → StoreSt) : (s.modStore f).pending = s.pending := rfl

/-! ### `State.modHist` -/

@[simp] theorem State.modHist_regs (h : Nat) (f : HistSt → HistSt) : (s.modHist h f).regs = s.regs := rfl
@[simp] theorem State.modHist_lows (h : Nat) (f : HistSt → HistSt) : (s.modHist h f).lows = s.lows := rfl
@[simp] theorem State.modHist_latches (h : Nat) (f : HistSt → HistSt) : (s.modHist h f).latches = s.latches := rfl
@[simp] theorem State.modHist_tide (h : Nat) (f : HistSt → HistSt) : (s.modHist h f).tide = s.tide := rfl
@[simp] theorem State.modHist_edge (h : Nat) (f : HistSt → HistSt) : (s.modHist h f).edge = s.edge := rfl
@[simp] theorem State.modHist_tod (h : Nat) (f : HistSt → HistSt) : (s.modHist h f).tod = s.tod := rfl
@[simp] theorem State.modHist_ust (h : Nat) (f : HistSt → HistSt) : (s.modHist h f).ust = s.ust := rfl
@[simp] theorem State.modHist_cmd (h : Nat) (f : HistSt → HistSt) : (s.modHist h f).cmd = s.cmd := rfl
@[simp] theorem State.modHist_yard (h : Nat) (f : HistSt → HistSt) : (s.modHist h f).yard = s.yard := rfl
@[simp] theorem State.modHist_mem (h : Nat) (f : HistSt → HistSt) : (s.modHist h f).mem = s.mem := rfl
@[simp] theorem State.modHist_dock (h : Nat) (f : HistSt → HistSt) : (s.modHist h f).dock = s.dock := rfl
@[simp] theorem State.modHist_brt (h : Nat) (f : HistSt → HistSt) : (s.modHist h f).brt = s.brt := rfl
@[simp] theorem State.modHist_acq (h : Nat) (f : HistSt → HistSt) : (s.modHist h f).acq = s.acq := rfl
@[simp] theorem State.modHist_maps (h : Nat) (f : HistSt → HistSt) : (s.modHist h f).maps = s.maps := rfl
@[simp] theorem State.modHist_fry (h : Nat) (f : HistSt → HistSt) : (s.modHist h f).fry = s.fry := rfl
@[simp] theorem State.modHist_lanes (h : Nat) (f : HistSt → HistSt) : (s.modHist h f).lanes = s.lanes := rfl
@[simp] theorem State.modHist_knob (h : Nat) (f : HistSt → HistSt) : (s.modHist h f).knob = s.knob := rfl
@[simp] theorem State.modHist_plt (h : Nat) (f : HistSt → HistSt) : (s.modHist h f).plt = s.plt := rfl
@[simp] theorem State.modHist_slc (h : Nat) (f : HistSt → HistSt) : (s.modHist h f).slc = s.slc := rfl
@[simp] theorem State.modHist_slip (h : Nat) (f : HistSt → HistSt) : (s.modHist h f).slip = s.slip := rfl
@[simp] theorem State.modHist_prt (h : Nat) (f : HistSt → HistSt) : (s.modHist h f).prt = s.prt := rfl
@[simp] theorem State.modHist_emc (h : Nat) (f : HistSt → HistSt) : (s.modHist h f).emc = s.emc := rfl
@[simp] theorem State.modHist_bell (h : Nat) (f : HistSt → HistSt) : (s.modHist h f).bell = s.bell := rfl
@[simp] theorem State.modHist_store (h : Nat) (f : HistSt → HistSt) : (s.modHist h f).store = s.store := rfl
@[simp] theorem State.modHist_clk (h : Nat) (f : HistSt → HistSt) : (s.modHist h f).clk = s.clk := rfl
@[simp] theorem State.modHist_pwr (h : Nat) (f : HistSt → HistSt) : (s.modHist h f).pwr = s.pwr := rfl
@[simp] theorem State.modHist_rdata (h : Nat) (f : HistSt → HistSt) : (s.modHist h f).rdata = s.rdata := rfl
@[simp] theorem State.modHist_free (h : Nat) (f : HistSt → HistSt) : (s.modHist h f).free = s.free := rfl
@[simp] theorem State.modHist_pending (h : Nat) (f : HistSt → HistSt) : (s.modHist h f).pending = s.pending := rfl

/-! ### `State.modMap` -/

@[simp] theorem State.modMap_regs (m : Nat) (f : MapSt → MapSt) : (s.modMap m f).regs = s.regs := rfl
@[simp] theorem State.modMap_lows (m : Nat) (f : MapSt → MapSt) : (s.modMap m f).lows = s.lows := rfl
@[simp] theorem State.modMap_latches (m : Nat) (f : MapSt → MapSt) : (s.modMap m f).latches = s.latches := rfl
@[simp] theorem State.modMap_tide (m : Nat) (f : MapSt → MapSt) : (s.modMap m f).tide = s.tide := rfl
@[simp] theorem State.modMap_edge (m : Nat) (f : MapSt → MapSt) : (s.modMap m f).edge = s.edge := rfl
@[simp] theorem State.modMap_tod (m : Nat) (f : MapSt → MapSt) : (s.modMap m f).tod = s.tod := rfl
@[simp] theorem State.modMap_ust (m : Nat) (f : MapSt → MapSt) : (s.modMap m f).ust = s.ust := rfl
@[simp] theorem State.modMap_cmd (m : Nat) (f : MapSt → MapSt) : (s.modMap m f).cmd = s.cmd := rfl
@[simp] theorem State.modMap_yard (m : Nat) (f : MapSt → MapSt) : (s.modMap m f).yard = s.yard := rfl
@[simp] theorem State.modMap_mem (m : Nat) (f : MapSt → MapSt) : (s.modMap m f).mem = s.mem := rfl
@[simp] theorem State.modMap_dock (m : Nat) (f : MapSt → MapSt) : (s.modMap m f).dock = s.dock := rfl
@[simp] theorem State.modMap_brt (m : Nat) (f : MapSt → MapSt) : (s.modMap m f).brt = s.brt := rfl
@[simp] theorem State.modMap_acq (m : Nat) (f : MapSt → MapSt) : (s.modMap m f).acq = s.acq := rfl
@[simp] theorem State.modMap_hists (m : Nat) (f : MapSt → MapSt) : (s.modMap m f).hists = s.hists := rfl
@[simp] theorem State.modMap_fry (m : Nat) (f : MapSt → MapSt) : (s.modMap m f).fry = s.fry := rfl
@[simp] theorem State.modMap_lanes (m : Nat) (f : MapSt → MapSt) : (s.modMap m f).lanes = s.lanes := rfl
@[simp] theorem State.modMap_knob (m : Nat) (f : MapSt → MapSt) : (s.modMap m f).knob = s.knob := rfl
@[simp] theorem State.modMap_plt (m : Nat) (f : MapSt → MapSt) : (s.modMap m f).plt = s.plt := rfl
@[simp] theorem State.modMap_slc (m : Nat) (f : MapSt → MapSt) : (s.modMap m f).slc = s.slc := rfl
@[simp] theorem State.modMap_slip (m : Nat) (f : MapSt → MapSt) : (s.modMap m f).slip = s.slip := rfl
@[simp] theorem State.modMap_prt (m : Nat) (f : MapSt → MapSt) : (s.modMap m f).prt = s.prt := rfl
@[simp] theorem State.modMap_emc (m : Nat) (f : MapSt → MapSt) : (s.modMap m f).emc = s.emc := rfl
@[simp] theorem State.modMap_bell (m : Nat) (f : MapSt → MapSt) : (s.modMap m f).bell = s.bell := rfl
@[simp] theorem State.modMap_store (m : Nat) (f : MapSt → MapSt) : (s.modMap m f).store = s.store := rfl
@[simp] theorem State.modMap_clk (m : Nat) (f : MapSt → MapSt) : (s.modMap m f).clk = s.clk := rfl
@[simp] theorem State.modMap_pwr (m : Nat) (f : MapSt → MapSt) : (s.modMap m f).pwr = s.pwr := rfl
@[simp] theorem State.modMap_rdata (m : Nat) (f : MapSt → MapSt) : (s.modMap m f).rdata = s.rdata := rfl
@[simp] theorem State.modMap_free (m : Nat) (f : MapSt → MapSt) : (s.modMap m f).free = s.free := rfl
@[simp] theorem State.modMap_pending (m : Nat) (f : MapSt → MapSt) : (s.modMap m f).pending = s.pending := rfl

/-! ### `State.setPort` -/

@[simp] theorem State.setPort_regs (p : Fin 3) (x : PortSt) : (s.setPort p x).regs = s.regs := by
  unfold State.setPort; split <;> rfl
@[simp] theorem State.setPort_lows (p : Fin 3) (x : PortSt) : (s.setPort p x).lows = s.lows := by
  unfold State.setPort; split <;> rfl
@[simp] theorem State.setPort_latches (p : Fin 3) (x : PortSt) : (s.setPort p x).latches = s.latches := by
  unfold State.setPort; split <;> rfl
@[simp] theorem State.setPort_tide (p : Fin 3) (x : PortSt) : (s.setPort p x).tide = s.tide := by
  unfold State.setPort; split <;> rfl
@[simp] theorem State.setPort_tod (p : Fin 3) (x : PortSt) : (s.setPort p x).tod = s.tod := by
  unfold State.setPort; split <;> rfl
@[simp] theorem State.setPort_ust (p : Fin 3) (x : PortSt) : (s.setPort p x).ust = s.ust := by
  unfold State.setPort; split <;> rfl
@[simp] theorem State.setPort_yard (p : Fin 3) (x : PortSt) : (s.setPort p x).yard = s.yard := by
  unfold State.setPort; split <;> rfl
@[simp] theorem State.setPort_mem (p : Fin 3) (x : PortSt) : (s.setPort p x).mem = s.mem := by
  unfold State.setPort; split <;> rfl
@[simp] theorem State.setPort_dock (p : Fin 3) (x : PortSt) : (s.setPort p x).dock = s.dock := by
  unfold State.setPort; split <;> rfl
@[simp] theorem State.setPort_brt (p : Fin 3) (x : PortSt) : (s.setPort p x).brt = s.brt := by
  unfold State.setPort; split <;> rfl
@[simp] theorem State.setPort_acq (p : Fin 3) (x : PortSt) : (s.setPort p x).acq = s.acq := by
  unfold State.setPort; split <;> rfl
@[simp] theorem State.setPort_hists (p : Fin 3) (x : PortSt) : (s.setPort p x).hists = s.hists := by
  unfold State.setPort; split <;> rfl
@[simp] theorem State.setPort_maps (p : Fin 3) (x : PortSt) : (s.setPort p x).maps = s.maps := by
  unfold State.setPort; split <;> rfl
@[simp] theorem State.setPort_fry (p : Fin 3) (x : PortSt) : (s.setPort p x).fry = s.fry := by
  unfold State.setPort; split <;> rfl
@[simp] theorem State.setPort_lanes (p : Fin 3) (x : PortSt) : (s.setPort p x).lanes = s.lanes := by
  unfold State.setPort; split <;> rfl
@[simp] theorem State.setPort_knob (p : Fin 3) (x : PortSt) : (s.setPort p x).knob = s.knob := by
  unfold State.setPort; split <;> rfl
@[simp] theorem State.setPort_plt (p : Fin 3) (x : PortSt) : (s.setPort p x).plt = s.plt := by
  unfold State.setPort; split <;> rfl
@[simp] theorem State.setPort_slc (p : Fin 3) (x : PortSt) : (s.setPort p x).slc = s.slc := by
  unfold State.setPort; split <;> rfl
@[simp] theorem State.setPort_slip (p : Fin 3) (x : PortSt) : (s.setPort p x).slip = s.slip := by
  unfold State.setPort; split <;> rfl
@[simp] theorem State.setPort_prt (p : Fin 3) (x : PortSt) : (s.setPort p x).prt = s.prt := by
  unfold State.setPort; split <;> rfl
@[simp] theorem State.setPort_emc (p : Fin 3) (x : PortSt) : (s.setPort p x).emc = s.emc := by
  unfold State.setPort; split <;> rfl
@[simp] theorem State.setPort_bell (p : Fin 3) (x : PortSt) : (s.setPort p x).bell = s.bell := by
  unfold State.setPort; split <;> rfl
@[simp] theorem State.setPort_store (p : Fin 3) (x : PortSt) : (s.setPort p x).store = s.store := by
  unfold State.setPort; split <;> rfl
@[simp] theorem State.setPort_clk (p : Fin 3) (x : PortSt) : (s.setPort p x).clk = s.clk := by
  unfold State.setPort; split <;> rfl
@[simp] theorem State.setPort_pwr (p : Fin 3) (x : PortSt) : (s.setPort p x).pwr = s.pwr := by
  unfold State.setPort; split <;> rfl
@[simp] theorem State.setPort_rdata (p : Fin 3) (x : PortSt) : (s.setPort p x).rdata = s.rdata := by
  unfold State.setPort; split <;> rfl
@[simp] theorem State.setPort_free (p : Fin 3) (x : PortSt) : (s.setPort p x).free = s.free := by
  unfold State.setPort; split <;> rfl
@[simp] theorem State.setPort_pending (p : Fin 3) (x : PortSt) : (s.setPort p x).pending = s.pending := by
  unfold State.setPort; split <;> rfl

end Sys2Proof.Machine
end

