-- ==== Sys2Proof/Laws/Store.lean ====
section
/-! SUPPORT. Sparse maps: a read after a write, and the canonical form that every write keeps. -/

namespace Sys2Proof.Machine

variable {α : Type}

theorem smGet_smPut (d : Nat → α) (k : Nat) (v : α) (m : SMap α) (j : Nat) :
    smGet d (smPut k v m) j = if j = k then v else smGet d m j := by
  induction m with
  | nil => simp [smPut, smGet, eq_comm]
  | cons e t ih =>
    obtain ⟨a, x⟩ := e
    simp only [smPut]
    split
    · simp [smGet, eq_comm]
    · split
      · subst k; simp only [smGet, eq_comm]; split <;> simp_all
      · simp only [smGet, ih]
        by_cases h : a = j <;> by_cases h' : j = k <;> simp_all <;> omega

theorem smGet_filter_ne (d : Nat → α) (k : Nat) (m : SMap α) (j : Nat) (h : j ≠ k) :
    smGet d (m.filter fun e => e.1 != k) j = smGet d m j := by
  induction m with
  | nil => rfl
  | cons e t ih =>
    obtain ⟨a, x⟩ := e
    by_cases ha : a = k
    · subst ha; simp [smGet, ih, Ne.symm h]
    · simp [ha, smGet, ih]

theorem smGet_filter_self (d : Nat → α) (k : Nat) (m : SMap α) :
    smGet d (m.filter fun e => e.1 != k) k = d k := by
  induction m with
  | nil => rfl
  | cons e t ih =>
    obtain ⟨a, x⟩ := e
    by_cases ha : a = k
    · subst ha; simpa using ih
    · simp [ha, smGet, ih]

/-- A read after a write. -/
theorem smGet_smSet [DecidableEq α] (d : Nat → α) (m : SMap α) (k : Nat) (v : α) (j : Nat) :
    smGet d (smSet d m k v) j = if j = k then v else smGet d m j := by
  unfold smSet
  split
  · rename_i hv
    by_cases hj : j = k
    · subst hj; simp [smGet_filter_self, hv]
    · simp [smGet_filter_ne _ _ _ _ hj, hj]
  · exact smGet_smPut d k v m j

theorem smAbove_filter (p : Nat × α → Bool) {lo : Nat} {m : SMap α} (h : smAbove lo m = true)
    (hs : ∀ a x t, m = (a, x) :: t → smAbove lo (t.filter p) = true) : smAbove lo (m.filter p) = true := by
  cases m with
  | nil => rfl
  | cons e t =>
    obtain ⟨a, x⟩ := e
    by_cases hp : p (a, x) = true
    · rw [List.filter_cons_of_pos hp]; simpa [smAbove] using h
    · rw [List.filter_cons_of_neg hp]; exact hs a x t rfl

/-- Every entry of a canonical map above `lo` lies above it. -/
theorem smAbove_trans {lo a : Nat} {t : SMap α} (h : lo < a) (ht : smAbove a t = true) : smAbove lo t = true := by
  cases t with
  | nil => rfl
  | cons e t => obtain ⟨b, y⟩ := e; simp [smAbove] at *; omega

theorem smWf_filter_above [DecidableEq α] (d : Nat → α) (p : Nat × α → Bool) (m : SMap α) (h : smWf d m = true) :
    smWf d (m.filter p) = true ∧ ∀ lo, smAbove lo m = true → smAbove lo (m.filter p) = true := by
  induction m with
  | nil => exact ⟨rfl, fun _ _ => rfl⟩
  | cons e t ih =>
    obtain ⟨a, x⟩ := e
    simp only [smWf, Bool.and_eq_true] at h
    obtain ⟨ih1, ih2⟩ := ih h.2
    by_cases hp : p (a, x) = true
    · rw [List.filter_cons_of_pos hp]
      exact ⟨by simp [smWf, ih1, ih2 a h.1.2, of_decide_eq_true h.1.1], fun lo hl => by simpa [smAbove] using hl⟩
    · rw [List.filter_cons_of_neg hp]
      exact ⟨ih1, fun lo hl => ih2 lo (smAbove_trans (by simpa [smAbove] using hl) h.1.2)⟩

/-- Leaving entries out keeps the canonical form. -/
theorem smWf_filter [DecidableEq α] (d : Nat → α) (p : Nat × α → Bool) {m : SMap α} (h : smWf d m = true) :
    smWf d (m.filter p) = true := (smWf_filter_above d p m h).1

theorem smAbove_smPut {lo k : Nat} {v : α} {m : SMap α} (hk : lo < k) (h : smAbove lo m = true) :
    smAbove lo (smPut k v m) = true := by
  cases m with
  | nil => simpa [smPut, smAbove] using hk
  | cons e t =>
    obtain ⟨a, x⟩ := e
    simp only [smPut]
    split
    · simpa [smAbove] using hk
    · split <;> simpa [smAbove] using (by first | exact hk | simpa [smAbove] using h)

theorem smWf_smPut [DecidableEq α] (d : Nat → α) {k : Nat} {v : α} (hv : v ≠ d k) {m : SMap α} (h : smWf d m = true) :
    smWf d (smPut k v m) = true := by
  induction m with
  | nil => simp [smPut, smWf, smAbove, hv]
  | cons e t ih =>
    obtain ⟨a, x⟩ := e
    have h' := h
    simp only [smWf, Bool.and_eq_true] at h
    simp only [smPut]
    split
    · rename_i hk
      rw [smWf, h']
      simp [hv, smAbove, hk]
    · split
      · rename_i hk; subst hk; simp [smWf, hv, h.1.2, h.2]
      · simp only [smWf, Bool.and_eq_true]
        exact ⟨⟨h.1.1, smAbove_smPut (by omega) h.1.2⟩, ih h.2⟩

/-- Every write keeps the canonical form. -/
theorem smWf_smSet [DecidableEq α] (d : Nat → α) {m : SMap α} (k : Nat) (v : α) (h : smWf d m = true) :
    smWf d (smSet d m k v) = true := by
  unfold smSet
  split
  · exact smWf_filter d _ h
  · rename_i hv; exact smWf_smPut d hv h

end Sys2Proof.Machine
end

