-- ==== Sys2Proof/Laws/Regs.lean ====
section
/-! SUPPORT. Reads of registers and fields after the named writes of them. -/

namespace Sys2Proof.Machine

/-! ### Bit fields -/

theorem bits_lt (x lo w : Nat) : bits x lo w < 2 ^ w := Nat.mod_lt _ (Nat.two_pow_pos w)

theorem bits_testBit (x lo w i : Nat) : (bits x lo w).testBit i = (decide (i < w) && x.testBit (lo + i)) := by
  simp [bits, Nat.testBit_mod_two_pow, Nat.testBit_div_two_pow, Nat.add_comm]

theorem bits_eq (x lo w : Nat) : x = x / 2 ^ (lo + w) * 2 ^ (lo + w) + bits x lo w * 2 ^ lo + x % 2 ^ lo := by
  unfold bits
  have h1 := Nat.div_add_mod x (2 ^ lo)
  have h2 := Nat.div_add_mod (x / 2 ^ lo) (2 ^ w)
  have h3 : x / 2 ^ lo / 2 ^ w = x / 2 ^ (lo + w) := by rw [Nat.div_div_eq_div_mul, ← Nat.pow_add]
  rw [h3] at h2
  calc x = 2 ^ lo * (x / 2 ^ lo) + x % 2 ^ lo := h1.symm
    _ = 2 ^ lo * (2 ^ w * (x / 2 ^ (lo + w)) + x / 2 ^ lo % 2 ^ w) + x % 2 ^ lo := by rw [h2]
    _ = _ := by rw [Nat.pow_add]; grind

theorem putBits_eq (x lo w v : Nat) :
    putBits x lo w v = x / 2 ^ (lo + w) * 2 ^ (lo + w) + v % 2 ^ w * 2 ^ lo + x % 2 ^ lo := by
  unfold putBits
  have h := bits_eq x lo w
  omega

theorem bits_of_parts (a b c lo w : Nat) (hb : b < 2 ^ w) (hc : c < 2 ^ lo) :
    bits (a * 2 ^ (lo + w) + b * 2 ^ lo + c) lo w = b := by
  unfold bits
  have : a * 2 ^ (lo + w) + b * 2 ^ lo + c = c + 2 ^ lo * (b + 2 ^ w * a) := by rw [Nat.pow_add]; grind
  rw [this, Nat.add_mul_div_left _ _ (Nat.two_pow_pos lo), Nat.div_eq_of_lt hc, Nat.zero_add,
    Nat.add_mul_mod_self_left, Nat.mod_eq_of_lt hb]

/-- A field read back. -/
theorem bits_putBits (x lo w v : Nat) : bits (putBits x lo w v) lo w = v % 2 ^ w := by
  rw [putBits_eq, bits_of_parts _ _ _ _ _ (Nat.mod_lt _ (Nat.two_pow_pos w)) (Nat.mod_lt _ (Nat.two_pow_pos lo))]

theorem putBits_testBit (x lo w v i : Nat) :
    (putBits x lo w v).testBit i = if lo ≤ i ∧ i < lo + w then v.testBit (i - lo) else x.testBit i := by
  rw [putBits_eq]
  have e1 : x / 2 ^ (lo + w) * 2 ^ (lo + w) + v % 2 ^ w * 2 ^ lo + x % 2 ^ lo =
      2 ^ lo * (2 ^ w * (x / 2 ^ (lo + w)) + v % 2 ^ w) + x % 2 ^ lo := by rw [Nat.pow_add]; grind
  rw [e1, Nat.testBit_two_pow_mul_add _ (Nat.mod_lt _ (Nat.two_pow_pos lo))]
  by_cases h : i < lo
  · rw [if_pos h, if_neg (by omega), Nat.testBit_mod_two_pow]; simp [h]
  · rw [if_neg h, Nat.testBit_two_pow_mul_add _ (Nat.mod_lt _ (Nat.two_pow_pos w))]
    by_cases h2 : i - lo < w
    · rw [if_pos h2, if_pos (by omega), Nat.testBit_mod_two_pow]; simp [h2]
    · rw [if_neg h2, if_neg (by omega), Nat.testBit_div_two_pow]; congr 1; omega

/-- A field apart from the one replaced. -/
theorem bits_putBits_apart (x lo w v lo' w' : Nat) (h : lo' + w' ≤ lo ∨ lo + w ≤ lo') :
    bits (putBits x lo w v) lo' w' = bits x lo' w' := by
  apply Nat.eq_of_testBit_eq
  intro i
  simp only [bits_testBit, putBits_testBit]
  by_cases hi : i < w'
  · simp only [hi, decide_true, Bool.true_and]; rw [if_neg (by omega)]
  · simp [hi]

theorem putBits_lt (x lo w v : Nat) (hx : x < 2 ^ 32) (h : lo + w ≤ 32) : putBits x lo w v < 2 ^ 32 := by
  apply Nat.lt_pow_two_of_testBit
  intro i hi
  rw [putBits_testBit, if_neg (by omega)]
  exact Nat.testBit_lt_two_pow (Nat.lt_of_lt_of_le hx (Nat.pow_le_pow_right (by omega) hi))

/-! ### Registers -/

theorem reg_setReg (s : State) (off : Nat) (w : Word) (o : Nat) :
    (s.setReg off w).reg o = if o = off then w else s.reg o := smGet_smSet _ _ _ _ _

theorem regN_lt (s : State) (off : Nat) : s.regN off < 2 ^ 32 := (s.reg off).isLt

theorem reg_setRegN (s : State) (off v : Nat) (o : Nat) :
    (s.setRegN off v).reg o = if o = off then BitVec.ofNat 32 v else s.reg o := reg_setReg s off _ o

theorem regN_setRegN (s : State) (off v : Nat) (o : Nat) :
    (s.setRegN off v).regN o = if o = off then v % 2 ^ 32 else s.regN o := by
  unfold State.regN; rw [reg_setRegN]; split <;> simp

theorem reg_setFld_ne (s : State) (off lo w v : Nat) {o : Nat} (h : o ≠ off) : (s.setFld off lo w v).reg o = s.reg o := by
  unfold State.setFld; rw [reg_setRegN, if_neg h]

theorem regN_setFld (s : State) (off lo w v : Nat) (h : lo + w ≤ 32) (o : Nat) :
    (s.setFld off lo w v).regN o = if o = off then putBits (s.regN off) lo w v else s.regN o := by
  unfold State.setFld; rw [regN_setRegN]; split
  · exact Nat.mod_eq_of_lt (putBits_lt _ _ _ _ (regN_lt s off) h)
  · rfl

/-- A field read back. -/
theorem fld_setFld (s : State) (off lo w v : Nat) (h : lo + w ≤ 32) : (s.setFld off lo w v).fld off lo w = v % 2 ^ w := by
  unfold State.fld; rw [regN_setFld s off lo w v h, if_pos rfl, bits_putBits]

/-- A field of another register, or apart from the one written. -/
theorem fld_setFld_apart (s : State) (off lo w v o lo' w' : Nat) (hw : lo + w ≤ 32)
    (h : o ≠ off ∨ lo' + w' ≤ lo ∨ lo + w ≤ lo') : (s.setFld off lo w v).fld o lo' w' = s.fld o lo' w' := by
  unfold State.fld; rw [regN_setFld s off lo w v hw]
  split
  · rename_i ho; subst ho
    exact bits_putBits_apart _ _ _ _ _ _ (h.resolve_left (fun h => h rfl))
  · rfl

theorem fld_setRegN_ne (s : State) (off v o lo w : Nat) (h : o ≠ off) : (s.setRegN off v).fld o lo w = s.fld o lo w := by
  unfold State.fld; rw [regN_setRegN, if_neg h]

theorem fld_setRegN (s : State) (off v lo w : Nat) : (s.setRegN off v).fld off lo w = bits (v % 2 ^ 32) lo w := by
  unfold State.fld; rw [regN_setRegN, if_pos rfl]

/-- A bit read back. -/
theorem bit_setBit (s : State) (off i : Nat) (b : Bool) (h : i < 32) : (s.setBit off i b).bit off i = b := by
  unfold State.bit State.setBit; rw [fld_setFld s off i 1 _ (by omega)]; cases b <;> rfl

theorem bit_setBit_apart (s : State) (off i : Nat) (b : Bool) (h : i < 32) (o j : Nat) (hj : o ≠ off ∨ j ≠ i) :
    (s.setBit off i b).bit o j = s.bit o j := by
  unfold State.bit State.setBit
  rw [fld_setFld_apart s off i 1 _ o j 1 (by omega) (by omega)]

theorem reg_setBit_ne (s : State) (off i : Nat) (b : Bool) {o : Nat} (h : o ≠ off) : (s.setBit off i b).reg o = s.reg o :=
  reg_setFld_ne s off i 1 _ h

/-- A count read back: it saturates at all ones. -/
theorem regN_count (s : State) (off n : Nat) (o : Nat) :
    (s.count off n).regN o = if o = off then satAdd 0xFFFFFFFF (s.regN off) n else s.regN o := by
  unfold State.count; rw [State.modEdge_regN, regN_setRegN]; split
  · apply Nat.mod_eq_of_lt; unfold satAdd; split <;> omega
  · rfl

theorem reg_count_ne (s : State) (off n : Nat) {o : Nat} (h : o ≠ off) : (s.count off n).reg o = s.reg o := by
  unfold State.count; rw [State.modEdge_reg, reg_setRegN, if_neg h]

/-- Reads of registers depend on the register map alone. -/
theorem reg_of_regs {s t : State} (h : s.regs = t.regs) (o : Nat) : s.reg o = t.reg o := by unfold State.reg; rw [h]

theorem regN_of_regs {s t : State} (h : s.regs = t.regs) (o : Nat) : s.regN o = t.regN o := by
  unfold State.regN; rw [reg_of_regs h]

theorem fld_of_regs {s t : State} (h : s.regs = t.regs) (o lo w : Nat) : s.fld o lo w = t.fld o lo w := by
  unfold State.fld; rw [regN_of_regs h]

theorem bit_of_regs {s t : State} (h : s.regs = t.regs) (o i : Nat) : s.bit o i = t.bit o i := by
  unfold State.bit; rw [fld_of_regs h]

end Sys2Proof.Machine
end

