-- ==== Sys2Proof/Laws/Rows.lean ====
section
/-! SUPPORT. What the shared operations of the rows answer: a row on RCLK, a line of one command or one query, a
configuration command, a PCIe access. -/

namespace Sys2Proof.Machine

/-- A row on RCLK. -/
theorem row_live {s : State} (h : s.live = true) (f : State → State) : s.row f = .next (f s).settle := by
  unfold State.row; rw [if_pos h]

/-- Without RCLK, or under an asserted reset, such a row does nothing. -/
theorem row_dead {s : State} (h : s.live = false) (f : State → State) : s.row f = .next s := by
  unfold State.row; rw [if_neg (by simp [h])]

/-- A line that a port takes. -/
theorem lineAt_takes {s : State} {p : Fin 3} (h : Takes s p) (f : State → State) : s.lineAt p f = f s := by
  unfold State.lineAt; rw [if_neg (by simp [h.2.1]), if_neg (by have := h.2.2; omega)]

/-- A line of one command whose check passes. -/
theorem cmdRow_ok {s t : State} {p : Fin 3} (h : Takes s p) {u : State → UnitR} (hu : u s = .ok t) :
    s.cmdRow p none u = .next (t.okLine p).settle := by
  unfold State.cmdRow; rw [row_live h.1]; unfold State.command; rw [lineAt_takes h]; simp only [hu]

/-- A line of one command that is refused. -/
theorem cmdRow_error {s : State} {p : Fin 3} (h : Takes s p) {u : State → UnitR} {e : Nat} (hu : u s = .error e) :
    s.cmdRow p none u = .next ((s.noteRefusal e).fail p (errCode e) (errArg e)).settle := by
  unfold State.cmdRow; rw [row_live h.1]; unfold State.command; rw [lineAt_takes h]; simp only [hu]

/-- A line with an argument out of range. -/
theorem cmdRow_bad {s : State} {p : Fin 3} (h : Takes s p) (u : State → UnitR) (k : Nat) :
    s.cmdRow p (some k) u = .next (s.fail p 105 k).settle := by
  unfold State.cmdRow; rw [row_live h.1]; unfold State.command; rw [lineAt_takes h]

/-- A line of one query. -/
theorem qryRow_ok {s : State} {p : Fin 3} (h : Takes s p) (q : State → Ans) :
    s.qryRow p none q = .next ((q s).2.answer p (.ok [(q s).1])).settle := by
  unfold State.qryRow; rw [row_live h.1]; unfold State.query; rw [lineAt_takes h]

/-- A configuration command that is allowed. -/
theorem cfg_ok {s : State} {d : Dom} {cs : List Chg} (hd : s.dom d ≠ 3) (ha : s.Allows cs) : s.cfg d cs = .ok (s.made cs) := by
  have hn : needC s d = .ok () := by unfold needC need; simp [hd]
  unfold State.Allows at ha
  unfold State.cfg; rw [hn]; unfold State.applyChgs
  simp only [bind, Except.bind, ha]

theorem applyChgs_ok {s : State} {cs : List Chg} (ha : s.Allows cs) : s.applyChgs cs = .ok (s.made cs) := by
  unfold State.Allows at ha; unfold State.applyChgs; simp only [bind, Except.bind, ha]

/-- A PCIe write and a PCIe read on RCLK. -/
theorem pcieW_live {s : State} (h : s.live = true) (off w : Nat) :
    s.pcieW off w = .next (s.pcieWrite off (BitVec.ofNat 32 w) 15).settle := row_live h _

theorem pcieR_live {s : State} (h : s.live = true) (off : Nat) : s.pcieR off = .next (s.pcieRead off).settle := row_live h _

end Sys2Proof.Machine
end

