-- ==== Sys2Proof/Laws/Config.lean ====
section
/-! SUPPORT. Configuration commands: where a change of a register does nothing beside its fields, and that the fields
hold their values afterwards. -/

namespace Sys2Proof.Machine

/-- The registers whose change does nothing beside the fields, whatever the fields. -/
def quietOff (off : Nat) : Bool :=
  if off < 0x8000 then
    off != CLK_LHA_FCW_HI && off != CLK_LHS_CFG && off != BRT_ROUTE && off != BRT_CAL_CTRL && off != PLT_TRIGOUT 0 &&
      off != PLT_TRIGOUT 1 && (ixOf off (PLT_CMP 0) 8 8).isNone && (ixOf off (PLT_DIG_CFG 0) 0x20 8).isNone
  else if off < 0x14100 then
    off != MAN_DIR_CFG && off != MAN_DIR_BASE && off != MAN_DIR_LEN && off != KNB_SETPOS &&
      (ixOf off (WHS_H_CTRL 0) 0x40 8).isNone && (ixOf off (WHS_M_CTRL 0) 0x40 2).isNone &&
      (ixOf off (DCK_CH_CFG 0) 0x100 2).isNone
  else if off < 0x14500 then
    let n := (off - 0x14100) / 0x80
    off != SLC_L_MODE n && off != SLC_L_SETP n && off != SLC_L_MANOUT n
  else if off < 0x20000 then
    (ixOf off (SLP_P_CFG 0) 0x20 8).isNone && (ixOf off (SLP_P_PWM 0) 0x20 8).isNone &&
      (ixOf off (SLP_P_VALUE 0) 0x20 8).isNone && (ixOf off (PRT_FAST 0) 4 8).isNone
  else
    off != CMD_UART_DIV && off != EMC_MEMBERS && off != EMC_CFG && off != EMC_CAL &&
      (ixOf off (CMD_PCFG 0) 0x40 3).isNone && (ixOf off (BEL_TGT 0) 0x10 4).isNone && (ixOf off (PMX_PIN 0) 4 32).isNone

theorem effect_quiet (s0 s : State) (c : Chg) (h : quietOff c.off = true) : s0.effect s c = s := by
  unfold quietOff at h
  unfold State.effect
  split
  · rename_i h1
    rw [if_pos h1] at h
    simp only [Bool.and_eq_true, bne_iff_ne, ne_eq, Option.isNone_iff_eq_none] at h
    obtain ⟨⟨⟨⟨⟨⟨⟨a, b⟩, c'⟩, d⟩, e⟩, f⟩, g⟩, k⟩ := h
    unfold State.effectLow
    simp only [a, b, c', d, e, f, g, k, or_self, ↓reduceIte]
  · rename_i h1
    rw [if_neg h1] at h
    split
    · rename_i h2
      rw [if_pos h2] at h
      simp only [Bool.and_eq_true, bne_iff_ne, ne_eq, Option.isNone_iff_eq_none] at h
      obtain ⟨⟨⟨⟨⟨⟨a, b⟩, c'⟩, d⟩, e⟩, f⟩, g⟩ := h
      unfold State.effectMid
      simp only [a, b, c', d, e, f, g, or_self, ↓reduceIte]
    · rename_i h2
      rw [if_neg h2] at h
      split
      · rename_i h3
        rw [if_pos h3] at h
        simp only [Bool.and_eq_true, bne_iff_ne, ne_eq] at h
        obtain ⟨⟨a, b⟩, c'⟩ := h
        unfold State.effectLoop
        simp only [a, b, c', ↓reduceIte]
      · rename_i h3
        rw [if_neg h3] at h
        split
        · rename_i h4
          rw [if_pos h4] at h
          simp only [Bool.and_eq_true, Option.isNone_iff_eq_none] at h
          obtain ⟨⟨⟨a, b⟩, c'⟩, d⟩ := h
          unfold State.effectSlip
          simp only [a, b, c', d]
        · rename_i h4
          rw [if_neg h4] at h
          simp only [Bool.and_eq_true, bne_iff_ne, ne_eq, Option.isNone_iff_eq_none] at h
          obtain ⟨⟨⟨⟨⟨⟨a, b⟩, c'⟩, d⟩, e⟩, f⟩, g⟩ := h
          unfold State.effectHigh
          simp [a, b, c', d, e, f, g]

/-- A change in the registers: its own register takes the masked bits, as written; no other register changes, but for
the low part of an FCW. -/
theorem regN_put (s : State) (c : Chg) (hc : c.off ≠ CLK_LHA_FCW_HI) (o : Nat) :
    (s.put c).regN o = if o = c.off then
      regCoerce c.off ((s.regN c.off &&& (0xFFFFFFFF ^^^ c.mask)) ||| (c.val &&& c.mask)) % 2 ^ 32 else s.regN o := by
  unfold State.put
  simp only [if_neg hc]
  split
  · rw [regN_of_regs (t := s.setRegN c.off _) (by rfl), regN_setRegN]
  · rw [regN_setRegN]

theorem regsOnly_put (s : State) (c : Chg) : s.RegsOnly (s.put c) := by
  unfold State.put State.RegsOnly
  dsimp only
  split
  · rfl
  · split <;> rfl

theorem RegsOnly.trans {s t u : State} (h1 : s.RegsOnly t) (h2 : t.RegsOnly u) : s.RegsOnly u := by
  unfold State.RegsOnly at *; rw [h1] at h2; rw [h2]

theorem regsOnly_putAll (cs : List Chg) : ∀ s : State, s.RegsOnly (s.putAll cs) := by
  induction cs with
  | nil => intro s; unfold State.RegsOnly State.putAll; rfl
  | cons c cs ih => intro s; exact RegsOnly.trans (regsOnly_put s c) (ih (s.put c))

/-- Registers that take a value as written: none of its fields is coerced. -/
def plainOff (off : Nat) : Bool :=
  !(0x6100 ≤ off && off < 0x6140 && off % 8 == 0) && off != PLT_EFIRE_CFG && off != PLT_TRIGOUT 0 && off != PLT_TRIGOUT 1 &&
    (ixOf off (PLT_DIG_SPAN 0) 0x20 8).isNone && (ixOf off (TLY_L_CFG 0) 0x100 4).isNone &&
    (ixOf off (SLC_L_CFG 0) 0x80 8).isNone && (ixOf off (BEL_TGT 0) 0x10 4).isNone && off != FRY_BAR2_BASE &&
    off != EMC_CFG && (ixOf off (YRD_ROUTE 0) 4 32).isNone

theorem regCoerce_plain {off : Nat} (h : plainOff off = true) (w : Nat) : regCoerce off w = w := by
  unfold plainOff at h
  simp only [Bool.and_eq_true, bne_iff_ne, ne_eq, Option.isNone_iff_eq_none, Bool.not_eq_true', Bool.and_eq_false_imp,
    decide_eq_true_eq, beq_eq_false_iff_ne] at h
  obtain ⟨⟨⟨⟨⟨⟨⟨⟨⟨⟨a, b⟩, c⟩, d⟩, e⟩, f⟩, g⟩, i⟩, j⟩, k⟩, l⟩ := h
  unfold regCoerce
  have a' : ¬(0x6100 ≤ off ∧ off < 0x6140 ∧ off % 8 = 0) := by
    rintro ⟨x, y, z⟩; exact a ⟨x, y⟩ z
  simp [a', b, c, d, e, f, g, i, j, k, l]

theorem masked_and (x m v : Nat) (hm : m < 2 ^ 32) :
    ((x &&& (0xFFFFFFFF ^^^ m)) ||| (v &&& m)) % 2 ^ 32 &&& m = v &&& m := by
  apply Nat.eq_of_testBit_eq
  intro i
  simp only [Nat.testBit_and, Nat.testBit_mod_two_pow, Nat.testBit_or, Nat.testBit_xor]
  rw [show (0xFFFFFFFF : Nat) = 2 ^ 32 - 1 from rfl, Nat.testBit_two_pow_sub_one]
  by_cases hi : i < 32
  · cases h : m.testBit i <;> simp [hi]
  · have : m.testBit i = false := Nat.testBit_lt_two_pow (Nat.lt_of_lt_of_le hm (Nat.pow_le_pow_right (by omega) (by omega)))
    simp [this]

theorem masked_apart (x m v k : Nat) (hx : x < 2 ^ 32) (hk : k &&& m = 0) :
    ((x &&& (0xFFFFFFFF ^^^ m)) ||| (v &&& m)) % 2 ^ 32 &&& k = x &&& k := by
  apply Nat.eq_of_testBit_eq
  intro i
  have hb : (k.testBit i && m.testBit i) = false := by rw [← Nat.testBit_and, hk]; simp
  simp only [Nat.testBit_and, Nat.testBit_mod_two_pow, Nat.testBit_or, Nat.testBit_xor]
  rw [show (0xFFFFFFFF : Nat) = 2 ^ 32 - 1 from rfl, Nat.testBit_two_pow_sub_one]
  by_cases hi : i < 32
  · cases h : k.testBit i <;> cases h' : m.testBit i <;> simp_all
  · have : x.testBit i = false := Nat.testBit_lt_two_pow (Nat.lt_of_lt_of_le hx (Nat.pow_le_pow_right (by omega) (by omega)))
    have h2 : ¬ i < 32 := hi
    simp [this, h2]

/-- A change put into a plain register stands. -/
theorem stands_put (s : State) (c : Chg) (hm : c.mask < 2 ^ 32) (hp : plainOff c.off = true) (hc : c.off ≠ CLK_LHA_FCW_HI) :
    c.Stands (s.put c) := by
  unfold Chg.Stands
  rw [regN_put s c hc, if_pos rfl, regCoerce_plain hp]
  exact masked_and _ _ _ hm

/-- A change that stands still stands after another change of a plain register with other bits. -/
theorem stands_put_apart (s : State) (x c : Chg) (hp : plainOff c.off = true) (hc : c.off ≠ CLK_LHA_FCW_HI)
    (hd : x.off = c.off → x.mask &&& c.mask = 0) (hs : x.Stands s) : x.Stands (s.put c) := by
  unfold Chg.Stands at *
  rw [regN_put s c hc]
  split
  · rename_i ho
    rw [regCoerce_plain hp, masked_apart _ _ _ _ (regN_lt s _) (hd ho), ← ho]; exact hs
  · exact hs

/-- The side conditions of `putAll_stands`, as one check: plain registers, masks of 32 bits, apart from one another. -/
def apartChgs : List Chg → Bool
  | [] => true
  | c :: t => plainOff c.off && c.off != CLK_LHA_FCW_HI && decide (c.mask < 2 ^ 32) &&
      (t.all fun x => c.off != x.off || (c.mask &&& x.mask) == 0) && apartChgs t

theorem putAll_stands_of (cs : List Chg) : ∀ (s : State) (x : Chg), apartChgs cs = true → x.Stands s →
    (cs.all fun c => x.off != c.off || (x.mask &&& c.mask) == 0) = true → x.Stands (s.putAll cs) := by
  induction cs with
  | nil => intro s x _ h _; exact h
  | cons c cs ih =>
    intro s x ha hs hd
    simp only [apartChgs, Bool.and_eq_true, bne_iff_ne, ne_eq, decide_eq_true_eq] at ha
    simp only [List.all_cons, Bool.and_eq_true, Bool.or_eq_true, bne_iff_ne, ne_eq, beq_iff_eq] at hd
    exact ih (s.put c) x ha.2 (stands_put_apart s x c ha.1.1.1.1 ha.1.1.1.2 (fun h => hd.1.resolve_left (fun k => k h)) hs) hd.2

/-- The fields of a change list of plain registers hold their values. -/
theorem putAll_stands (cs : List Chg) : ∀ (s : State), apartChgs cs = true → ∀ x ∈ cs, x.Stands (s.putAll cs) := by
  induction cs with
  | nil => intro s _ x hx; cases hx
  | cons c cs ih =>
    intro s ha x hx
    have ha' := ha
    simp only [apartChgs, Bool.and_eq_true, bne_iff_ne, ne_eq, decide_eq_true_eq] at ha'
    cases hx with
    | head => exact putAll_stands_of cs (s.put c) c ha'.2 (stands_put s c ha'.1.1.2 ha'.1.1.1.1 ha'.1.1.1.2) ha'.1.2
    | tail _ hx => exact ih (s.put c) ha'.2 x hx

/-- No other register changes. -/
theorem putAll_keeps (cs : List Chg) : ∀ s : State, (∀ c ∈ cs, c.off ≠ CLK_LHA_FCW_HI) →
    ∀ off, off ∉ cs.map Chg.off → (s.putAll cs).regN off = s.regN off := by
  induction cs with
  | nil => intro s _ off _; rfl
  | cons c cs ih =>
    intro s hc off ho
    simp only [List.map_cons, List.mem_cons, not_or] at ho
    have := ih (s.put c) (fun c hc' => hc c (List.mem_cons_of_mem _ hc')) off ho.2
    show ((s.put c).putAll cs).regN off = _
    rw [this, regN_put s c (hc c List.mem_cons_self), if_neg ho.1]

theorem foldl_effect_quiet (s : State) (cs ds : List Chg) (h : ∀ c ∈ ds, quietOff c.off = true) :
    ds.foldl (fun u c => s.effect u c) (s.putAll cs) = s.putAll cs := by
  induction ds with
  | nil => rfl
  | cons d ds ih =>
    simp only [List.foldl_cons]
    rw [effect_quiet s _ d (h d List.mem_cons_self)]
    exact ih fun c hc => h c (List.mem_cons_of_mem _ hc)

/-- Changes of quiet registers, made. -/
theorem made_quiet (s : State) (cs : List Chg) (h : ∀ c ∈ cs, quietOff c.off = true) :
    s.made cs = { s.putAll cs with ust := { (s.putAll cs).ust with touched := (s.putAll cs).ust.touched ++ cs.map Chg.off } } := by
  unfold State.made; rw [foldl_effect_quiet s cs cs h]

theorem reg_eq_of_regN {s t : State} {o p : Nat} (h : s.regN o = t.regN p) : s.reg o = t.reg p := BitVec.eq_of_toNat_eq h

/-! ### Lines of kind C -/

/-- A line that commits a list of changes is refused as R555 and the checks say. -/
theorem refuses_of {c : Fin 3 → Instr} {d : Dom} {cs : Fin 3 → List Chg}
    (hx : ∀ p s, exec (c p) s = s.cmdRow p (argsBad (c p)) (·.cfg d (cs p))) : Refuses c d cs := by
  intro p s ht ha
  have hg : ∀ e, s.cfg d (cs p) = .error e → Gives s (c p) ((s.noteRefusal e).fail p (errCode e) (errArg e)) := by
    intro e he; unfold Gives; rw [hx, ha, cmdRow_error ht he]
  refine ⟨fun hd => ?_, fun e hd he => ?_⟩
  · have := hg 202 (by unfold State.cfg needC need; rw [hd]; rfl)
    rwa [show s.noteRefusal 202 = s from rfl, show errCode 202 = 202 from rfl, show errArg 202 = 0 from rfl] at this
  · apply hg
    have hn : needC s d = .ok () := by unfold needC need; simp [hd]
    unfold State.cfg State.applyChgs; rw [hn]; simp only [bind, Except.bind, he]

/-- A line that commits a list of changes of quiet, plain registers. -/
theorem configuresOnly_quiet {c : Fin 3 → Instr} {d : Dom} {cs : List Chg}
    (hx : ∀ p s, exec (c p) s = s.cmdRow p (argsBad (c p)) (·.cfg d cs))
    (hq : ∀ p, argsBad (c p) = none → apartChgs cs = true ∧ (cs.all fun x => quietOff x.off) = true) :
    ConfiguresOnly c d cs [] := by
  refine ⟨refuses_of hx, fun p s ht ha hd hal => ?_⟩
  obtain ⟨h1, h2⟩ := hq p ha
  have h3 : ∀ x ∈ cs, quietOff x.off = true := fun x hx => List.all_eq_true.mp h2 x hx
  have h4 : ∀ x ∈ cs, x.off ≠ CLK_LHA_FCW_HI := by
    intro x hx h; have := h3 x hx; rw [h] at this; exact absurd this (by decide)
  have hg : Gives s (c p) ((s.made cs).okLine p) := by unfold Gives; rw [hx, ha, cmdRow_ok ht (cfg_ok hd hal)]
  refine ⟨s.made cs, hg, ?_⟩
  rw [made_quiet s cs h3]
  refine ⟨putAll_stands cs s h1, ?_, ?_⟩
  · intro off ho; rw [List.append_nil] at ho
    exact reg_eq_of_regN (putAll_keeps cs s h4 off ho)
  · have := regsOnly_putAll cs s
    unfold State.RegsOnly at *
    rw [this]

end Sys2Proof.Machine
end

