-- ==== Sys2Proof/Laws/Edge.lean ====
section
/-! SUPPORT. What the operations that bring RCLK edges do: cycles on which nothing is due pass at once, the others one edge at a
time; an edge's notes; lines turned away; the waits of fast trips. -/

namespace Sys2Proof.Machine

variable (s : State)

/-! ### Edges -/

@[simp] theorem State.advanceN_zero : State.advanceN 0 s = s := rfl

/-- Where nothing is due, all the cycles pass at once. -/
theorem State.advanceN_quiet {s : State} (h : s.quiet = true) (n : Nat) : State.advanceN (n + 1) s = s.pass (n + 1) := by
  unfold State.advanceN; rw [if_pos h]

/-- Where something is due, one edge comes. -/
theorem State.advanceN_busy {s : State} (h : s.quiet = false) (n : Nat) :
    State.advanceN (n + 1) s = State.advanceN n s.nextEdge := by
  rw [State.advanceN, if_neg (by simp [h])]

/-- Edges come only while RCLK runs and no reset is asserted. -/
theorem State.advance_live {s : State} (h : s.live = true) (n : Nat) : s.advance n = State.advanceN n s := by
  unfold State.live at h; rw [Bool.and_comm] at h; unfold State.advance; rw [if_pos h]

theorem State.advance_dead {s : State} (h : s.live = false) (n : Nat) : s.advance n = s := by
  unfold State.live at h; rw [Bool.and_comm] at h; unfold State.advance; rw [if_neg (by simp only [h]; simp)]

/-! ### The notes of an edge -/

/-- A flag set on this edge is noted, and no other one. -/
theorem EdgeSt.noteSet_other (e : EdgeSt) (off i o : Nat) (h : o ≠ off) :
    wordAt0 (e.noteSet off i).sets o = wordAt0 e.sets o := by
  simp [EdgeSt.noteSet, wordAt0, setWord0, smGet_smSet, h]

/-! ### Lines turned away -/

/-- A port with no line turned away keeps everything. -/
theorem State.dropTurned_none {s : State} {p : Fin 3} (h : (s.port p).turned = []) : s.dropTurned p = s := by
  simp [State.dropTurned, h]

theorem State.takeTurned_none {s : State} {p : Fin 3} (h : (s.port p).turned = []) : s.takeTurned p = s := by
  simp [State.takeTurned, h]

/-! ### Fast trips -/

@[simp] theorem State.fastCount_regs : s.fastCount.regs = s.regs := rfl
@[simp] theorem State.fastCount_yard : s.fastCount.yard = s.yard := rfl
@[simp] theorem State.fastCount_tide : s.fastCount.tide = s.tide := rfl
@[simp] theorem State.fastCount_mem : s.fastCount.mem = s.mem := rfl
@[simp] theorem State.fastCount_wait : s.fastCount.prt.wait = s.prt.wait.map fun y => (y.1 - 1, y.2) := rfl

/-! ### Pads -/

@[simp] theorem State.setPad_regs (n : Nat) (b : Bool) : (s.setPad n b).regs = s.regs := rfl
@[simp] theorem State.setPad_level (n : Nat) (b : Bool) : (s.setPad n b).yard.level = s.yard.level := rfl
@[simp] theorem State.setPad_park (n : Nat) (b : Bool) : (s.setPad n b).yard.park = s.yard.park := rfl

end Sys2Proof.Machine
end

