-- ==== Sys2Proof/Laws/Memory.lean ====
section
/-! SUPPORT. The quay memories: a read after a write, what a loss takes, and the canonical form that every memory
operation keeps. -/

namespace Sys2Proof.Machine

/-- A word read after a write. -/
theorem MemSt.word_write (m : MemSt) (a : Nat) (q : Quay) (b : Nat) :
    (m.write a q).word b = if b = a then .known q else m.word b := by
  simp [MemSt.word, MemSt.write, smGet_smSet]

/-- A read after a write of the same word. -/
@[simp] theorem MemSt.read_write_self (m : MemSt) (a : Nat) (q : Quay) : (m.write a q).read a = q := by
  simp [MemSt.read, MemSt.word_write]

/-- A read of another word. -/
theorem MemSt.read_write_ne (m : MemSt) {a b : Nat} (q : Quay) (h : b ≠ a) : (m.write a q).read b = m.read b := by
  simp [MemSt.read, MemSt.word_write, h]

theorem smGet_filter (d : Nat → MWord) (p : Nat × MWord → Bool) (m : SMap MWord) (j : Nat)
    (h : ∀ x, p (j, x) = true) : smGet d (m.filter p) j = smGet d m j := by
  induction m with
  | nil => rfl
  | cons e t ih =>
    obtain ⟨a, x⟩ := e
    by_cases ha : a = j
    · subst ha; simp [h, smGet]
    · by_cases hp : p (a, x) = true <;> simp [hp, smGet, ha, ih]

theorem smGet_filter_none (d : Nat → MWord) (p : Nat × MWord → Bool) (m : SMap MWord) (j : Nat)
    (h : ∀ x, p (j, x) = false) : smGet d (m.filter p) j = d j := by
  induction m with
  | nil => rfl
  | cons e t ih =>
    obtain ⟨a, x⟩ := e
    by_cases ha : a = j
    · subst ha; simp [h, ih]
    · by_cases hp : p (a, x) = true <;> simp [hp, smGet, ha, ih]

theorem smGet_congr {d d' : Nat → MWord} (m : SMap MWord) (j : Nat) (h : d j = d' j) : smGet d m j = smGet d' m j := by
  induction m with
  | nil => exact h
  | cons e t ih => obtain ⟨a, x⟩ := e; simp [smGet, ih]

/-- A loss takes the words of its range, and leaves every other word. -/
theorem MemSt.word_lose (m : MemSt) (lo hi g a : Nat) :
    (m.lose lo hi g).word a = if lo ≤ a ∧ a < hi then .lost g else m.word a := by
  simp only [MemSt.word, MemSt.lose]
  split
  · rename_i h
    rw [smGet_filter_none _ _ _ _ fun x => by simp; omega]
    simp [lostAt, h]
  · rename_i h
    rw [smGet_filter _ _ _ _ fun x => by simp; omega]
    exact smGet_congr _ _ (by simp [lostAt, h])

theorem smWf_congr {d d' : Nat → MWord} {m : SMap MWord} (h : ∀ e ∈ m, d e.1 = d' e.1) :
    smWf d m = smWf d' m := by
  induction m with
  | nil => rfl
  | cons e t ih =>
    obtain ⟨a, x⟩ := e
    have := h (a, x) (by simp)
    simp only [smWf, ih fun e he => h e (by simp [he])]
    simp_all

theorem MemSt.wf_write {m : MemSt} (a : Nat) (q : Quay) (h : m.wf = true) : (m.write a q).wf = true :=
  smWf_smSet _ _ _ h

theorem MemSt.wf_lose {m : MemSt} (lo hi g : Nat) (h : m.wf = true) : (m.lose lo hi g).wf = true := by
  refine (smWf_congr fun e he => ?_).trans (smWf_filter (lostAt m.lost) (fun x => x.1 < lo || hi ≤ x.1) h)
  have := (List.mem_filter.1 he).2
  simp only [Bool.or_eq_true, decide_eq_true_eq] at this
  simp only [MemSt.lose, lostAt]
  split
  · omega
  · rfl

@[simp] theorem MemSt.wf_loseAll (g : Nat) : (MemSt.loseAll g).wf = true := rfl

@[simp] theorem MemSt.wf_reset (g : Nat) : (MemSt.reset g).wf = true := rfl

/-- What holds of every object of a vector holds after one is replaced by one of which it holds. -/
theorem all_vset {α : Type} {n : Nat} (p : α → Bool) {v : Vector α (n + 1)} (i : Nat) {x : α}
    (h : v.toList.all p = true) (hx : p x = true) : (vset v i x).toList.all p = true := by
  rw [List.all_eq_true] at h ⊢
  intro y hy
  simp only [vset, Vector.toList_set] at hy
  rcases List.mem_or_eq_of_mem_set hy with hy | rfl
  · exact h y hy
  · exact hx

theorem all_vget {α : Type} {n : Nat} (p : α → Bool) {v : Vector α (n + 1)} (i : Nat)
    (h : v.toList.all p = true) : p (vget v i) = true := by
  rw [List.all_eq_true] at h
  exact h _ (by simp [vget])

theorem all_vmod {α : Type} {n : Nat} (p : α → Bool) {v : Vector α (n + 1)} (i : Nat) {f : α → α}
    (h : v.toList.all p = true) (hf : ∀ x, p x = true → p (f x) = true) : (vmod v i f).toList.all p = true :=
  all_vset p i h (hf _ (all_vget p i h))

/-- Every memory operation keeps every memory in canonical form. -/
theorem State.memWf_memWrite {s : State} (m a : Nat) (q : Quay) (h : s.mem.toList.all MemSt.wf = true) :
    (s.memWrite m a q).mem.toList.all MemSt.wf = true := all_vmod _ m h fun _ => MemSt.wf_write a q

theorem State.memWf_memWrites {s : State} (m a : Nat) (qs : List Quay) (h : s.mem.toList.all MemSt.wf = true) :
    (s.memWrites m a qs).mem.toList.all MemSt.wf = true := by
  induction qs generalizing s a with
  | nil => exact h
  | cons q t ih => exact ih (a + 1) (State.memWf_memWrite m a q h)

theorem State.memWf_memLose {s : State} (m lo hi : Nat) (h : s.mem.toList.all MemSt.wf = true) :
    (s.memLose m lo hi).mem.toList.all MemSt.wf = true := all_vmod _ m h fun _ => MemSt.wf_lose lo hi s.free

theorem State.memWf_memLoseAll {s : State} (m : Nat) (h : s.mem.toList.all MemSt.wf = true) :
    (s.memLoseAll m).mem.toList.all MemSt.wf = true := all_vset _ m h (MemSt.wf_loseAll s.free)

theorem State.memWf_reset : State.reset.mem.toList.all MemSt.wf = true := by decide

end Sys2Proof.Machine
end

