-- ==== Sys2Proof/Tests/Slice0.lean ====
section
/-! SUPPORT. Tests: ill-formed terms, a witness for the hypotheses of each statement, and worked examples of the spec. -/

namespace Sys2Proof.Tests

open Sys2Proof.Machine

/-! ### Ill-formed terms: the position of the argument that is out of its range -/

theorem test_illFormedSys : ∀ x ∈
    [(Instr.sysTide 0 801, 1), (.sysGuard 0 4294967296, 1), (.sysUart 0 12000001 none, 1), (.sysNotify 0 128, 1),
     (.timeSet 0 281474976710656 0, 1), (.timeSet 0 0 1000000000, 2), (.timeAdj 0 2147483648, 1),
     (.timePpslim 0 65536 none, 1), (.reg 0 262141 0, 1), (.reg 0 0 4294967296, 2), (.reg 0 2 0, 1),
     (.regQuery 0 262141, 1), (.regQuery 0 2, 1), (.clkAclk 0 87960930222081, 1), (.clkFcw 0 87960930222081, 1),
     (.clkBw 0 .lha 4, 2), (.clkLockwin 0 .lha 256, 2), (.clkPhlim 0 .lha 64, 2),
     (.clkSync 0 false none none (some 16) none, 4), (.pwrOff 0 .aon, 1)],
    checkArgs x.1 = some x.2 := by decide

theorem test_illFormedBerth : ∀ x ∈
    [(Instr.berthRoute 0 8 0, 1), (.berthRoute 0 0 256, 2), (.berthRouteQuery 0 8, 1), (.berthMap 0 4294967296, 1),
     (.berthTrim 0 8 0, 1), (.berthTrim 0 0 65536, 2), (.berthTrimQuery 0 8, 1), (.berthCalofs 0 8 (-32768), 1),
     (.berthCalofs 0 0 32768, 2), (.berthCalgain 0 8 (-32768), 1), (.berthCalgain 0 0 32768, 2),
     (.berthMonQuery 0 8, 1), (.berthSnapQuery 0 8, 1), (.berthMonchk 0 8 false, 1), (.berthMonstream 0 256, 1),
     (.berthOvrQuery 0 8, 1)],
    checkArgs x.1 = some x.2 := by decide

theorem test_illFormedPilot0 : ∀ x ∈
    [(Instr.pilotComp 0 8 0 none none, 1), (.pilotComp 0 0 4096 none none, 2), (.pilotComp 0 0 0 (some 256) none, 3),
     (.pilotCompQuery 0 8, 1), (.pilotDly 0 9 (-524287), 1), (.pilotDly 0 1 524288, 2), (.pilotDlyQuery 0 9, 1),
     (.pilotTrigin 0 2 0 none, 1), (.pilotTrigin 0 0 4096 none, 2),
     (.pilotDig 0 8 0 .level 0 (-32768) none none none, 1), (.pilotDig 0 0 8 .level 0 (-32768) none none none, 2),
     (.pilotDig 0 0 0 .level 3 (-32768) none none none, 4), (.pilotDig 0 0 0 .level 0 32768 none none none, 5),
     (.pilotDig 0 0 0 .level 0 (-32768) (some 32768) none none, 6),
     (.pilotDig 0 0 0 .level 0 (-32768) none (some 4096) none, 7), (.pilotWidth 0 8 0 0 none, 1),
     (.pilotWidth 0 0 4 0 none, 2), (.pilotWidth 0 0 0 4294967296 none, 3),
     (.pilotWidth 0 0 0 0 (some 4294967296), 4), (.pilotSpan 0 8 1, 1), (.pilotSpan 0 0 256, 2),
     (.pilotEng 0 8 false 0 none none, 1), (.pilotEng 0 0 false 26 none none, 3),
     (.pilotEng 0 0 true 0 (some 26) none, 4), (.pilotEng 0 0 false 0 none (some 4294967296), 5),
     (.pilotEngQuery 0 8, 1), (.pilotRef 0 8 0, 1), (.pilotRef 0 0 8, 2), (.pilotQual 0 8 none none, 1),
     (.pilotQual 0 0 (some 19) none, 2), (.pilotQual 0 0 (some 0) none, 2), (.pilotQual 0 0 none (some 2), 3),
     (.pilotHold 0 8 false 0, 1), (.pilotHold 0 0 true 4294967296, 3), (.pilotHold 0 0 false (2 ^ 40), 3),
     (.pilotOn 0 8, 1), (.pilotOff 0 8, 1), (.pilotEfire 0 true (some 19) none none, 2),
     (.pilotEfire 0 false none (some 8) none, 3), (.pilotEfire 0 false none none (some 256), 4)],
    checkArgs x.1 = some x.2 := by decide

theorem test_illFormedPilot1 : ∀ x ∈
    [(Instr.pilotTrigout 0 2 .accept none none, 1), (.pilotTrigout 0 0 .off (some 26) none, 3),
     (.pilotTrigout 0 0 .accept (some 8) none, 3), (.pilotTrigout 0 0 .raw (some 9) none, 3),
     (.pilotTrigout 0 0 .accept none (some 65536), 4), (.pilotLastQuery 0 8, 1), (.pilotCountQuery 0 8, 1),
     (.trig 0 (.list [0, 8]), 2), (.trig 0 (.list [0, 1, 2, 3, 4, 5, 6, 7, 0]), 9), (.trig 0 (.list []), 1)],
    checkArgs x.1 = some x.2 := by decide

theorem test_illFormedCapture : ∀ x ∈
    [(Instr.acqGroup 0 8 false 0, 1), (.acqGroup 0 0 false 256, 3), (.acqGroupQuery 0 8, 1),
     (.acqMem 0 8 .qbuf 0 0, 1), (.acqMem 0 0 .qbuf 4294967296 0, 3), (.acqMem 0 0 .qbuf 0 4294967296, 4),
     (.acqDisarm 0 8, 1), (.acqStatQuery 0 8, 1), (.acqDeadQuery 0 8, 1), (.arm 0 (.list [8]), 1),
     (.segLen 0 8 0 0, 1), (.segLen 0 0 1048577 0, 2), (.segLen 0 0 0 4294967293, 3), (.segLen 0 0 0 60, 3),
     (.segLen 0 0 0 65, 3), (.segOverlap 0 8 false, 1), (.segBuf 0 8 false 0, 1), (.segBuf 0 0 false 4294967296, 3),
     (.segDir 0 .qbuf 4294967296 1, 2), (.segDir 0 .qbuf 0 16777217, 3), (.streamSrc 0 8 false, 1),
     (.streamBlock 0 8 1 2, 1), (.streamBlock 0 0 15 2, 2), (.streamBlock 0 0 1 16, 3), (.streamStart 0 8, 1),
     (.streamStop 0 8, 1), (.streamGapQuery 0 8, 1), (.wmarkSet 0 8 .minmax 2, 1),
     (.wmarkSet 0 0 .minmax 16777217, 3), (.wmarkSetQuery 0 8, 1)],
    checkArgs x.1 = some x.2 := by decide

theorem test_illFormedWhouse : ∀ x ∈
    [(Instr.whouseHist 0 8 0 6 none, 1), (.whouseHist 0 0 12 6 none, 2), (.whouseHist 0 0 0 17 none, 3),
     (.whouseGate 0 8 false none, 1), (.whouseGate 0 0 false (some 8), 3), (.whouseTwin 0 8 0 0, 1),
     (.whouseTwin 0 0 281474976710656 0, 2), (.whouseTwin 0 0 0 48, 3), (.whouseFlusht 0 8 1, 1),
     (.whouseFlusht 0 0 1001, 2), (.whouseMem 0 (.hist 8) .qbuf 0, 1), (.whouseMem 0 (.hist 0) .qbuf 4294967296, 3),
     (.whouseMap 0 2 0 0 4 0 none, 1), (.whouseMap 0 0 8 0 4 0 none, 2), (.whouseMap 0 0 0 8 4 0 none, 3),
     (.whouseMap 0 0 0 0 4097 0 none, 4), (.whouseMap 0 0 0 0 4 8 none, 5), (.whouseMap 0 0 0 0 5 16 none, 4),
     (.whouseRate 0 2 1, 1), (.whouseRate 0 0 1000001, 2), (.whouseDecay 0 2 0, 1), (.whouseDecay 0 0 65536, 2),
     (.whouseStart 0 (.map 2) false, 1), (.whouseStop 0 (.map 2), 1), (.whouseFlush 0 8, 1),
     (.whouseStatQuery 0 (.hist 8), 1)],
    checkArgs x.1 = some x.2 := by decide

theorem test_illFormedDock : ∀ x ∈
    [(Instr.dockCfg 0 2 false false 1, 1), (.dockCfg 0 0 false false 3, 4), (.dockCfgNone 0 2, 1),
     (.dockCfgQuery 0 2, 1), (.dockTim 0 2 0 0 0 0 0 0 0 0 0 0, 1), (.dockTim 0 0 64 0 0 0 0 0 0 0 0 0, 2),
     (.dockTim 0 0 0 64 0 0 0 0 0 0 0 0, 3), (.dockTim 0 0 0 0 64 0 0 0 0 0 0 0, 4),
     (.dockTim 0 0 0 0 0 64 0 0 0 0 0 0, 5), (.dockTim 0 0 0 0 0 0 64 0 0 0 0 0, 6),
     (.dockTim 0 0 0 0 0 0 0 256 0 0 0 0, 7), (.dockTim 0 0 0 0 0 0 0 0 256 0 0 0, 8),
     (.dockTim 0 0 0 0 0 0 0 0 0 1024 0 0, 9), (.dockTim 0 0 0 0 0 0 0 0 0 0 16 0, 10),
     (.dockTim 0 0 0 0 0 0 0 0 0 0 0 16, 11), (.dockTrain 0 2, 1), (.dockFerry 0 2 0, 1), (.dockFerry 0 0 128, 2),
     (.dockCalQuery 0 2, 1), (.dockStatQuery 0 2, 1), (.dockErrQuery 0 2, 1)],
    checkArgs x.1 = some x.2 := by decide

theorem test_illFormedTally : ∀ x ∈
    [(Instr.tallyIn 0 4 0 none, 1), (.tallyIn 0 0 11 none, 2), (.tallyMode 0 4 .stamp none, 1),
     (.tallyMode 0 0 .stamp (some 4), 3), (.tallyMode 0 1 .diff (some 1), 3), (.tallyHold 0 4 0, 1),
     (.tallyHold 0 0 16777216, 2), (.tallyGate 0 4 1, 1), (.tallyGate 0 0 10000001, 2), (.tallyStill 0 4 1, 1),
     (.tallyStill 0 0 65536, 2), (.tallyDly 0 4 (-524287), 1), (.tallyDly 0 0 524288, 2),
     (.tallyEdgein 0 2 0 none, 1), (.tallyEdgein 0 0 4096 none, 2), (.tallyEdgein 0 0 0 (some 256), 3),
     (.tallyStats 0 4 none none, 1), (.tallyStats 0 0 (some 4294967297) none, 2), (.tallyStart 0 4, 1),
     (.tallyStop 0 4, 1), (.tallyResQuery 0 4, 1), (.tallyReadQuery 0 4, 1), (.tallyStatQuery 0 4, 1),
     (.tallyCal 0 (some 64), 1), (.knobCfg 0 1024 1 false, 1), (.knobCfg 0 0 65536 false, 2),
     (.knobPos 0 2147483648, 1), (.knobSvc 0 false (some 8) none, 2), (.knobSvc 0 true none (some 3), 3),
     (.knobLim 0 32768 (-32768), 1), (.knobLim 0 (-32768) 32768, 2), (.knobLim 0 1 0, 2), (.knobAcc 0 8 0 0, 1),
     (.knobAcc 0 0 65536 0, 2), (.knobAcc 0 0 0 32768, 3)],
    checkArgs x.1 = some x.2 := by decide

theorem test_illFormedSluice0 : ∀ x ∈
    [(Instr.sluiceMode 0 8 .off, 1), (.sluiceIn 0 8 0 false, 1), (.sluiceIn 0 0 8 false, 2),
     (.sluiceShare 0 8 false, 1), (.sluiceLaw 0 8 false none, 1), (.sluiceLaw 0 0 false (some 32768), 3),
     (.sluiceTiming 0 8 false 40, 1), (.sluiceTiming 0 0 false 791, 3), (.sluicePair 0 8 false, 1),
     (.sluicePair 0 1 true, 1), (.sluicePorts 0 8 0, 1), (.sluicePorts 0 0 256, 2), (.sluicePhsrc 0 8 0, 1),
     (.sluicePhsrc 0 0 6, 2), (.sluiceSwpreset 0 8 false, 1), (.sluiceSetp 0 8 (-32768), 1),
     (.sluiceSetp 0 0 32768, 2), (.sluiceManout 0 8 (-524288), 1), (.sluiceManout 0 0 524288, 2),
     (.sluiceSafe 0 8 (-524288), 1), (.sluiceSafe 0 0 524288, 2), (.sluiceOutlim 0 8 (-524288) (-524288), 1),
     (.sluiceOutlim 0 0 524288 (-524288), 2), (.sluiceOutlim 0 0 (-524288) 524288, 3),
     (.sluiceIlim 0 8 (-8388608) (-8388608), 1), (.sluiceIlim 0 0 8388608 (-8388608), 2),
     (.sluiceIlim 0 0 (-8388608) 8388608, 3), (.sluiceStages 0 8 0, 1), (.sluiceStages 0 0 7, 2),
     (.sluiceCoef 0 8 0 ⟨0, 0⟩ ⟨0, 0⟩ ⟨0, 0⟩ ⟨0, 0⟩ ⟨0, 0⟩, 1),
     (.sluiceCoef 0 0 6 ⟨0, 0⟩ ⟨0, 0⟩ ⟨0, 0⟩ ⟨0, 0⟩ ⟨0, 0⟩, 2),
     (.sluiceCoefraw 0 8 0 (-32) (-524288) (-524288) (-524288) (-524288) (-524288), 1),
     (.sluiceCoefraw 0 0 6 (-32) (-524288) (-524288) (-524288) (-524288) (-524288), 2),
     (.sluiceCoefraw 0 0 0 32 (-524288) (-524288) (-524288) (-524288) (-524288), 3),
     (.sluiceCoefraw 0 0 0 (-32) 524288 (-524288) (-524288) (-524288) (-524288), 4),
     (.sluiceCoefraw 0 0 0 (-32) (-524288) 524288 (-524288) (-524288) (-524288), 5),
     (.sluiceCoefraw 0 0 0 (-32) (-524288) (-524288) 524288 (-524288) (-524288), 6),
     (.sluiceCoefraw 0 0 0 (-32) (-524288) (-524288) (-524288) 524288 (-524288), 7),
     (.sluiceCoefraw 0 0 0 (-32) (-524288) (-524288) (-524288) (-524288) 524288, 8), (.sluiceKi 0 8 ⟨0, 0⟩, 1)],
    checkArgs x.1 = some x.2 := by decide

theorem test_illFormedSluice1 : ∀ x ∈
    [(Instr.sluiceDband 0 8 0 (-32768), 1), (.sluiceDband 0 0 64 (-32768), 2), (.sluiceDband 0 0 0 32768, 3),
     (.sluiceRipple 0 8 0 (-32768), 1), (.sluiceRipple 0 0 256 (-32768), 2), (.sluiceRipple 0 0 0 32768, 3),
     (.sluiceSwap 0 [8], 1), (.sluiceMoorafter 0 256, 1), (.sluiceStatQuery 0 8, 1), (.sluiceMissedQuery 0 8, 1),
     (.listEntry 0 4096 (-32768) 0, 1), (.listEntry 0 0 32768 0, 2), (.listEntry 0 0 (-32768) 65536, 3),
     (.listRange 0 8 0 0 none, 1), (.listRange 0 0 4096 0 none, 2), (.listRange 0 0 0 4096 none, 3),
     (.listRange 0 0 0 0 (some 65536), 4), (.listRange 0 0 2 1 none, 3), (.listRun 0 8, 1), (.listStop 0 8, 1),
     (.listStep 0 8, 1), (.listStatQuery 0 8, 1)],
    checkArgs x.1 = some x.2 := by decide

theorem test_illFormedSlip : ∀ x ∈
    [(Instr.slipMode 0 8 .off, 1), (.slipBus 0 256 false .none none, 1), (.slipBus 0 1 false .none (some 800), 4),
     (.slipFrame 0 8 8 8 0 0 none none, 1), (.slipFrame 0 0 25 8 0 0 none none, 2),
     (.slipFrame 0 0 8 21 0 0 none none, 3), (.slipFrame 0 0 8 8 1 0 none none, 4),
     (.slipFrame 0 0 8 8 0 16777216 none none, 5), (.slipPwm 0 8 16 0 0 none none, 1),
     (.slipPwm 0 0 4096 0 0 none none, 2), (.slipPwm 0 0 16 16 0 none none, 3), (.slipPwm 0 0 16 0 8 none none, 4),
     (.slipPwm 0 0 16 0 0 none (some (1024, 0)), 6), (.slipPwm 0 0 16 0 0 none (some (0, 1024)), 7),
     (.slipSafe 0 8 (-524288), 1), (.slipSafe 0 0 524288, 2), (.slipValue 0 8 (-524288), 1),
     (.slipValue 0 0 524288, 2), (.slipStatQuery 0 8, 1), (.protChan 0 8 0 0, 1), (.protChan 0 0 8 0, 2),
     (.protChan 0 0 0 8, 3), (.protLimit 0 8 .ov none, 1), (.protLimit 0 0 .op (some (-1)), 3),
     (.protLimit 0 0 .ov (some 32768), 3), (.protPersist 0 8 1, 1), (.protPersist 0 0 256, 2), (.protUvdly 0 8 0, 1),
     (.protUvdly 0 0 65536, 2), (.protOvrt 0 8 false, 1), (.protFast 0 8 0 false 0, 1),
     (.protFast 0 0 4096 false 0, 2), (.protFast 0 0 0 false 256, 4), (.protFastOff 0 8, 1), (.protTripout 0 2 0, 1),
     (.protTripout 0 0 256, 2), (.protMoor 0 [8], 1), (.protClear 0 (.list [8]), 1)],
    checkArgs x.1 = some x.2 := by decide

theorem test_illFormedBell : ∀ x ∈
    [(Instr.bellEn 0 48 false, 1), (.bellTarget 0 4 false none none, 1), (.bellTarget 0 0 false (some 65) none, 3),
     (.bellTarget 0 0 false none (some 65536), 4), (.bellTargetQuery 0 4, 1), (.bellVec 0 48 0, 1),
     (.bellVec 0 0 8, 2), (.bellClaimQuery 0 4, 1), (.bellComplete 0 4 0, 1), (.bellComplete 0 0 64, 2),
     (.ferryRing 0 8 .stream 4 none, 1), (.ferryRing 0 0 .stream 16 none, 3),
     (.ferryRing 0 0 .stream 4 (some 256), 4), (.ferryBase 0 8 0 0, 1), (.ferryBase 0 0 18446744073709551585 0, 2),
     (.ferryBase 0 0 0 18446744073709551585, 3), (.ferryBase 0 0 16 0, 2), (.ferryBase 0 0 0 16, 3),
     (.ferryMod 0 8 0 0, 1), (.ferryMod 0 0 256 0, 2), (.ferryMod 0 0 0 256, 3), (.ferryStart 0 8, 1),
     (.ferryStop 0 8, 1), (.ferryResume 0 (some 8), 1), (.ferryPost 0 8 1, 1), (.ferryPost 0 0 32769, 2),
     (.ferryStatQuery 0 8, 1), (.ferryBar2 0 .qbuf 4294967296, 2), (.ferryAbrec 0 18446744073709551585, 1),
     (.ferryAbrec 0 16, 1)],
    checkArgs x.1 = some x.2 := by decide

theorem test_illFormedEmica : ∀ x ∈
    [(Instr.emicaRole 0 .off (some 8), 2), (.emicaMembers 0 256, 1),
     (.emicaShare 0 8 false, 1), (.emicaGain 0 257 0, 1), (.emicaGain 0 0 32768, 2), (.emicaEarm 0 256, 1),
     (.emicaCal 0 2147483648, 1), (.emicaValQuery 0 8, 1), (.emicaAbsQuery 0 8, 1), (.storeSave 0 22, 1),
     (.storeRecall 0 22 false, 1), (.storeRecall 0 2 true, 2), (.storeVerify 0 (some 22), 1),
     (.storeRawQuery 0 65536, 1)],
    checkArgs x.1 = some x.2 := by decide

theorem test_illFormedPin : ∀ x ∈
    [(Instr.pinFunc 0 32 0 0 none, 1), (.pinFunc 0 4 3 0 none, 2), (.pinFunc 0 0 13 0 none, 2),
     (.pinFunc 0 0 1 1 none, 3), (.pinFunc 0 0 0 0 (some 4), 4), (.pinInv 0 32 false, 1), (.pinGpo 0 32 0, 1),
     (.pinGpo 0 0 2, 2), (.yardRoute 0 32 0 0 0 .rise, 1), (.yardRoute 0 0 28 0 0 .rise, 2),
     (.yardRoute 0 0 0 8 0 .rise, 3), (.yardRoute 0 0 0 0 65536 .rise, 4), (.yardRouteQuery 0 32, 1),
     (.yardOff 0 32, 1), (.yardPulse 0 8, 1), (.yardBell 0 8 0, 1), (.yardBell 0 0 80, 2),
     (.yardLogmask 0 31 true, 1), (.pinFuncQuery 0 32, 1), (.pinLevelQuery 0 32, 1), (.yardCoincQuery 0 8, 1),
     (.yardIgnQuery 0 8, 1)],
    checkArgs x.1 = some x.2 := by decide

theorem test_illFormedDecimals : ∀ x ∈
    [(Instr.sluiceCoef 0 0 0 ⟨1, 60⟩ ⟨0, 0⟩ ⟨0, 0⟩ ⟨0, 0⟩ ⟨0, 0⟩, 3), (.sluiceCoef 0 0 0 ⟨0, 0⟩ ⟨0, 0⟩ ⟨0, 0⟩ ⟨2, 0⟩ ⟨0, 0⟩, 6),
     (.sluiceCoef 0 0 0 ⟨0, 0⟩ ⟨0, 0⟩ ⟨0, 0⟩ ⟨0, 0⟩ ⟨2, 0⟩, 7), (.sluiceKi 0 0 ⟨1, 60⟩, 2)],
    argsBad x.1 = some x.2 := by decide +kernel

/-! ### Small states -/

/-- Every domain ON, both Lighthouses RUNNING, the Capstan locked, the channels running, calibration off, the PCIe link up. -/
def up : State :=
  ((((((State.reset.setRegN PWR_STATE 0x2AAAAAA).setRegN CLK_LHA_STAT 3).setRegN CLK_LHS_STAT 3).setRegN FRY_LINK
    (2 ^ 10)).setRegN CLK_CAP_STAT 3).setRegN BRT_CAL_CTRL 0).setRegN BRT_CHAN_STAT 0xFF00

/-- The checks of a list of changes pass, or the code they fail with. -/
def allows (s : State) (cs : List Chg) : Bool := (s.checkAll (s.putAll cs) cs).isOk
def errOf (s : State) (cs : List Chg) : Nat :=
  match s.checkAll (s.putAll cs) cs with
  | .ok _ => 0
  | .error e => errCode e

/-- What `allows` says. -/
theorem allows_iff (s : State) (cs : List Chg) : allows s cs = true ↔ s.Allows cs := by
  unfold allows State.Allows
  cases s.checkAll (s.putAll cs) cs with
  | ok _ => simp [Except.isOk, Except.toBool]
  | error _ => simp [Except.isOk, Except.toBool]

/-- The mailbox's queue is full. -/
def full : State := up.setPort 2 { up.port 2 with queue := List.replicate 16 ⟨none, .answered (.ok []), true⟩ }

/-- A port takes a line in `up`, a domain may be DRAINING or OFF, and RCLK may not run. -/
theorem test_upTakes : (∀ p : Fin 3, Takes up p) ∧ HostUp up ∧
    (∀ d ∈ [Dom.ctrl, .tally, .dock, .acq, .host, .emica, .lha, .lhs], up.dom d = 2) ∧
    (∀ d ∈ [Dom.ctrl, .tally, .dock, .acq, .host, .emica, .lha, .lhs], Takes (up.setDom d 3) 0 ∧ (up.setDom d 3).dom d = 3 ∧
      Takes (up.setDom d 0) 0 ∧ (up.setDom d 0).dom d = 0 ∧ (up.setDom d 1).dom d = 1) := by decide

/-! ### Witnesses: a state and operands that meet the hypotheses of each statement -/

theorem test_wit_SysClkPwrLinesSetTheirFields : ∀ x ∈
    [(Instr.sysEcho 0 true, Dom.aon, [chg (CMD_PCFG 0) 0 1 1]),
     (.sysNotify 0 127, .aon, [chg (CMD_PCFG 0) 8 7 127]), (.clkBw 0 .lhs 3, .lhs, [chg (synthCfg .lhs) 0 2 3]),
     (.clkLockwin 0 .lha 255, .lha, [chg (synthCfg .lha) 8 8 255]), (.clkPhlim 0 .lha 63, .lha, [chg (synthCfg .lha) 16 6 63]),
     (.clkAutores 0 .lha true, .lha, [chg (synthCfg .lha) 24 1 1]),
     (.clkSync 0 true (some false) none (some 7) none, .aon,
       [chg CLK_SYNC_CTRL 0 1 1, chg CLK_SYNC_CTRL 1 1 0, chg CLK_SYNC_CTRL 4 4 7]),
     (.pwrPerst 0 true, .aon, [chg PWR_RST_CFG 0 1 1])],
    argsBad x.1 = none ∧ up.dom x.2.1 ≠ 3 ∧ allows up x.2.2 = true := by decide

/-- Two that need a domain OFF. -/
theorem test_wit_SysTideClkDdr : Takes (up.setDom .emica 0) 0 ∧ argsBad (.sysTide 0 800) = none ∧
    allows (up.setDom .emica 0) [chg SYS_TIDE_LEN 0 10 800] = true ∧ argsBad (.clkDdr 0 .d1600) = none ∧
    (up.setDom .lhs 0).dom .lhs ≠ 3 ∧ allows (up.setDom .lhs 0) [chg CLK_LHS_CFG 28 2 2] = true := by decide

/-- A tide too short for OUT_PHASE is refused. -/
theorem test_wit_Refuses : argsBad (.sysTide 0 50) = none ∧ errOf up [chg SYS_TIDE_LEN 0 10 50] = 203 := by decide

theorem test_wit_BerthPilotLinesSetTheirFields : ∀ x ∈
    [(Instr.berthCal 0 true .all, Dom.aon, [chg BRT_CAL_CTRL 0 3 7]), (.berthTrim 0 7 65535, .berth67, [chg (BRT_TRIM 7) 0 16 65535]),
     (.berthCalofs 0 7 (-32768), .berth67, [chgI (BRT_OFS 7) 0 16 (-32768)]),
     (.berthCalgain 0 7 32767, .berth67, [chgI (BRT_GAIN 7) 0 16 32767]), (.berthMonchk 0 7 true, .aon, [chg BRT_MON_CFG 7 1 1]),
     (.berthMonstream 0 255, .aon, [chg BRT_MON_CFG 8 8 255]),
     (.pilotComp 0 7 4095 (some 255) (some .both), .ctrl, [chg (PLT_CMP 7) 0 12 4095, chg (PLT_CMP 7) 12 8 255, chg (PLT_CMP 7) 20 2 2]),
     (.pilotDly 0 18 (-524287), .aon, [chgI (dlyReg 18) 0 20 (-524287)]), (.pilotTrigin 0 1 4095 none, .aon, [chg (PLT_TRIGIN 1) 0 12 4095]),
     (.pilotDig 0 7 7 .runt 1 (-100) (some 100) (some 5) (some true), .acq,
       [chg (PLT_DIG_CFG 7) 0 3 7, chg (PLT_DIG_CFG 7) 4 3 (digCode .runt), chg (PLT_DIG_CFG 7) 8 2 1, chgI (PLT_DIG_TH 7) 0 16 (-100),
        chgI (PLT_DIG_TH 7) 16 16 100, chg (PLT_DIG_CFG 7) 16 12 5, chg (PLT_DIG_CFG 7) 15 1 1]),
     (.pilotWidth 0 7 2 10 (some 20), .acq, [chg (PLT_DIG_CFG 7) 12 2 2, chg (PLT_DIG_W1 7) 0 32 10, chg (PLT_DIG_W2 7) 0 32 20]),
     (.pilotSpan 0 7 255, .acq, [chg (PLT_DIG_SPAN 7) 0 8 255]),
     (.pilotEng 0 7 true 1 (some 25) (some 1), .acq,
       [chg (PLT_ENG_CFG 7) 1 1 1, chg (PLT_ENG_CFG 7) 8 7 1, chg (PLT_ENG_CFG 7) 16 7 25, chg (PLT_ENG_WIN 7) 0 32 1]),
     (.pilotRef 0 7 7, .acq, [chg (PLT_ENG_CFG 7) 24 3 7]),
     (.pilotQual 0 7 (some 18) (some 1), .acq, [chg (PLT_ENG_QUAL 7) 8 1 1, chg (PLT_ENG_QUAL 7) 0 7 18, chg (PLT_ENG_QUAL 7) 7 1 1]),
     (.pilotHold 0 7 false (2 ^ 40 - 1), .acq, [⟨PLT_ENG_HOLD_HI 7, 0x800000FF, 255, 0xFFFFFFFF⟩]),
     (.pilotOn 0 7, .acq, [chg (PLT_ENG_CFG 7) 0 1 1]), (.pilotOff 0 7, .acq, [chg (PLT_ENG_CFG 7) 0 1 0]),
     (.pilotEfire 0 true (some 1) (some 7) (some 255), .aon,
       [chg PLT_EFIRE_CFG 7 1 1, chg PLT_EFIRE_CFG 0 7 1, chg PLT_EFIRE_CFG 8 3 7, chg PLT_EFIRE_CFG 16 8 255]),
     (.pilotTrigout 0 1 .raw (some 17) (some 1), .aon,
       [chg (PLT_TRIGOUT 1) 0 2 (trigoutCode .raw), chg (PLT_TRIGOUT 1) 2 7 17, chg (PLT_TRIGOUT 1) 16 16 1])],
    argsBad x.1 = none ∧ up.dom x.2.1 ≠ 3 ∧ allows up x.2.2 = true := by decide

theorem test_wit_CaptureLinesSetTheirFields : ∀ x ∈
    [(Instr.acqGroup 0 7 true 255, Dom.acq, [chg (ACQ_G_CFG 7) 0 1 1, chg (ACQ_G_CFG 7) 8 8 255]),
     (.acqMem 0 7 .qbuf 16384 64, .acq, [chg (ACQ_G_CFG 7) 4 2 2, chg (ACQ_G_BASE 7) 0 32 16384, chg (ACQ_G_SIZE 7) 0 32 64]),
     (.segLen 0 7 1048576 64, .acq, [chg (ACQ_G_PRE 7) 0 21 1048576, chg (ACQ_G_POST 7) 0 32 64]),
     (.segOverlap 0 7 true, .acq, [chg (ACQ_G_CFG 7) 1 1 1]), (.segBuf 0 7 true 9, .acq, [chg (ACQ_G_CFG 7) 2 1 1, chg (ACQ_G_COUNT 7) 0 32 9]),
     (.segDir 0 .qbuf 0 16, .acq, [chg MAN_DIR_CFG 0 2 2, chg MAN_DIR_BASE 0 32 0, chg MAN_DIR_LEN 0 25 16]),
     (.streamSrc 0 7 true, .acq, [chg (ACQ_G_CFG 7) 3 1 1]),
     (.streamBlock 0 7 14 15, .acq, [chg (ACQ_G_CFG 7) 16 4 14, chg (ACQ_G_CFG 7) 20 4 15]),
     (.wmarkSet 0 7 .pick 16777216, .acq, [chg (WMK_G_CFG 7) 0 2 2, chg (WMK_G_D 7) 0 25 16777216]),
     (.whouseHist 0 7 11 16 (some true), .acq, [chg (WHS_H_CFG 7) 0 4 11, chg (WHS_H_CFG 7) 4 5 16, chg (WHS_H_CFG 7) 9 1 1]),
     (.whouseGate 0 7 true (some 7), .acq, [chg (WHS_H_CFG 7) 10 1 1, chg (WHS_H_CFG 7) 11 3 7]),
     (.whouseTwin 0 7 (2 ^ 48 - 1) 47, .acq, [⟨WHS_H_OFS_HI 7, 0x3FFFFF, 0xFFFF + 47 * 2 ^ 16, 0xFFFFFFFF⟩]),
     (.whouseFlusht 0 7 1000, .acq, [chg (WHS_H_CFG 7) 16 10 1000]),
     (.whouseMem 0 (.map 1) .qbuf 8, .acq, [chg (WHS_M_CFG 1) 8 2 2, chg (WHS_M_BASE 1) 0 32 8]),
     (.whouseMap 0 1 7 7 4096 1024 none, .acq,
       [chg (WHS_M_CFG 1) 0 3 7, chg (WHS_M_CFG 1) 4 3 7, chg (WHS_M_SIZE 1) 0 13 4096, chg (WHS_M_SIZE 1) 16 4 10]),
     (.whouseRate 0 1 1000000, .acq, [chg (WHS_M_RATE 1) 0 20 1000000]), (.whouseDecay 0 1 65535, .acq, [chg (WHS_M_DECAY 1) 0 16 65535]),
     (.dockCfg 0 1 true true 2, .dock, [chg (DCK_CH_CFG 1) 0 4 15]), (.dockCfgNone 0 1, .dock, [chg (DCK_CH_CFG 1) 0 1 0]),
     (.dockTim 0 1 24 16 24 24 24 76 34 560 8 8, .dock,
       [chg (DCK_CH_TIM0 1) 0 6 24, chg (DCK_CH_TIM0 1) 8 6 16, chg (DCK_CH_TIM0 1) 16 6 24, chg (DCK_CH_TIM0 1) 24 6 24,
        chg (DCK_CH_TIM1 1) 0 6 24, chg (DCK_CH_TIM1 1) 8 8 76, chg (DCK_CH_TIM1 1) 16 8 34, chg (DCK_CH_TIM2 1) 0 10 560,
        chg (DCK_CH_TIM2 1) 16 4 8, chg (DCK_CH_TIM2 1) 24 4 8]),
     (.dockFerry 0 1 0, .dock, [chg (DCK_CH_FERRY 1) 0 7 0])],
    argsBad x.1 = none ∧ up.dom x.2.1 ≠ 3 ∧ allows up x.2.2 = true := by decide

theorem test_wit_TallySluiceLinesSetTheirFields : ∀ x ∈
    [(Instr.tallyIn 0 3 10 (some .fall), Dom.tally, [chg (TLY_L_CFG 3) 4 4 10, chg (TLY_L_CFG 3) 8 2 1]),
     (.tallyMode 0 3 .diff (some 0), .tally, [chg (TLY_L_CFG 3) 0 3 (tlyCode .diff), chg (TLY_L_CFG 3) 12 2 0]),
     (.tallyHold 0 3 16777215, .tally, [chg (TLY_L_HOLD 3) 0 24 16777215]), (.tallyGate 0 3 10000000, .tally, [chg (TLY_L_GATE 3) 0 24 10000000]),
     (.tallyStill 0 3 65535, .tally, [chg (TLY_L_STILL 3) 0 16 65535]), (.tallyDly 0 3 (-524287), .tally, [chgI (TLY_L_DLY 3) 0 20 (-524287)]),
     (.tallyEdgein 0 1 4095 (some 255), .tally, [chg (TLY_EDGEIN 1) 0 12 4095, chg (TLY_EDGEIN 1) 12 8 255]),
     (.tallyStats 0 3 (some 4294967296) (some true), .tally, [chg (TLY_L_CFG 3) 17 1 1, chg (TLY_L_N 3) 0 32 4294967296, chg (TLY_L_CFG 3) 16 1 1]),
     (.knobCfg 0 1023 65535 true, .tally, [chg KNB_CFG 0 10 1023, chg KNB_CFG 10 16 65535, chg KNB_CFG 31 1 1]),
     (.knobPos 0 (-2147483648), .tally, [chgI KNB_SETPOS 0 32 (-2147483648)]),
     (.knobSvc 0 true (some 7) (some 4), .tally, [chg KNB_SVC 0 1 1, chg KNB_SVC 4 3 7, chg KNB_SVC 8 2 (detentCode 4)]),
     (.knobLim 0 (-32768) 32767, .tally, [chgI KNB_LIM 0 16 (-32768), chgI KNB_LIM 16 16 32767]),
     (.knobAcc 0 7 65535 32767, .tally, [chg (KNB_ACC 7) 0 16 65535, chg (KNB_ACC 7) 16 16 32767]),
     (.sluiceIn 0 7 7 true, .ctrl, [chg (SLC_L_CFG 7) 4 3 7, chg (SLC_L_CFG 7) 2 1 1]), (.sluiceShare 0 7 true, .ctrl, [chg (SLC_L_CFG 7) 9 1 1]),
     (.sluiceLaw 0 7 true (some 32767), .ctrl, [chg (SLC_L_CFG 7) 0 1 1, chg (SLC_L_BAND 7) 0 15 32767]),
     (.sluicePair 0 6 true, .ctrl, [chg (SLC_L_CFG 6) 8 1 1]), (.sluicePorts 0 7 255, .ctrl, [chg (SLC_L_PORTS 7) 0 8 255]),
     (.sluicePhsrc 0 7 5, .ctrl, [chg (SLC_L_CFG 7) 12 3 5]), (.sluiceSwpreset 0 7 true, .ctrl, [chg (SLC_L_CFG 7) 10 1 1]),
     (.sluiceSetp 0 7 (-32768), .ctrl, [chgI (SLC_L_SETP 7) 0 16 (-32768)]), (.sluiceManout 0 7 (-524288), .ctrl, [chgI (SLC_L_MANOUT 7) 0 20 (-524288)]),
     (.sluiceSafe 0 7 524287, .ctrl, [chgI (SLC_L_SAFE 7) 0 20 524287]),
     (.sluiceOutlim 0 7 (-524288) 524287, .ctrl, [chgI (SLC_L_OUTMIN 7) 0 20 (-524288), chgI (SLC_L_OUTMAX 7) 0 20 524287]),
     (.sluiceIlim 0 7 (-8388608) 8388607, .ctrl, [chgI (SLC_L_ILO 7) 0 24 (-8388608), chgI (SLC_L_IHI 7) 0 24 8388607]),
     (.sluiceMoorafter 0 255, .ctrl, [chg SLC_MOOR_AFTER 0 8 255]),
     (.listEntry 0 4095 (-32768) 65535, .ctrl, [chgI (SLC_LIST 4095) 0 16 (-32768), chg (SLC_LIST 4095) 16 16 65535]),
     (.listRange 0 7 0 4095 (some 65535), .ctrl, [chg (SLC_L_LIST 7) 0 12 0, chg (SLC_L_LIST 7) 16 12 4095, chg (SLC_L_REPEAT 7) 0 16 65535])],
    argsBad x.1 = none ∧ up.dom x.2.1 ≠ 3 ∧ allows up x.2.2 = true := by decide

theorem test_wit_OutputHostLinesSetTheirFields : ∀ x ∈
    [(Instr.slipMode 0 7 .hrpwm, Dom.ctrl, [chg (SLP_P_CFG 7) 0 2 (portCode .hrpwm)]),
     (.slipBus 0 255 true .cycle (some 89), .ctrl, [chg SLP_CFG 0 8 255, chg SLP_CFG 8 1 1, chg SLP_CFG 9 2 (ldacCode .cycle), chg SLP_CFG 16 10 89]),
     (.slipFrame 0 7 24 20 4 0xFFFFFF (some true) none, .ctrl,
       [chg (SLP_P_FMT 7) 0 24 0xFFFFFF, chg (SLP_P_CFG 7) 8 5 24, chg (SLP_P_CFG 7) 16 5 20, chg (SLP_P_CFG 7) 21 5 4, chg (SLP_P_CFG 7) 26 1 1]),
     (.slipPwm 0 7 4095 4094 7 none none, .ctrl, [chg (SLP_P_PWM 7) 0 12 4095, chg (SLP_P_PWM 7) 16 12 4094, chg (SLP_P_PWM2 7) 4 3 7]),
     (.slipSafe 0 7 (-524288), .ctrl, [chgI (SLP_P_SAFE 7) 0 20 (-524288)]), (.slipValue 0 7 524287, .ctrl, [chgI (SLP_P_VALUE 7) 0 20 524287]),
     (.protChan 0 7 7 0, .ctrl, [chg (PRT_L_CFG 7) 0 3 7, chg (PRT_L_CFG 7) 4 3 0]),
     (.protLimit 0 7 .op (some 2147483647), .ctrl, [limitChg 7 2147483647 .op, chg (PRT_L_CFG 7) (limitBit .op) 1 1]),
     (.protLimit 0 7 .ov none, .ctrl, [chg (PRT_L_CFG 7) (limitBit .ov) 1 0]), (.protPersist 0 7 255, .ctrl, [chg (PRT_L_CFG 7) 16 8 255]),
     (.protUvdly 0 7 65535, .ctrl, [chg (PRT_L_UVDLY 7) 0 16 65535]), (.protOvrt 0 7 true, .ctrl, [chg (PRT_L_CFG 7) 13 1 1]),
     (.protFastOff 0 7, .ctrl, [chg (PRT_FAST 7) 16 8 0]), (.protTripout 0 1 255, .ctrl, [chg (PRT_TRIPOUT 1) 0 8 255])],
    argsBad x.1 = none ∧ up.dom x.2.1 ≠ 3 ∧ allows up x.2.2 = true := by decide

theorem test_wit_OutputHostLinesSetTheirFields2 : ∀ x ∈
    [(Instr.ferryRing 0 7 .write 15 (some 255), Dom.host, [chg (FRY_R_CFG 7) 0 3 (ringCode .write), chg (FRY_R_CFG 7) 4 4 15, chg (FRY_R_CFG 7) 8 8 255]),
     (.ferryBase 0 7 (2 ^ 64 - 32) 32, .host,
       addrChgs (FRY_R_DBASE_LO 7) (FRY_R_DBASE_HI 7) (2 ^ 64 - 32) ++ addrChgs (FRY_R_CBASE_LO 7) (FRY_R_CBASE_HI 7) 32),
     (.ferryMod 0 7 255 0, .host, [chg (FRY_R_CFG 7) 16 8 255, chg (FRY_R_CFG 7) 24 8 0]),
     (.ferryAbrec 0 (2 ^ 64 - 32), .host, addrChgs FRY_ABREC_LO FRY_ABREC_HI (2 ^ 64 - 32)),
     (.emicaShare 0 7 true, .emica, [chg EMC_CFG 9 3 7, chg EMC_CFG 8 1 1]), (.emicaGain 0 256 32767, .emica, [chg EMC_SHARE 0 9 256, chg EMC_SHARE 16 15 32767]),
     (.emicaMoor 0 true, .emica, [chg EMC_CFG 12 1 1]), (.emicaCalrx 0 true, .emica, [chg EMC_CFG 13 1 1]), (.emicaEarm 0 255, .emica, [chg EMC_EARM 0 8 255]),
     (.emicaCal 0 (-2147483648), .emica, [chgI EMC_CAL 0 32 (-2147483648)]),
     (.pinFunc 0 3 3 1 (some 3), .aon, [chg (PMX_PIN 3) 0 4 3, chg (PMX_PIN 3) 4 5 1, chg (PMX_PIN 3) 12 2 3]), (.pinInv 0 31 true, .aon, [chg (PMX_PIN 31) 16 1 1]),
     (.pinGpo 0 31 1, .aon, [chg PMX_GPO 31 1 1]),
     (.yardRoute 0 31 79 7 0xFFFF .both, .aon,
       [chg (YRD_ROUTE 31) 0 1 1, chg (YRD_ROUTE 31) 2 2 2, chg (YRD_ROUTE 31) 4 7 79, chg (YRD_ROUTE 31) 12 3 7, chg (YRD_ROUTE 31) 16 16 0xFFFF]),
     (.yardOff 0 31, .aon, [chg (YRD_ROUTE 31) 0 1 0]), (.yardBell 0 7 79, .aon, [chg (YRD_BELL_SEL 7) 0 7 79]),
     (.yardLogmask 0 79 true, .aon, [chg (YRD_LOG_MASK 2) 15 1 1])],
    argsBad x.1 = none ∧ up.dom x.2.1 ≠ 3 ∧ allows up x.2.2 = true := by decide
/-- A set committed on this edge. -/
def atSet : State := { up with tod := { up.tod with setAt := some up.tide.tb } }

/-- Group 7 in a state; group 7 armed with its engine on. -/
def grpIn (v : Nat) : State := up.setFld (ACQ_G_STAT 7) 0 3 v
def running7 : State := (grpIn 2).setBit (PLT_ENG_CFG 7) 0 true

/-- A segment to write. -/
def seg0 : Seg :=
  { trig := ⟨0, 0, 0, 25, false, false⟩, s := 0, e := 63, seq := 0, recNo := 0, dt := 0, rejDead := 0, rejBusy := 0, first := true,
    degraded := false, memerr := false, body := [], fin := 0, maps := [], man := 0 }

/-- Group 0 takes channel 0 into the quay buffer: it may be armed; as a stream group with its rings, started. -/
def armable : State :=
  (((((up.setFld (ACQ_G_CFG 0) 8 8 1).setFld (ACQ_G_CFG 0) 4 2 2).setRegN (ACQ_G_BASE 0) 65536).setRegN (ACQ_G_SIZE 0)
    4096).setRegN (ACQ_G_PRE 0) 32).setRegN (ACQ_G_POST 0) 32
def streamable : State :=
  ((((armable.setBit (ACQ_G_CFG 0) 0 true).setFld (FRY_R_CFG 0) 8 8 1).setFld (FRY_R_CFG 1) 0 3 1).setFld (FRY_R_CFG 1) 8 8
    1).setRingState 0 1 |>.setRingState 1 1

/-- A histogram and a map that may start. -/
def histable : State := (up.setFld (WHS_H_CFG 0) 14 2 2).setRegN (WHS_H_BASE 0) 65536
def mapable : State := (armable.setFld (WHS_M_CFG 0) 8 2 2).setRegN (WHS_M_BASE 0) 131072

/-- Dock channel 1 with a timing that fits. -/
def trainable : State := up.setBit (DCK_CH_CFG 1) 0 true

/-- The rig's master, RUNNING, with the conditions of its three pulses. -/
def master : State := ((up.setFld EMC_CFG 0 2 1).setFld EMC_STAT 0 2 2).setFld CLK_SYNC_CTRL 0 3 3

/-- A save in progress; a staged setup. -/
def busyStore : State := up.modStore fun x => { x with op := .saveWait 1 }
def staged : State := (up.modStore fun x => { x with buf := List.replicate 4 0 }).setBit TRL_STAT 12 true
/-- Source 47 is high and enabled. -/
def waiting : State := ((up.setBit YRD_BELL_STAT 7 true).setBit (BEL_EN 1) 15 true).modBell fun x => { x with seen := 2 ^ 47, pend := 2 ^ 47, olds := 2 ^ 47 }

/-- RCLK has stopped; Lighthouse-A in state v, pulled in, with n windows in range; locked
before its edge, or SYNCING for 320 counts; five cycles into a tide. -/
def stopped : State := { up with tide := { up.tide with rclk := false } }
def pulling (v n : Nat) : State := (up.setSynthState .lha v).setSynth .lha { SynthSt.reset with pulled := true, wins := n }
def lockedAt : State := { (pulling 2 0).setSynth .lha { SynthSt.reset with resume := true, resumeAt := 7 } with tide := { up.tide with tb := 9 } }
def syncing : State := { pulling 4 0 with tide := { up.tide with tb := 320 } }
def late5 : State := { up with tide := { up.tide with cycle := 5 } }

/-- SYNCIN on with targets m; an edge registered for time-base count 40. -/
def syncOn (m : Nat) : State := (up.setBit CLK_SYNC_CTRL 0 true).setFld CLK_SYNC_CTRL 4 4 m
def edgeAt : State := up.modClk fun x => { x with edge := some 40 }

/-- Time of day ns nanoseconds past a second, with slew to take; the 1PPS discipline on, on pin 0; an edge seen at 0. -/
def todAt (ns : Nat) (slew : Int) : State := { up with tod := { up.tod with ns := ns, slew := slew, phase := 50 } }
def late60 : State := { todAt 0 1 with tide := { up.tide with cycle := 60 } }
def ppsOn : State := (up.setFld (PMX_PIN 0) 0 4 11).setBit TIM_PPS_CTRL 0 true
def ppsSeen (tb : BitVec 56) : State := { ppsOn with tod := { ppsOn.tod with ppsLast := some 0 }, tide := { ppsOn.tide with tb := tb } }
def ppsStep : State := { (todAt 400000000 0).setBit TIM_PPS_CTRL 2 true with clk := up.clk }

/-- TALLY STARTING for n RCLK cycles times 1000; draining over two edges; a unit reset held; SYS:RESET staged. -/
def startedAt (n : Nat) : State :=
  { up.setDom .tally 1 with tide := { up.tide with tb := BitVec.ofNat 56 (n * 5000000) } }
def drainAt : State :=
  ({ up.setDom .tally 3 with tide := { up.tide with tb := 500 } } : State).modPwr fun x => { x with edges := vset x.edges 4 2 }
def heldSt : State := up.modPwr fun x => { x with held := true, causes := 8 }
def resetAtEdge : State :=
  up.enqueue 0 ⟨none, .staged [.row (.sysReset 0)] false 0 0, true⟩

/-- An MSI-X message for vector 15 waits behind its mask. -/
def msiWaits : State := up.modBell fun x => { x with msixEnable := true, busMaster := true, msgs := [⟨3, 15⟩] }

/-- Loop 7 alone in a mode; its setpoint p, in the two-point law; an entry of its list due. -/
def loopAt (m : Nat) : State := up.modLoop 7 fun x => { x with mode := m }
def twoPoint (p : Nat) : State := (((loopAt 2).setRegN (BRT_MONCNT 7) 1).setBit (SLC_L_CFG 7) 0 true).setFld (SLC_L_SETP 7) 0 16 p
def listAt (f : ListSt → ListSt) : State := up.modList 7 fun x => f { x with st := 1 }

/-- Port 7 in a SPIDAC or HRPWM mode. -/
def portAt (m : Nat) (f : SlipPort → SlipPort) : State := (up.setFld (SLP_P_CFG 7) 0 2 m).modPort 7 f
/-- The bus busy from an earlier group. -/
def busHeld : State := up.modSlip fun x => { x with bus := some (up.tide.tb - 5, 9999) }

/-- LDAC in CYCLE mode after a frame; pin 31 in its park window, or carrying a high GPO bit; the UART's RXD pin in its window. -/
def cycled : State := ((up.setFld SLP_CFG 9 2 2).setFld SLP_CFG 16 10 20).modSlip fun x => { x with ended := true }
def parkedPin : State := up.modYard fun x => { x with park := 2 ^ 31 }
def gpoPin : State := (up.setFld (PMX_PIN 31) 0 4 2).setBit PMX_GPO 31 true
def rxdOff : State := (up.setFld (PMX_PIN 31) 0 9 12).modYard fun x => { x with park := 2 ^ 31 }

/-- The UART's characters; a line in its queue; an asynchronous line pending; a line without a slot; an abort in progress. -/
def typed (cs : List Byte) : State := up.setPort 0 { up.port 0 with chars := cs }
def queued (st : LineSt) : State := up.setPort 0 { up.port 0 with queue := [⟨none, st, true⟩] }
def notified : State := up.setPort 0 { up.port 0 with pendingAsync := [⟨.power, 0, [], 0, 0⟩] }
def turnedAway : State := up.setPort 0 { up.port 0 with turned := [⟨none, .text [] true, true⟩] }
def aborting : State := { up with cmd := { up.cmd with abort := some 0 } }

/-- Loop 7 alone drives port 7 by HRPWM, and comparator 0 trips every loop. -/
def pwmLoop : State := ((up.setFld (SLC_L_MODE 7) 0 2 1).setFld (SLP_P_CFG 7) 0 2 2).setFld (SLC_L_PORTS 7) 0 8 128 |>.setFld (PRT_FAST 0) 16 8 255

/-- Comparator 7 on both edges; TRIGIN 1 on pin 31; detector 7 has fired. -/
def compOn : State := up.setFld (PLT_CMP 7) 20 2 2
def triginOn : State := up.setFld (PMX_PIN 31) 0 9 (3 + 16)
def fired : State := up.modDet 7 fun x => { x with fires := [(1000, 0)] }

/-- Over-range samples of Berth 7 on record, in the ACLK cycles 8 and 10, and one that saturated in 9. -/
def overSeen : State := up.modBrt fun x => { x with overs := vset x.overs 7 [(8, true), (10, false)] }
def satSeen : State := up.modBrt fun x => { x with sats := vset x.sats 7 [9] }

/-- EFIRE on comparator 0 and group 7, its last pulse up to 1000; comparator 7 with a new threshold since count 4950. -/
def efireOn : State := ((running7.setBit PLT_EFIRE_CFG 7 true).setFld PLT_EFIRE_CFG 0 7 1).setFld PLT_EFIRE_CFG 8 3 7
def efireDone : State := efireOn.modPlt fun x => { x with efireTo := 1000 }
def settles : State := compOn.modPlt fun x => { x with settling := 128, settleFrom := vset x.settleFrom 7 (some 4950) }

/-- Engine 7 runs on the event of a TRIGIN; its queue; its last trigger at 2^40. -/
def anEvent (src : Nat) : PEvent := ⟨src, 0, none, false, false⟩
def eng7 : State := (running7.setFld (PLT_ENG_CFG 7) 8 7 1)
def lastAt : State := eng7.modEng 7 fun x => { x with last := some (2 ^ 40) }
def abEng : State := (eng7.setBit (PLT_ENG_CFG 7) 1 true).setFld (PLT_ENG_CFG 7) 16 7 2
def abOpen : State := abEng.modEng 7 fun x => { x with window := some 100 }
def trigAt (src : Nat) (ts : Quay) : TrigRec := ⟨ts, 0, 5000, src, false, false⟩

/-- Group 7 captures a segment; CLOSING; streaming with one word held per channel. -/
def captures : State := ((grpIn 3).setFld (ACQ_G_CFG 7) 8 8 1).modGrp 7 fun x => { x with seg := some seg0, base := 100 }
def streaming : State := ((grpIn 4).setFld (ACQ_G_CFG 7) 8 8 1).setFld (ACQ_G_CFG 7) 4 2 2
def decimating : State := (((streaming.setBit (ACQ_G_CFG 7) 3 true).setFld (WMK_G_D 7) 0 25 2).modGrp 7 fun x =>
  { x with raw := vset x.raw 0 [⟨1, false, false⟩, ⟨2, false, false⟩] })

/-- A segment of group 7 in the quay buffer, whose directory entry lies in Dock 0 with n of its bursts gone; a stop in a stream. -/
def headed (n : Nat) : State :=
  ((captures.setFld (ACQ_G_CFG 7) 4 2 2).setFld MAN_DIR_CFG 0 2 0).modGrp 7 fun x => { x with await := [{ seg0 with man := n }] }
def ending : State := (grpIn 5).modGrp 7 fun x => { x with stopAt := some 5 }
def gapWaits : State := streaming.modGrp 7 fun x => { x with waitMarks := [[0, 0, 16]] }

/-- Histogram 7 and map 1 in the quay buffer, taking hits. -/
def histOn : State := (up.setFld (WHS_H_CFG 7) 14 2 2).modHist 7 fun x => { x with held := true }
def mapOn : State := (up.setFld (WHS_M_CFG 1) 8 2 2).modMap 1 fun x => { x with hits := [[5, 5]], marks := [true], due := true }

/-- Histogram 7 sweeping in a memory, and one whose last samples have not come; map 1 with the hits of two segments. -/
def sweep0 : Sweep := ⟨7, true, true, false, 3, false⟩
def histIn (mem : Nat) : State :=
  (up.setFld (WHS_H_CFG 7) 14 2 mem).modHist 7 fun x => { x with held := true, sweep := some sweep0 }
def waitsFeed : State := histOn.modHist 7 fun x => { x with stop := some (BitVec.ofNat 72 (1000 * 65536)) }
def mapIn (mem : Nat) : State :=
  (up.setFld (WHS_M_CFG 1) 8 2 mem).modMap 1 fun x => { x with hits := [[], [5]], marks := [false, true] }

/-- Dock channel 1 in a state; bursts waiting for client 3 and for BAR2, the
oldest of its last 16 slots with a burst. -/
def dckAt (v : Nat) : State := up.setFld (DCK_CH_TSTAT 1) 0 3 v
def aBurst : Burst := ⟨3, 17, .bar2 0 [], true⟩
def bBurst : Burst := ⟨21, 1, .put 8 5, true⟩
def inRound : State := (dckAt 3).modDock 1 fun x => 
  { x with owners := [some 3], queue := [aBurst, bBurst], issued := List.replicate 15 none ++ [some aBurst] }
def bar2Quay : State := up.setFld FRY_BAR2_CFG 0 2 2
def bar2Dock : State := (dckAt 3).setFld FRY_BAR2_CFG 0 2 1

/-- Lane 3 RUNNING on comparator 0 in a mode. -/
def laneOn (m : Nat) : State := ((up.setTly 3 1).setFld (TLY_L_CFG 3) 0 3 m).setFld (TLY_L_CFG 3) 4 6 (1 + 2 * 16)
def laneMuted : State := (laneOn 0).modPlt fun x => { x with settleFrom := vset x.settleFrom 0 (some 4950) }
def freqWaits : State :=
  ({ (laneOn 4).setFld (TLY_L_STILL 3) 0 16 1 with tide := { up.tide with tb := 5000000000 } } : State).modLane 3 fun x =>
    { x with waitFrom := some 0 }
def aMark : Mark := ⟨0, false, false, true⟩
def edge4 : LaneEdge := ⟨5000, [0, 0, 0, 0], true⟩
def laterNow : State := { laneOn 1 with tide := { up.tide with tb := 5000000000 } }
def calOn : State := up.setBit TLY_STAT 13 true
def flatHits : List Nat := (List.range 192).map fun i => if i < 135 then 21960 else if i < 191 then 21959 else 0
def lumpHits : List Nat := 4194304 :: List.replicate 191 0
def knobAt (a b : Bool) : State :=
  ((up.setFld (PMX_PIN 0) 0 9 6).setFld (PMX_PIN 1) 0 9 (6 + 16)).modKnob fun x => { x with levels := some (a, b) }
def knobMoved : State := { knobAt false true with tide := { up.tide with tb := 5000000000 } }.modKnob fun x =>
  { x with changedA := some 7 }

/-- The source 47 high and its target met: an interrupt wire, a message target. -/
def belWire : State := (waiting.setBit (BEL_TGT 0) 0 true).modBell fun x => { x with due := some 0 }
def belMsg : State :=
  (waiting.setBit (BEL_TGT 3) 0 true).modBell fun x => { x with msixEnable := true, busMaster := true, due := some 3 }

/-- A ring of the Ferry. -/
def ringIn (v : Nat) (f : RingSt → RingSt) : State := (up.setRingState 7 v).modRing 7 f
def desc0 : Desc := ⟨4096, 4096, 0, 2, true, 0, 0, 0, 0, 9⟩
def flight0 : Flight := ⟨desc0, 0, [], none, 0, 0, 0, 0, 0, true, none, none⟩

/-- A LOAD of four words into a memory, with what of its data has come; a COPY of eight words from one. -/
def loadFlight (mem : Nat) (ws : List Quay) : Flight :=
  { flight0 with desc := { desc0 with op := 3, words := 4, mem := mem, maddr := 64 }, data := ws, ready := false }
def loads (mem : Nat) : State := ringIn 1 fun x => { x with loading := true, flights := [loadFlight mem []] }
def copies (mem : Nat) : State := ringIn 1 fun x =>
  { x with flights := [{ flight0 with desc := { desc0 with op := 1, words := 8, mem := mem, maddr := 64 }, ready := false }] }

/-- A rig member, RUNNING. -/
def member : State := (up.setFld EMC_CFG 0 2 2).setFld EMC_STAT 0 2 2
def polled : State := { (member.setFld EMC_MEMBERS 0 8 3) with emc := { member.emc with poll := true, sent := some 5 } }
def judging : State := (member.setFld EMC_MEMBERS 0 8 3).modEmc fun x => { x with slots := vset x.slots 1 ⟨1, 2, none⟩ }

/-- The rig's master with its pulse k due. -/
def due (k : Nat) : State := master.modEmc fun x => { x with due := 2 ^ k }

/-- The store in an operation. -/
def storeAt (op : StoreOp) : State := up.modStore fun x => { x with op := op, buf := [1, 2, 3] }

/-- A block of one word held; BAR2 on Dock 0, not trained. -/
def oneHeld : State := (streaming.setFld (ACQ_G_CFG 7) 16 4 0).modGrp 7 fun x => { x with cur := some true, held := vset x.held 0 [1] }
def bar2Off : State := up.setFld FRY_BAR2_CFG 0 2 0

/-- Record rec holds a good copy with a payload. -/
def stored (rec : Nat) (payload : List Nat) : State :=
  up.modStore fun x =>
    { x with words := (List.range (4 + payload.length)).map fun i =>
      (copyAt rec false + i, BitVec.ofNat 32 ((copyWords rec 1 0 payload).getD i 0)) }

/-- Route 31 takes MF31 on both edges to ARM of group 0. -/
def routed : State := up.setRegN (YRD_ROUTE 31) (1 + 2 * 4 + 63 * 16 + 2 ^ 16)

/-- Something is due on the next edge; the Warehouse works in the quay buffer; an event raised, and one routed. -/
def busyYard : State := up.modYard fun x => { x with raised := [63, 1, 63] }
def sweeping : State := histIn 2
def taskDue : State := up.modYard fun x => { x with second := ⟨[(0, 1, 1)], 0⟩ }

theorem test_wit_GuardUartResetAbortActAsNamed :
    argsBad (.sysGuard 0 0) = none ∧ up.regN SYS_EPOCH = 0 ∧ argsBad (.sysGuard 0 0xFFFFFFFF) = none ∧
    up.regN SYS_EPOCH ≠ 0xFFFFFFFF ∧ argsBad (.sysUart 0 9600 none) = none ∧
    argsBad (.sysUart 0 12000000 (some true)) = none ∧ up.dom .aon ≠ 3 ∧ up.live = true ∧ up.portUp 2 = true ∧
    up.cmd.newDiv = none := by decide

theorem test_wit_TimeAndRegLinesAct :
    argsBad (.timeSet 0 (2 ^ 48 - 1) 999999999) = none ∧ argsBad (.timeCancel 0) = none ∧
    argsBad (.timeAdj 0 (-2147483647)) = none ∧ up.tod.setAt ≠ some up.tide.tb ∧ (atSet).tod.setAt = some (atSet).tide.tb ∧
    Takes atSet 0 ∧ argsBad (.timePps 0 true (some true)) = none ∧ argsBad (.timePpslim 0 65535 none) = none ∧
    regRow 0x3FFFC = none ∧ argsBad (.reg 0 0x3FFFC 0xFFFFFFFF) = none ∧ argsBad (.reg 0 0x22000 0) = none ∧
    argsBad (.reg 0 0x23FFC 0) = none ∧ (∃ r, regRow PMX_GPO = some r ∧ r.ta ≠ 0) ∧
    allows up [⟨PMX_GPO, taMask PMX_GPO, 5, (up.holding PMX_GPO).toNat⟩] = true ∧
    (∃ r, regRow (SLC_L_SAFE 7) = some r ∧ r.ta ≠ 0) ∧ (up.setDom .ctrl 3).dom (regDom (SLC_L_SAFE 7)) = 3 := by decide

theorem test_wit_ClkAndPowerLinesAct :
    argsBad (.clkAclk 0 0x200000000000) = none ∧ argsBad (.clkFcw 0 0x500000000000) = none ∧
    allows up [fcwChg 0x200000000000] = true ∧ allows up [fcwChg 0x500000000000] = true ∧ (up.setDom .lha 0).dom .lha ≠ 2 ∧
    (up.setSynthState .lha 2).synthState .lha = 2 ∧ up.synthState .lhs ≠ 2 ∧ (up.setDom .tally 1).dom .tally = 1 ∧
    (up.setDom .tally 3).dom .tally = 3 ∧ ((up.setDom .tally 0).setDom .lhs 0).dom .lhs = 0 ∧ Dom.lhs ∈ domNeeds .tally ∧
    ((up.setDom .tally 0).setDom .lhs 3).dom .lhs = 3 ∧
    (∀ e ∈ domNeeds .tally, ((up.setDom .tally 0).setDom .lhs 3).dom e ≠ 0) ∧ (up.setDom .tally 0).dom .tally = 0 ∧
    (∀ e ∈ domNeeds .tally, (up.setDom .tally 0).dom e = 2) ∧ (∃ e ∈ dependants .lhs, up.dom e ≠ 0) ∧ up.dom .emica = 2 ∧
    (up.offCheck .emica).isOk = true ∧ 0x200000000000 ≤ up.fcw ∧ up.fcw ≤ 0x500000000000 ∧ up.dom .lha ≠ 3 ∧
    (up.setBit (synthCfg .lha) 24 false).bit (synthCfg .lha) 24 = false ∧ up.dom .host = 2 ∧ (up.offCheck .host).isOk = true := by decide

theorem test_wit_BerthLinesRouteAndClear :
    argsBad (.berthMap 0 0xFEDCB898) = none ∧ errOf up [chg BRT_ROUTE 0 32 0xFEDCB898] = 105 ∧
    argsBad (.berthMap 0 (up.regN BRT_ROUTE)) = none ∧ allows up [chg BRT_ROUTE 0 32 (up.regN BRT_ROUTE)] = true ∧
    argsBad (.berthRoute 0 7 255) = none ∧ argsBad (.berthBgclear 0) = none ∧ up.regN BRT_ROUTE = routeWith up.route 7 128 := by decide

theorem test_wit_TrigLinesFireTheirEngines :
    argsBad (.trig 0 .all) = none ∧ (∀ g < 8, up.grpBusy g = false) ∧ argsBad (.trig 0 (.list [7])) = none ∧
    up.grpBusy 7 = false ∧ (running7).grpBusy 7 = true ∧ (running7).engRuns 7 = true ∧ Takes running7 0 := by decide

theorem test_wit_GroupLinesArmDisarmStartAndStop :
    argsBad (.arm 0 (.list [7])) = none ∧ argsBad (.arm 0 .all) = none ∧ (up.armCheck 7).isOk = false ∧ Takes armable 0 ∧
    (armable.armCheck 0).isOk = true ∧ (eachU State.armU [0] armable).isOk = true ∧ (up.grpState 7 = 0) ∧
    (grpIn 4).grpState 7 = 4 ∧ (grpIn 3).grpState 7 = 3 ∧ (grpIn 1).grpState 7 = 1 ∧ (grpIn 2).grpState 7 = 2 ∧
    ((grpIn 1).grp 7).await = [] ∧ (((grpIn 2).modGrp 7 fun x => { x with await := [seg0] }).grp 7).await ≠ [] ∧
    (up.startCheck 7).isOk = false ∧ (streamable.startCheck 0).isOk = true ∧ Takes streamable 0 := by decide

theorem test_wit_WarehouseLinesStartStopFlush :
    errOf (up.setDom .acq 0) [chg (whsCtrl (.hist 7)) 0 2 1] ≠ 0 ∧ (WObj.hist 7).ok = true ∧ (WObj.map 1).ok = true ∧
    allows histable [chg (WHS_H_CTRL 0) 0 2 3] = true ∧ Takes histable 0 ∧
    allows mapable [chg (WHS_M_CTRL 0) 0 2 1] = true ∧ Takes mapable 0 ∧ up.whsRuns (.hist 7) = false ∧
    (up.setBit (WHS_H_STAT 7) 0 true).whsRuns (.hist 7) = true ∧ (up.setBit (WHS_M_STAT 1) 0 true).whsRuns (.map 1) = true := by decide

theorem test_wit_DockTallyLinesTrainStartStopCalibrate :
    (up.setSynthState .lhs 2).lhs ≠ 3 ∧ up.bit (DCK_CH_CFG 1) 0 = false ∧
    (up.setFld (DCK_CH_TSTAT 1) 0 3 2).dckState 1 = 2 ∧ trainable.bit (DCK_CH_CFG 1) 0 = true ∧
    trainable.timingOk 1 = true ∧ trainable.dckState 1 ≠ 2 ∧ (trainable.setRegN (DCK_CH_TIM2 1) 0x3FF).timingOk 1 = false ∧
    (up.tlyStartCheck 3).isOk = true ∧ up.tlyPairs 3 = false ∧ (up.setTly 3 1).tlyState 3 = 1 ∧
    (up.setBit TLY_STAT 11 true).calBusy 3 = true ∧ (up.setFld (TLY_L_CFG 3) 0 3 (tlyCode .diff)).tlyPairs 3 = true ∧
    ((up.setFld (TLY_L_CFG 3) 0 3 (tlyCode .diff)).tlyStartCheck 3).isOk = true ∧ argsBad (.tallyCal 0 (some 0x3F)) = none ∧
    (∀ l ∈ maskBits 6 0x3F, up.laneInUse l = false) ∧ (up.setTly 3 1).laneInUse 3 = true ∧
    (up.modEdge fun e => { e with stops := 8 }).edge.stops.getLsbD 3 = true ∧
    ((up.modEdge fun e => { e with stops := 8 }).tlyStartCheck 3).isOk = true ∧ up.edge.stops.getLsbD 3 = false := by decide

theorem test_wit_SluiceLinesSetModesTimingsAndBanks :
    errOf up [chg (SLC_L_MODE 7) 0 2 (loopCode .auto)] ≠ 0 ∧ allows up [chg (SLC_L_MODE 7) 0 2 (loopCode .man)] = true ∧
    allows up [chg (SLC_L_MODE 7) 0 2 (loopCode .off)] = true ∧
    allows up [chg (SLC_L_CFG 7) 1 1 1, chg (SLC_L_TIME 7) 16 10 90] = true ∧ up.fld SYS_TIDE_LEN 0 10 = 100 ∧
    argsBad (.sluiceTiming 0 7 true 90) = none ∧ argsBad (.sluiceTiming 0 7 true 91) = none ∧
    allows up [chg (SLC_L_CFG 7) 1 1 1, chg (SLC_L_TIME 7) 16 10 91] = true ∧ argsBad (.sluiceStages 0 7 6) = none ∧
    argsBad (.sluiceCoefraw 0 7 5 (-32) 524287 (-524288) 0 0 0) = none ∧
    normalise [⟨1, 0⟩, ⟨0, 0⟩, ⟨-1, 0⟩] = some (0, [262144, 0, -262144]) ∧ normA ⟨-19, -1⟩ = some (-498074) ∧
    normA ⟨9, -1⟩ = some 235930 ∧ normalise [⟨5, -1⟩] = some (-1, [262144]) ∧
    argsBad (.sluiceDband 0 7 63 (-32768)) = none ∧ argsBad (.sluiceRipple 0 7 255 32767) = none ∧
    argsBad (.sluiceSwap 0 [7]) = none := by decide

theorem test_wit_ListAndProtLinesAct :
    up.tripped 7 = false ∧ (up.setBit PRT_TRIPPED 7 true).tripped 7 = true ∧ (up.loop 7).lst.st ≠ 1 ∧
    ((up.modList 7 fun x => { x with st := 1 }).loop 7).lst.st = 1 ∧
    (((up.setFld (SLC_L_LIST 7) 16 12 1).modList 7 fun x => { x with st := 1 }).loop 7).lst.idx < (up.setFld (SLC_L_LIST 7) 16 12 1).fld (SLC_L_LIST 7) 16 12 ∧
    allows up [chg (PRT_FAST 7) 0 13 8191, chg (PRT_FAST 7) 16 8 255] = true ∧ up.fastHigh 7 = false ∧
    errOf up [chg (PRT_FAST 7) 0 13 8191, chg (PRT_FAST 7) 16 8 255] = 0 ∧ argsBad (.protFast 0 7 4095 true 255) = none ∧
    argsBad (.protMoor 0 [7]) = none ∧ argsBad (.protClear 0 (.list [7])) = none ∧ (∀ n < 8, up.tripped n = false) ∧
    up.softNow = 0 ∧ up.prt.fast = 0 ∧ up.yardNow = 0 := by decide

theorem test_wit_BellYardAndFerryLinesAct :
    argsBad (.bellEn 0 47 true) = none ∧ argsBad (.bellVec 0 47 7) = none ∧ argsBad (.yardPulse 0 7) = none ∧
    ((up.modTgt 3 fun x => { x with serving := some 47 }).tgt 3).serving = some 47 ∧ (up.tgt 3).serving ≠ some 47 ∧
    allows up [chg (BEL_TGT 3) 0 1 0, chg (BEL_TGT 3) 8 7 64] = true ∧
    argsBad (.bellTarget 0 3 false (some 64) none) = none ∧ ((up.setBit (BEL_TGT 3) 0 true).bit (BEL_TGT 3) 0 = true) ∧
    (up.fryStartCheck 7).isOk = true ∧ ((up.setRingState 7 1).fryStartCheck 7).isOk = false ∧
    ((up.setRingState 7 1).fryStopCheck 7).isOk = true ∧ (up.setRingState 7 2).ringState 7 = 2 ∧
    (up.setRingState 7 3).ringState 7 = 3 ∧ (∀ r < 8, up.ringState r ≠ 3) ∧
    (eachU State.ringResumeU ((List.range 8).filter fun r => (up.setRingState 7 3).ringState r == 3) (up.setRingState 7 3)).isOk = true ∧
    argsBad (.ferryPost 0 7 256) = none ∧ argsBad (.ferryPost 0 7 257) = none ∧ up.ringSize 7 = 256 ∧
    allows up [chg FRY_BAR2_CFG 0 2 2, chg FRY_BAR2_BASE 0 32 0xFFFFFFFF] = true ∧
    argsBad (.ferryBar2 0 .qbuf 0xFFFFFFFF) = none := by decide

theorem test_wit_EmicaAndStoreLinesAct :
    allows (up.setRegN EMC_MEMBERS 0x81) (chg EMC_CFG 0 2 (roleCode .member) :: chgN EMC_CFG 4 3 (some 7)) = true ∧
    argsBad (.emicaRole 0 .member (some 7)) = none ∧ allows up [chg EMC_MEMBERS 0 8 255] = true ∧
    argsBad (.emicaMembers 0 255) = none ∧ up.role ≠ 1 ∧ (master.role = 1) ∧ (∀ k < 3, (master.pulseCheck k).isOk = true) ∧
    Takes master 0 ∧ master.tide.cycle = 0 ∧ { master.tide with cycle := 5 }.cycle ≠ 0 ∧
    (up.setFld EMC_CFG 0 2 1).fld CLK_SYNC_CTRL 0 3 ≠ 3 ∧ (up.setFld EMC_CFG 0 2 1).emcState ≠ 2 ∧
    (master.setFld (ACQ_G_STAT 7) 0 3 1).anyArmed = true ∧ busyStore.storeFree = false ∧ up.storeFree = true ∧
    Takes busyStore 0 ∧ argsBad (.storeRecall 0 21 false) = none ∧ (up.storeCheck opRecall 21).isOk = true ∧
    (up.storeCheck opRecall 1).isOk = true ∧ (busyStore.storeCheck opRecall 21).isOk = false ∧
    (up.setBit TRL_BAD 21 true).bit TRL_BAD 21 = true ∧ (∀ d ∈ recallDoms 21, up.dom d = 2) ∧ up.bit TRL_STAT 12 = false ∧
    up.storeApply.isOk = false ∧ staged.storeApply.isOk = true ∧ Takes staged 0 ∧ argsBad (.emicaRole 0 .member none) = none := by decide

theorem test_wit_SysToKnobQueriesAnswer :
    (∀ c ∈ [Instr.sysIdQuery 0, .sysStepQuery 0, .sysTideQuery 0, .sysTidenumQuery 0, .sysEpochQuery 0, .sysConflictQuery 0, .sysErrQuery 0, .timeQuery 0, .timePpsQuery 0], argsBad c = none) ∧
    (∀ c ∈ [Instr.timeStampQuery 0, .clkAclkQuery 0, .clkStatQuery 0, .clkCountQuery 0 .lhs, .pwrStateQuery 0 none, .pwrStateQuery 0 (some .emica), .pwrDiscQuery 0 .aon, .pwrDiscQuery 0 .emica, .pwrCauseQuery 0], argsBad c = none) ∧
    (∀ c ∈ [Instr.berthRouteQuery 0 7, .berthMapQuery 0, .berthCalQuery 0, .berthTrimQuery 0 7, .berthMonQuery 0 7, .berthSnapQuery 0 7, .berthOvrQuery 0 7, .berthStatQuery 0], argsBad c = none) ∧
    (∀ c ∈ [Instr.pilotCompQuery 0 7, .pilotDlyQuery 0 18, .pilotEngQuery 0 7, .pilotLastQuery 0 7, .pilotCountQuery 0 7, .acqGroupQuery 0 7, .acqStatQuery 0 7, .acqDeadQuery 0 7, .segDirQuery 0], argsBad c = none) ∧
    (∀ c ∈ [Instr.segSeqQuery 0, .streamGapQuery 0 7, .wmarkSetQuery 0 7, .whouseStatQuery 0 (.hist 7), .whouseStatQuery 0 (.map 1), .whouseBinsQuery 0, .dockCfgQuery 0 1, .dockCalQuery 0 1, .dockRefuseQuery 0], argsBad c = none) ∧
    (∀ c ∈ [Instr.dockStatQuery 0 1, .dockErrQuery 0 1, .tallyResQuery 0 3, .tallyStatQuery 0 3, .tallyCalQuery 0, .knobPosQuery 0], argsBad c = none) ∧
    (up.lane 3).fifo = [] ∧ ((up.modLane 3 fun x => { x with fifo := [1, 2] }).lane 3).fifo = 1 :: [2] ∧
    Takes (up.modLane 3 fun x => { x with fifo := [1, 2] }) 0 := by decide

theorem test_wit_SluiceToRegQueriesAnswer :
    (∀ c ∈ [Instr.sluiceStatQuery 0 7, .sluiceMissedQuery 0 7, .listStatQuery 0 7, .slipStatQuery 0 7, .protStatQuery 0, .bellEnQuery 0, .bellTargetQuery 0 3, .bellStatQuery 0, .bellBadQuery 0], argsBad c = none) ∧
    (∀ c ∈ [Instr.ferryStatQuery 0 7, .ferryLinkQuery 0, .emicaCalQuery 0, .emicaStatQuery 0, .emicaValQuery 0 7, .emicaAbsQuery 0 7, .emicaRigofsQuery 0, .storeStatQuery 0, .storeIdentQuery 0], argsBad c = none) ∧
    (∀ c ∈ [Instr.storeRawQuery 0 65535, .pinFuncQuery 0 31, .pinLevelQuery 0 31, .yardRouteQuery 0 31, .yardBellQuery 0, .yardCoincQuery 0 7, .yardIgnQuery 0 7, .yardAbortedQuery 0, .yardSnapQuery 0], argsBad c = none) ∧
    (∀ c ∈ [Instr.regQuery 0 0x3FFFC], argsBad c = none) ∧ (up.tgt 3).serving = none ∧ up.pendSet = [] ∧
    (waiting.tgt 3).serving = none ∧ waiting.pendSet = 47 :: [] ∧ Takes waiting 0 ∧
    ((up.modTgt 3 fun x => { x with serving := some 47 }).tgt 3).serving = some 47 ∧ up.yard.log = [] ∧
    (up.modYard fun x => { x with log := [1] }).yard.log = 1 :: [] := by decide

theorem test_wit_PcieActionWritesActOrAreCounted :
    HostUp up ∧ ((up.wake.resumeU .lha).isOk = false) ∧ ((up.setSynthState .lha 2).wake.resumeU .lha).isOk = true ∧
    (0x3F : BitVec 6) ≠ 0 := by decide

theorem test_wit_PcieRegisterWritesStageCountOrAct :
    (up.setDom .host 0).pcieUp = false ∧ (up.setDom .host 0).live = true ∧ (7 : BitVec 4) ≠ 15 ∧ regRow 0x3FFFC = none ∧
    (∃ r, regRow PMX_GPO = some r ∧ r.ta ≠ 0 ∧ PMX_GPO ≠ SYS_GUARD) ∧
    (∃ r, regRow SLC_EVT = some r ∧ r.ta = 0 ∧ r.rw = 0 ∧ r.wo = 0 ∧ r.w1c ≠ 0 ∧ ∀ n < 8, SLC_EVT ≠ SLC_L_LISTCMD n) := by decide

theorem test_wit_ReadRowsReadTheirRegisters :
    regRow 0x3FFFC = none ∧ isSib 0x3FFFC = false ∧ isSn 0x3FFFC = false ∧ up.view 0x3FFFC = 0 ∧
    (∀ t < 4, 0x3FFFC ≠ BEL_CLAIM t) ∧
    (∃ r, regRow SYS_IGNORED = some r ∧ r.rc ≠ 0 ∧ isSib SYS_IGNORED = false ∧ isSn SYS_IGNORED = false ∧ ∀ t < 4, SYS_IGNORED ≠ BEL_CLAIM t) ∧
    isSib 0x24 = true ∧ (∀ t < 4, 0x24 ≠ BEL_CLAIM t) ∧ 0x24 ≠ CMD_MB_OUT ∧ waiting.pendSet = 47 :: [] ∧
    (waiting.tgt 3).serving = none ∧ up.pendSet = [] ∧
    ((up.modTgt 3 fun x => { x with serving := some 47 }).tgt 3).serving = some 47 := by decide

theorem test_wit_LighthouseRowsLockRunAndLose :
    up.tide.rclk = true ∧ stopped.tide.rclk = false ∧ stopped.pwr.held = false ∧
    (up.modPwr fun x => { x with held := true }).pwr.held = true ∧ (up.setSynthState .lha 1).synthState .lha = 1 ∧
    up.synthState .lha ≠ 1 ∧ (up.synth .lha).pulled = false ∧ (pulling 1 0).synthState .lha = 1 ∧
    ((pulling 1 0).synth .lha).pulled = true ∧ ((pulling 1 0).synth .lha).wins = 0 ∧ ((pulling 1 1).synth .lha).wins ≠ 0 ∧
    (pulling 1 0).inRange .lha ((pulling 1 0).synthFcw .lha / 2 ^ 28) = true ∧ (pulling 1 0).inRange .lha 0 = false ∧
    (pulling 1 0).live = true ∧ (pulling 2 0).synthState .lha = 2 ∧ (pulling 3 0).synthState .lha = 3 ∧
    (pulling 4 0).lha = 4 ∧ (pulling 0 0).synthState .lha = 0 ∧ (pulling 2 0).tide.cycle = 0 ∧
    (pulling 2 0).bit (synthCfg .lha) 24 = true ∧
    (up.setSynth .lhs { SynthSt.reset with pulled := true, wins := 2, resume := true, resumeAt := 7 }).clk.lhs.resume = true ∧
    late5.tide.cycle ≠ 0 ∧ late5.live = true ∧ (late5.toEdge.setSynthState .lha 2).synthState .lha = 2 ∧
    up.pwr.held = false ∧ up.lha ≠ 0 ∧ up.lhs ≠ 0 ∧ ((pulling 2 0).synth .lha).lockAt ≠ lockedAt.tide.tb ∧
    (lockedAt.synth .lha).resumeAt ≠ lockedAt.tide.tb ∧ (lockedAt.synth .lha).resume = true ∧ lockedAt.synthState .lha = 2 ∧
    syncing.lha = 4 ∧ 5 * 64 ≤ (syncing.tide.tb - syncing.clk.lha.lockAt).toNat ∧ syncing.tide.cycle = 0 := by decide

theorem test_wit_CapstanAndSyncRowsFollowTheirInputs :
    up.on .ctrl = true ∧ up.bit CLK_CAP_STAT 0 = true ∧ (up.setDom .ctrl 0).on .ctrl = false ∧
    up.bit CLK_SYNC_CTRL 0 = false ∧ (syncOn 7).bit CLK_SYNC_CTRL 0 = true ∧ (syncOn 7).bit CLK_SYNC_CTRL 1 = false ∧
    (syncOn 7).bit CLK_SYNC_CTRL 2 = false ∧ (syncOn 7).clk.edge = none ∧ (syncOn 7).syncTarget 1 = true ∧
    (syncOn 7).lhs = 3 ∧ (syncOn 7).lha = 3 ∧ ((syncOn 7).setSynthState .lhs 2).lhs ≠ 3 ∧ edgeAt.clk.edge = some 40 ∧
    edgeAt.toRealign 40 = 8 ∧ edgeAt.tide.cycle + 8 < edgeAt.tide.len ∧
    { edgeAt with tide := { edgeAt.tide with cycle := 92 } }.tide.len ≤ 92 + 8 := by decide

theorem test_wit_TimeOfDayRowsRollSlewAndDiscipline :
    (todAt 999999991 0).tide.cycle + (todAt 999999991 0).toRoll < 100 ∧ (todAt 999999991 0).live = true ∧
    (todAt 999999991 0).bit TIM_STAT 0 = false ∧ ((todAt 999999991 0).setBit TIM_STAT 0 true).bit TIM_STAT 0 = true ∧
    (todAt 999999991 0).tod.setSkip = 0 ∧ (todAt 999999991 0).tod.setNs < 1000000000 ∧
    100 ≤ (todAt 0 0).tide.cycle + (todAt 0 0).toRoll ∧ (todAt 0 1).tod.slew ≠ 0 ∧ (todAt 0 0).tod.slew = 0 ∧
    (todAt 1 (-1)).tod.ns + 10 * (100 - (todAt 1 (-1)).tod.phase) + 1 < 1000000000 ∧ (todAt 999999991 0).quiet = true ∧
    (todAt 999999991 0).tod.slew = 0 ∧ (todAt 0 1).tod.phase = 50 ∧
    (todAt 0 1).tide.cycle + (100 - (todAt 0 1).tod.phase) < (todAt 0 1).tide.len ∧ (todAt 0 (-1)).quiet = true ∧
    { late60.tide with cycle := 60 }.len ≤ 60 + (100 - late60.tod.phase) := by decide

theorem test_wit_TimeOfDayRowsRollSlewAndDiscipline2 :
    ppsOn.bit TIM_PPS_CTRL 0 = true ∧ ppsOn.bit TIM_PPS_CTRL 1 = false ∧ ppsOn.ppsPin = true ∧ ppsOn.ppsOk = true ∧
    ppsOn.live = true ∧ up.ppsPin = false ∧ (ppsSeen 0).ppsOk = false ∧
    (ppsSeen 750000000).tod.ppsLast.getD (ppsSeen 750000000).tod.ppsFrom = 0 ∧
    750000000 ≤ ((ppsSeen 750000000).tide.tb - 0).toNat ∧ ((ppsSeen 0).tide.tb - 0).toNat < 750000000 ∧
    up.tod.ppsLast = none ∧ (atSet).tod.setAt = some (atSet).tide.tb := by decide

theorem test_wit_TimeOfDayRowsRollSlewAndDiscipline3 :
    up.tod.setAt ≠ some up.tide.tb ∧ up.tod.adjAt ≠ some up.tide.tb ∧ up.ppsError.natAbs ≤ 1000 * up.fld TIM_PPS_CTRL 8 16 ∧
    1000 * (ppsStep.fld TIM_PPS_CTRL 8 16) < ppsStep.ppsError.natAbs ∧ ppsStep.bit TIM_PPS_CTRL 2 = true := by decide

theorem test_wit_TideLedgerRowsActInTheirCycles :
    up.live = true ∧ up.toEdge.edgeStart.edgeTrips.swapEdge.boundary.s.pwr.held = false ∧ up.tide.cutoff = false ∧
    { up.tide with cutoff := true }.cutoff = true ∧ up.tide.windowClosed = false ∧ up.prt.saved = none ∧
    (up.modPrt fun x => { x with saved := some x.viol }).prt.saved.isSome = true ∧
    resetAtEdge.toEdge.edgeStart.edgeTrips.swapEdge.boundary.s.pwr.held = true ∧ resetAtEdge.live = true := by decide +kernel

theorem test_wit_PowerRowsEnterOnAndOff :
    (up.setDom .tally 1).dom .tally = 1 ∧ startTime .tally ≤ (startedAt 4).sinceCommit .tally ∧
    (∀ e ∈ domNeeds .tally, (startedAt 4).dom e = 2) ∧ 4 * startTime .tally ≤ (startedAt 16).sinceCommit .tally ∧
    (startedAt 4).tide.cycle = 0 ∧ (startedAt 4).live = true ∧ (drainAt).dom .tally = 3 ∧ drainAt.sinceCommit .tally ≠ 0 ∧
    drainAt.drained .tally = true ∧ 2 ≤ vget drainAt.pwr.edges (domNum .tally) := by decide

theorem test_wit_ResetRowsResetAndRelease :
    heldSt.pwr.held = true ∧ heldSt.tide.rclk = true ∧ { heldSt.tide with rclk := false }.rclk = false ∧
    up.pwr.held = false ∧ up.on .host = true ∧ up.bit PWR_RST_CFG 0 = false ∧
    (up.setBit PWR_RST_CFG 0 true).bit PWR_RST_CFG 0 = true ∧ up.on .dock = true := by decide

theorem test_wit_LinkRowsFollowTheLinkPartner :
    up.on .host = true ∧ up.pwr.perst = false ∧ up.bit FRY_LINK 10 = true ∧
    (up.setRegN FRY_LINK 0).bit FRY_LINK 10 = false ∧ (up.setDom .host 0).on .host = false ∧
    (up.setRegN FRY_LINK 0).pcieUp = false ∧ up.pcieUp = true ∧ up.bell.msgs = [] ∧ msiWaits.pcieUp = true ∧
    msiWaits.msiOk = true ∧ (∃ m ∈ msiWaits.bell.msgs, m.vec = 15) ∧ msiWaits.live = true := by decide

theorem test_wit_OutputAndPinRowsWriteAndRegister :
    (up.setDom .ctrl 0).on .ctrl = false ∧ (up.loop (up.lead 7)).mode = 0 ∧ (loopAt 1).live = true ∧
    (loopAt 1).on .ctrl = true ∧ ((loopAt 1).loop ((loopAt 1).lead 7)).mode ≠ 0 ∧
    ((loopAt 1).loop ((loopAt 1).lead 7)).done = false ∧ 7 ∈ up.unit 7 ∧
    (up.modLoop 7 fun x => { x with moored := true }).mayWrite 7 = false ∧ (loopAt 1).paired 7 = false ∧
    (loopAt 1).mayWrite 7 = true ∧ ((loopAt 1).loop 7).mode = 1 ∧ (twoPoint 100).bit (SLC_L_CFG 7) 0 = true ∧
    (twoPoint 100).mayWrite 7 = true ∧ (twoPoint 100).bit (SLC_L_CFG 7) 1 = false ∧
    16 * ((twoPoint 100).fld (SLC_L_BAND 7) 0 15 : Int) < ((twoPoint 100).errNow 7).1 ∧
    ((twoPoint 0xFF00).errNow 7).1 < -(16 * ((twoPoint 0xFF00).fld (SLC_L_BAND 7) 0 15 : Int)) ∧
    ((twoPoint 0xFF00).loop 7).mode = 2 := by decide

theorem test_wit_OutputAndPinRowsWriteAndRegister2 :
    ((portAt 1 fun x => { x with value := true }).toCycle 10).portMode 7 = 1 ∧ (up.toCycle 10).driver 7 = none ∧
    ((up.toCycle 10).slipPort 7).held = false ∧ ((portAt 1 fun x => { x with value := true }).slipPort 7).value = true ∧
    (up.slipPort 7).value = false ∧ (up.toCycle 10).portMode 7 ≠ 1 ∧
    (cycled.toCycle (cycled.fld SLP_CFG 16 10)).fld SLP_CFG 9 2 = 2 ∧
    (cycled.toCycle (cycled.fld SLP_CFG 16 10)).slip.ended = true ∧
    (cycled.toCycle (cycled.fld SLP_CFG 16 10)).on .ctrl = true ∧
    (cycled.toCycle (cycled.fld SLP_CFG 16 10)).inFlight = false ∧ up.fld SLP_CFG 9 2 ≠ 2 ∧
    (portAt 1 fun x => { x with frame := some (0, false) }).inFlight = true := by decide

theorem test_wit_OutputAndPinRowsWriteAndRegister3 :
    parkedPin.parked 31 = true ∧ up.parked 31 = false ∧ up.drivenLevel 31 = none ∧
    up.pinLevel 31 ≠ (true != up.inverts 31) ∧ up.pinLevel 31 = (false != up.inverts 31) ∧ up.tapHolds = false ∧
    up.pwr.held = false ∧ heldSt.pwr.held = true ∧ heldSt.tapHolds = false ∧ parkedPin.toTakeover.parked 31 = true ∧
    (∀ k < 4, (up.setFld (PMX_PIN 31) 12 2 k).fld (PMX_PIN 31) 12 2 = k) ∧ up.fld (PMX_PIN 31) 0 4 = 0 ∧
    gpoPin.fld (PMX_PIN 31) 0 4 = 2 ∧ gpoPin.parked 31 = false ∧ (gpoPin.drivenLevel 31).isSome = true := by decide

theorem test_wit_LinkRowsMoveBytes :
    up.rxdParked = false ∧ rxdOff.rxdParked = true ∧ up.pinOf 12 2 = none ∧ (∀ r ∈ up.cmd.rates, r.place ≠ 0 ∨ r.left ≠ 0) ∧
    [(⟨5, 0, 0, 0⟩ : NewRate), ⟨6, 0, 1, 0⟩, ⟨7, 0, 0, 0⟩].filter (fun r => r.place = 0 && r.left = 0) = [⟨5, 0, 0, 0⟩] ++ [⟨7, 0, 0, 0⟩] ∧
    up.live = true ∧ stopped.live = false ∧ { up.cmd with sending := true }.sending = true ∧ up.cmd.sending = false ∧
    up.cmd.spiInFrame = false ∧ ({ up.cmd with spiInFrame := true, spiStatus := some 0 }).spiStatus = some 0 ∧
    ({ up.cmd with spiInFrame := true }).spiStatus = none := by decide

theorem test_wit_AssemblerFollowsTheBytes :
    (0x41 : Byte) ≠ 0x18 ∧ (typed (asc "ABORT")).endsAbort 0 0x0D = true ∧ ((typed (asc "A")).port 0).tooLong = false ∧
    ((typed (asc "A")).port 0).chars ≠ [] ∧ ((typed (asc "A")).port 0).chars.length < 255 ∧ (0x01 : Byte).toNat < 0x20 ∧
    (0x01 : Byte) ∉ [(0x08 : Byte), 0x09, 0x0A, 0x0D, 0x18] := by decide

theorem test_wit_AssemblerFollowsTheBytes2 :
    ((typed (List.replicate 255 0x41)).port 0).chars.length = 255 ∧
    (up.setPort 0 { up.port 0 with lastCR := true } |>.port 0).lastCR = true := by decide +kernel

theorem test_wit_AssemblerFollowsTheBytes3 :
    (typed (asc "A")).endsAbort 0 0x0D = false ∧ ((typed (asc "A")).port 0).lines < 16 ∧
    ((typed (asc "A")).port 0).chars.all (· == 0x20) = false ∧ ((typed (asc " ")).port 0).chars.all (· == 0x20) = true ∧
    full.endsAbort 2 0x0D = false ∧ 16 ≤ (full.port 2).lines ∧ ({ full.port 2 with linkErr := true }).linkErr = true ∧
    ({ up.port 0 with tooLong := true }).tooLong = true ∧ (turnedAway.port 0).turned ≠ [] ∧ (up.port 0).turned = [] := by decide

theorem test_wit_ParsedLinesAreAnsweredOrStaged :
    (∀ l ∈ (up.port 0).queue, l.isText = false) ∧
    ((queued (.text (asc "#12 ") false)).port 0).queue = [] ++ ⟨none, .text (asc "#12 ") false, true⟩ :: [] ∧
    (queued (.text [] true)).live = true ∧ Takes up 0 := by decide

theorem test_wit_ParsedLinesAreAnsweredOrStaged2 :
    (parseLine forms 0 (asc "#12 ")).2 = .bare ∧ (parseLine forms 0 (asc "NO")).1 = none ∧
    (match (parseLine forms 0 (asc "SYS:TIDE? ; SYS:EPOCH?")).2 with | .units us => up.allQueries 0 us | _ => false) = true ∧
    (match (parseLine forms 0 (asc "SYS:ECHO ON")).2 with | .units us => !up.allQueries 0 us | _ => false) = true ∧
    (match (parseLine forms 0 (asc "SYS:NONSENSE 1")).2 with | .err e _ _ _ => e == 101 | _ => false) = true := by decide +kernel

theorem test_wit_ResponsesAreAppendedAndAbortsEmptyPorts :
    ((queued (.answered (.ok []))).port 0).queue = ⟨none, .answered (.ok []), true⟩ :: [] ∧
    (queued (.answered (.ok []))).portUp 0 = true ∧ up.cmd.abort = none ∧ (respText none (.ok [])).length ≤ 1024 ∧
    ((up.port 0).out).length = 0 ∧ (notified.port 0).pendingAsync = ⟨.power, 0, [], 0, 0⟩ :: [] ∧
    notified.bit (CMD_PCFG 0) 0 = true ∧ (notified.setBit (CMD_PCFG 0) 0 false).bit (CMD_PCFG 0) 0 = false ∧
    (up.port 0).pendingAsync = [] ∧ (up.port 0).queue = [] ∧ aborting.cmd.abort = some 0 ∧ aborting.live = true ∧
    (turnedAway.port 0).turned = ⟨none, .text [] true, true⟩ :: [] ∧
    (turnedAway.setBit (CMD_PCFG 0) 0 false).bit (CMD_PCFG 0) 0 = false ∧ (up.port 0).turned = [] := by decide

theorem test_wit_ResponsesAreAppendedAndAbortsEmptyPorts2 :
    1024 < ({ queued (.answered (.ok [])) |>.port 0 with out := List.replicate 1023 0 }).out.length + (respText none (.ok [])).length ∧
    (up.setDom .host 0).portUp 2 = false := by decide +kernel

theorem test_wit_BerthRowsCountCorrectAndTaint :
    up.delivers 7 = true ∧ ([⟨0, false⟩, ⟨1, false⟩, ⟨2, false⟩, ⟨3, false⟩] : List Sample).length = 4 ∧
    (up.setRegN BRT_CHAN_STAT 0).delivers 7 = false ∧ up.converts 7 = true ∧
    (up.setRegN BRT_CHAN_STAT 0).converts 7 = false ∧ up.isOver 7 9 = false ∧ up.isOver 7 10 = false ∧
    up.isOver 7 8 = false ∧ overSeen.isOver 7 8 = true ∧ overSeen.isOver 7 10 = true ∧ overSeen.isOver 7 9 = false ∧
    satSeen.isOver 7 9 = true ∧ up.isOver 7 0 = false ∧ up.isOver 7 1 = false ∧
    (up.setBit BRT_CAL_CTRL 0 true).bit BRT_CAL_CTRL 0 = true ∧
    ((up.setBit BRT_CAL_CTRL 0 true).setBit TLY_STAT 5 true).skewCond = true ∧ up.skewCond = false ∧
    ([] : List (Option Int)).getD 7 none = none ∧ up.matchFull 7 = false ∧
    (List.range 8).all (fun n => decide (up.kOf n ≤ 8)) := by decide

theorem test_wit_PilotSourcesShowLevelsAndRaiseEvents :
    compOn.on .ctrl = true ∧ compOn.bit PLT_CMP_LVL 7 ≠ edge4.rising ∧
    edgeMatch (compOn.fld (PLT_CMP 7) 20 2) edge4.rising = true ∧ compOn.cmpMuted 7 edge4.count = false ∧
    settles.cmpMuted 7 edge4.count = true ∧ settles.plt.settling.getLsbD 7 = true ∧
    edgeMatch (up.fld (PLT_CMP 7) 20 2) false = false ∧
    (compOn.setBit PLT_CMP_LVL 7 true).bit PLT_CMP_LVL 7 = edge4.rising ∧ vget up.plt.settleFrom 7 = none ∧
    vget settles.plt.settleFrom 7 = some 4950 ∧ up.plt.settling.getLsbD 7 = false ∧ up.pinOf 3 1 = none ∧
    triginOn.pinOf 3 1 = some 31 ∧ triginOn.yard.park.getLsbD 31 = false ∧
    (triginOn.modYard fun x => { x with park := 2 ^ 31 }).yard.park.getLsbD 31 = true ∧ (vget up.plt.dets 7).fires = [] ∧
    (vget fired.plt.dets 7).fires = (1000, 0) :: [] ∧
    ((fired.setBit (PLT_ENG_CFG 7) 0 true).setFld (PLT_ENG_CFG 7) 8 7 16).engUses 7 16 = true ∧ fired.engUses 7 16 = false ∧
    fired.on .acq = true ∧ up.plt.efire = false ∧ (up.modPlt fun x => { x with efire := true }).plt.efire = true ∧
    up.plt.efireTo ≤ up.tide.tb.toNat + 4 ∧ up.tide.tb.toNat + 4 < efireDone.plt.efireTo ∧
    vget up.plt.outEnd 1 ≤ up.tide.tb.toNat + 4 ∧
    up.tide.tb.toNat + 4 < vget (up.modPlt fun x => { x with outEnd := vset x.outEnd 1 99 }).plt.outEnd 1 ∧
    efireOn.bit PLT_EFIRE_CFG 7 = true ∧ efireOn.fld PLT_EFIRE_CFG 0 7 = 1 ∧ efireOn.fld PLT_EFIRE_CFG 8 3 = 7 ∧
    efireOn.grpBusy 7 = true ∧ efireOn.on .emica = true ∧ efireOn.plt.efireTo = 0 ∧ efireDone.plt.efireTo + 4 ≤ 1004 ∧
    efireDone.plt.efireTo ≠ 0 ∧ 1003 < efireDone.plt.efireTo + 4 := by decide

theorem test_wit_EnginesQualifyRateAndHoldOff :
    (up.eng 7).queue = [] ∧ ((up.modEng 7 fun x => { x with queue := [anEvent 1] }).eng 7).queue = [anEvent 1] ∧
    up.engRuns 7 = false ∧ eng7.engRuns 7 = true ∧ eng7.running (eng7.fld (PLT_ENG_CFG 7) 24 3) = true ∧
    ((eng7.setRegN BRT_CHAN_STAT 0).running 0) = false ∧ (eng7.place 0 (anEvent 1)).isSome = true ∧ (eng7.grp 7).a0 ≤ 0 ∧
    ((eng7.modGrp 7 fun x => { x with a0 := 9 }).grp 7).a0 = 9 ∧ eng7.bit (PLT_ENG_CFG 7) 1 = false ∧
    eng7.fld (PLT_ENG_CFG 7) 8 7 = (anEvent 1).src := by decide

theorem test_wit_EnginesQualifyRateAndHoldOff2 :
    (eng7.eng 7).last = none ∧ (lastAt.eng 7).last = some 0x10000000000 ∧ (2 ^ 40 + 1 + 2 ^ 72 - 2 ^ 40) % 2 ^ 72 < 262144 ∧
    lastAt.bit (PLT_ENG_HOLD_HI 7) 31 = false ∧
    (lastAt.setBit (PLT_ENG_HOLD_HI 7) 31 true).bit (PLT_ENG_HOLD_HI 7) 31 = true ∧ (up.eng 7).window = none ∧
    stampGe up.now.toNat ((0 : Quay).toNat + up.engWin 7 * 65536 + 1) = false ∧
    stampGe laterNow.now.toNat ((0 : Quay).toNat + laterNow.engWin 7 * 65536 + 1) = true ∧
    stampGe (anEvent 1).t.toNat 70000 = false ∧ (abOpen.eng 7).window = some 100 ∧
    abOpen.fld (PLT_ENG_CFG 7) 16 7 = (trigAt 2 100).src ∧ stampGe (trigAt 2 100).ts.toNat (100 : Quay).toNat = true ∧
    stampGe ((100 : Quay).toNat + abOpen.engWin 7 * 65536) (trigAt 2 100).ts.toNat = true ∧ (abEng.eng 7).window = none ∧
    (abEng.eng 7).early = none ∧ abEng.fld (PLT_ENG_CFG 7) 8 7 = (trigAt 1 100).src ∧ abEng.bit (PLT_ENG_CFG 7) 1 = true ∧
    (∀ e ∈ (abOpen.eng 7).queue, stampGe e.t.toNat ((100 : Quay).toNat + abOpen.engWin 7 * 65536) = true) := by decide

theorem test_wit_SegmentRowsMoveTheGroupOn :
    (∀ v < 6, (grpIn v).grpState 7 = v) ∧ (captures.grp 7).seg = some seg0 ∧ captures.grpState 7 = 3 ∧
    seg0.e < 4 * (captures.grp 7).base ∧ (up.grp 7).seg = none ∧ (up.grp 7).await = [] ∧ (grpIn 1).grpState 7 = 1 ∧
    ((grpIn 1).grp 7).r < (grpIn 1).samplesBy (((grpIn 1).chans 7).headD 0) ((grpIn 1).now.toNat + 327679) ∧
    (grpIn 2).grpState 7 ≠ 1 ∧ ((headed 1).grp 7).await = { seg0 with man := 1 } :: [] ∧ (headed 1).bodyWritten 7 = true ∧
    (headed 1).lhs = 3 ∧ ((headed 1).manBursts 7 { seg0 with man := 1 }).length ≤ 1 ∧
    0 < ((headed 0).manBursts 7 { seg0 with man := 0 }).length ∧ ((grpIn 5).grp 7).stopAt = none ∧
    ((grpIn 5).grp 7).await = [] ∧ (grpIn 5).lhs = 3 ∧ (ending.grp 7).stopAt = some 5 ∧ ending.grpState 7 = 5 ∧
    ending.stopReady 7 5 = true ∧ (ending.setFld (ACQ_G_CFG 7) 8 8 1).stopReady 7 5 = false ∧
    (((grpIn 5).modGrp 7 fun x => { x with await := [seg0] }).grp 7).await ≠ [] := by decide

theorem test_wit_StreamRowsStageDropAndDecimate :
    streaming.grpState 7 = 4 ∧ (streaming.grp 7).cur = none ∧
    (streaming.setFld (ACQ_G_CFG 7) 20 4 0).fld (ACQ_G_CFG 7) 20 4 ≤ streaming.staged 7 ∧
    streaming.staged 7 < (streaming.setFld (ACQ_G_CFG 7) 20 4 2).fld (ACQ_G_CFG 7) 20 4 ∧
    streaming.heldAll 7 < streaming.blkLen 7 ∧ (oneHeld.blkLen 7) ≤ oneHeld.heldAll 7 ∧ (oneHeld.grp 7).cur = some true ∧
    streaming.wmark 7 = false ∧ decimating.wmark 7 = true ∧ 0 < decimating.wmkD 7 ∧
    decimating.wmkD 7 ≤ (vget (decimating.grp 7).raw 0).length ∧ decimating.grpState 7 = 4 ∧
    [(⟨1, false, false⟩ : Slot)] ≠ [] ∧ (streaming.grp 7).waitMarks.any isGap = false ∧
    (gapWaits.grp 7).waitMarks.any isGap = true ∧ gapWaits.grpState 7 = 4 ∧ (gapWaits.grp 7).cur = none ∧
    ((ending.modGrp 7 fun x => { x with cur := some false }).grp 7).cur = some false := by decide

theorem test_wit_WarehouseRowsSweepHitDecayAndClear :
    (vget histOn.hists 7).held = true ∧ (vget histOn.hists 7).sweep = none ∧ histOn.sweepUp (histOn.histMem 7) = true ∧
    (vget up.hists 7).held = false ∧ histOn.histMem 7 < 3 ∧ (∀ p ∈ (vget histOn.hists 7).part, p.1 < histOn.bins 7 + 4) ∧
    histOn.histFed 7 = true ∧ (vget up.maps 1).hits = [] ∧ (histIn 2).histMem 7 = 2 ∧ (histIn 2).sweepUp 2 = true ∧
    (vget (histIn 2).hists 7).sweep = some sweep0 ∧ sweep0.done < (histIn 2).sweepLen 7 ∧ (histIn 0).histMem 7 = 0 ∧
    sweep0.done < (histIn 0).sweepLen 7 ∧ ((histIn 2).setDom .acq 0).sweepUp 2 = false ∧
    (vget ((histIn 0).modHist 7 fun x => { x with sweep := some { sweep0 with done := 2 ^ 20 } }).hists 7).sweep = some { sweep0 with done := 2 ^ 20 } ∧
    (histIn 0).sweepLen 7 ≤ 2 ^ 20 ∧ smWf (fun _ => 0) [(9, 5)] = true ∧ waitsFeed.histFed 7 = false ∧
    (vget mapOn.maps 1).hits = [5, 5] :: [] ∧ (vget mapOn.maps 1).marks = true :: [] ∧ mapOn.bit (WHS_M_STAT 1) 2 = false ∧
    mapOn.mapMem 1 = 2 ∧ mapOn.sweepUp 2 = true ∧ (vget mapOn.maps 1).due = true ∧ (mapOn.setDom .acq 0).sweepUp 2 = false ∧
    (mapIn 0).mapMem 1 < 2 ∧ (vget (mapIn 0).maps 1).hits = [] :: [[5]] ∧ (vget (mapIn 0).maps 1).marks = false :: [true] ∧
    (vget (mapIn 0).maps 1).swept < (mapIn 0).mapWords 1 ∧ (vget (mapIn 0).maps 1).cleared < (mapIn 0).mapWords 1 ∧
    (mapIn 0).mapWords 1 ≤ (vget ((mapIn 0).modMap 1 fun x => { x with swept := 2 ^ 24, cleared := 2 ^ 24 }).maps 1).swept ∧
    (mapOn.setBit (WHS_M_STAT 1) 2 true).bit (WHS_M_STAT 1) 2 = true ∧
    (mapOn.setBit (WHS_M_STAT 1) 1 true).bit (WHS_M_STAT 1) 1 = true := by decide

theorem test_wit_DockAndBar2RowsTrainServeAndAnswer :
    (∀ v < 6, (dckAt v).dckState 1 = v) ∧ (dckAt 2).on .dock = true ∧ (dckAt 2).fld (DCK_CH_TSTAT 1) 4 3 < 5 ∧
    ((dckAt 2).setFld (DCK_CH_TSTAT 1) 4 3 5).fld (DCK_CH_TSTAT 1) 4 3 = 5 ∧
    ((dckAt 2).setFld (DCK_CH_TSTAT 1) 4 3 1).dckState 1 = 2 ∧ up.lhs = 3 ∧
    ((dckAt 5).modDock 1 fun x => { x with hold := true }).dckState 1 = 5 ∧
    (vget ((dckAt 5).modDock 1 fun x => { x with hold := true }).dock 1).hold = true ∧ inRound.dckState 1 = 3 ∧
    (vget inRound.dock 1).pos < 240 * inRound.framesPerRound ∧ (vget inRound.dock 1).owners ≠ [] ∧
    inRound.clientBurst 1 1 true 3 = some aBurst ∧ inRound.clientBurst 1 1 true 21 = some bBurst ∧
    (vget (dckAt 3).dock 1).owners = [] ∧ (vget inRound.dock 1).issued[15]? = some (some aBurst) ∧
    (vget (inRound.modDock 1 fun x => { x with issued := [none] }).dock 1).issued[15]? = none ∧
    (vget inRound.dock 1).issued.filterMap (fun x => x) = aBurst :: [] ∧
    inRound.slotBurst 1 1 ((vget inRound.dock 1).owners.getD 0 none) = some aBurst ∧ inRound.slotBurst 1 2 (some 3) = none ∧
    (vget ((dckAt 5).modDock 1 fun x => { x with hold := true }).dock 0).hold = false ∧
    ((dckAt 2).setDom .dock 0).on .dock = false := by decide

theorem test_wit_DockAndBar2RowsTrainServeAndAnswer2 :
    up.pcieUp = true ∧ (up.setDom .host 0).pcieUp = false ∧ 128 < 124 % 128 + 4 * 2 ∧
    bar2Off.memUp bar2Off.bar2Mem = false ∧ bar2Quay.bar2Mem = 2 ∧ bar2Quay.memUp 2 = true ∧
    bar2Quay.regN FRY_BAR2_BASE + (0 + 4 * 1 - 1) / 16 < bar2Quay.memSize 2 ∧
    (∀ r ∈ bar2Quay.fry.reads, r.id ≠ bar2Quay.fry.nextId) ∧ bar2Quay.bar2Air bar2Quay.fry.nextId = false ∧
    bar2Dock.bar2Mem < 2 ∧ bar2Dock.memUp bar2Dock.bar2Mem = true ∧ bar2Quay.fry.latch = none ∧
    bar2Quay.memSize 2 ≤ (bar2Quay.setRegN FRY_BAR2_BASE 0xFFFFFFFF).regN FRY_BAR2_BASE + 0 / 16 ∧ 12 / 4 % 4 = 3 := by decide

theorem test_wit_TallyAndKnobRowsStampAndCount :
    (laneOn 0).tlyState 3 = 1 ∧ up.tlyState 3 = 0 ∧ (laneOn 0).on .tally = true ∧ (laneOn 0).lhs = 3 ∧
    (laneOn 0).calBusy 3 = false ∧ (laneOn 0).tlyDeaf 3 = false ∧ ((laneOn 0).setDom .ctrl 0).tlyDeaf 3 = true ∧
    (laneOn 0).tlyMuted 3 edge4.count = false ∧ laneMuted.tlyMuted 3 edge4.count = true ∧ laneMuted.tlyDeaf 3 = false ∧
    (laneOn 0).tlyMode 3 = 0 ∧ edgeMatch ((laneOn 0).tlySlope 3) true = true ∧
    stampGe ((laneOn 0).capture 3 edge4 ((laneOn 0).sfld (TLY_L_DLY 3) 0 20)).1.t.toNat ((laneOn 0).lane 3).start.toNat = true ∧
    ((laneOn 0).lane 3).accepted = none ∧ ((laneOn 0).lane 3).claimer = none := by decide

theorem test_wit_TallyAndKnobRowsStampAndCount2 :
    edgeMatch (((laneOn 0).setFld (TLY_L_CFG 3) 8 2 0).tlySlope 3) false = false ∧
    stampGe (edgeStamp [] false 5000 [0, 0, 0, 0] 0).toNat (2 ^ 71 - 1) = false ∧
    (((laneOn 0).modLane 3 fun x => { x with accepted := some 0x7FFFFFFFFFFFFFFFFF }).lane 3).accepted = some 0x7FFFFFFFFFFFFFFFFF ∧
    freqWaits.tlyMode 3 = 4 ∧ freqWaits.tlyState 3 = 1 ∧ (freqWaits.lane 3).stillFrom = some 0 ∧
    freqWaits.reached ((0 : Quay).toNat + (freqWaits.fld (TLY_L_GATE 3) 0 24 * 32768000 + freqWaits.fld (TLY_L_STILL 3) 0 16 * 32768000000)) = true ∧
    ((laneOn 4).lane 3).stillFrom = none ∧
    ({ freqWaits with tide := up.tide } : State).reached ((0 : Quay).toNat + (1000 * 32768000 + 10 * 32768000000)) = false ∧
    laterNow.tlyMode 3 = 1 ∧ ((laterNow.modLane 3 fun x => { x with opened := some aMark }).lane 3).opened = some aMark ∧
    laterNow.reached (aMark.t.toNat + 2 ^ 48) = true ∧ calOn.calBusy 5 = true ∧ (calOn.lane 5).swap ≠ some false ∧
    ((calOn.modLane 5 fun x => { x with swap := some false }).lane 5).swap = some false ∧ ([] : List Nat).length ≠ 192 ∧
    up.calBusy 5 = false ∧ tableOk [] (calWidths [] 0) = false := by decide

theorem test_wit_TallyAndKnobRowsStampAndCount3 :
    flatHits.length = 192 ∧ flatHits.sum = 4194304 ∧ tableOk flatHits (calWidths flatHits 0) = true ∧
    lumpHits.length = 192 ∧ lumpHits.sum = 4194304 ∧ tableOk lumpHits (calWidths lumpHits 0) = false := by decide +kernel

theorem test_wit_TallyAndKnobRowsStampAndCount4 :
    up.knob.levels = none ∧ (knobAt false true).knob.levels = some (false, true) ∧ (knobAt false true).on .tally = true ∧
    (knobAt false true).lhs = 3 ∧ (up.setDom .tally 0).on .tally = false ∧
    (knobAt false true).encLevel 0 false true none 5 = true ∧ (knobAt false true).encLevel 1 true false none 5 = false ∧
    (knobAt false true).encLevel 0 false false none 5 = false ∧ (knobAt false true).inputMuted 6 0 = false ∧
    up.inputMuted 6 0 = true ∧ up.bit KNB_STAT 1 = true ∧ (knobMoved.setBit KNB_STAT 1 false).bit KNB_STAT 1 = false ∧
    knobMoved.knobIdle = true ∧ knobMoved.on .tally = true ∧ knobMoved.lhs = 3 ∧ knobMoved.knob.lastEdge = some 7 ∧
    up.knobIdle = false := by decide

theorem test_wit_DwellsAdvanceTheList :
    (up.loop 7).lst.due = false ∧ ((listAt fun x => { x with due := true }).loop 7).lst.due = true ∧
    up.fld KNB_SVC 4 3 ≠ 7 ∧ (up.setFld KNB_SVC 4 3 7).fld KNB_SVC 4 3 = 7 ∧ (up.loop 7).lst.st ≠ 1 ∧
    ((listAt id).loop 7).lst.st = 1 ∧
    ((listAt id).loop 7).lst.idx < ((listAt id).setFld (SLC_L_LIST 7) 16 12 4095).fld (SLC_L_LIST 7) 16 12 ∧
    (listAt id).fld (SLC_L_LIST 7) 16 12 ≤ ((listAt fun x => { x with idx := 4095 }).loop 7).lst.idx ∧
    (up.setFld (SLC_L_REPEAT 7) 0 16 0).fld (SLC_L_REPEAT 7) 0 16 = 0 ∧
    ((listAt id).loop 7).lst.passes + 1 < ((listAt id).setFld (SLC_L_REPEAT 7) 0 16 2).fld (SLC_L_REPEAT 7) 0 16 ∧
    (up.setFld (SLC_L_REPEAT 7) 0 16 1).fld (SLC_L_REPEAT 7) 0 16 ≤ (up.loop 7).lst.passes + 1 := by decide

theorem test_wit_SlipwayRowsSendFramesAndPeriods :
    up.on .ctrl = true ∧ up.inFlight = false ∧ (∀ p : Fin 8, up.portMode p = 1 → (up.slipPort p).safe = false) ∧
    (portAt 1 fun x => { x with pend := some 5 }).portMode 7 = 1 ∧
    ((portAt 1 fun x => { x with pend := some 5 }).slipPort 7).pend = some 5 ∧
    ((portAt 1 fun x => { x with safe := true }).slipPort 7).safe = true ∧
    ((portAt 1 fun x => { x with frame := some (0, true) }).slipPort 7).frame = some (0, true) ∧
    (up.slipPort 7).frame = none ∧ (portAt 2 id).portMode 7 = 2 ∧ (portAt 2 id).driver 7 = none ∧ up.portMode 7 ≠ 2 ∧
    (∀ p : Fin 8, up.portWaits p = false) ∧ (portAt 1 fun x => { x with pend := some 5 }).portWaits 7 = true ∧
    up.busFree = true ∧ busHeld.inFlight = false ∧ busHeld.busFree = false ∧ busHeld.groupNow = false ∧
    busHeld.tide.len ≤ busHeld.tide.cycle + busHeld.busTail ∧
    (up.modSlip fun x => { x with bus := some (up.tide.tb, 9) }).groupNow = true ∧
    (portAt 1 fun x => { x with frame := some (0, true), ends := 35 }).edgesTo 35 = 7 ∧
    (portAt 1 fun x => { x with ends := 5000 }).edgesTo 5000 = 1000 ∧ up.edgesTo 0 = 0 ∧ (portAt 2 id).per 7 = 100 ∧
    (portAt 2 id).toSample 7 = 92 ∧ (portAt 2 id).toPeriod 7 = 0 ∧
    (portAt 2 fun x => { x with cnt := 95 }).toSample 7 = 97 ∧ (portAt 2 fun x => { x with cnt := 95 }).toPeriod 7 = 5 := by decide

theorem test_wit_FastTripRowsTripTheirLoops :
    up.on .ctrl = true ∧ (up.setFld (PRT_FAST 7) 16 8 255).fld (PRT_FAST 7) 16 8 ≠ 0 ∧ up.fld (PRT_FAST 7) 16 8 = 0 ∧
    (255 : Nat).testBit 7 = true ∧ stopped.live = false ∧ pwmLoop.portMode 7 = 2 ∧ pwmLoop.driver 7 = some 7 ∧
    7 ∈ pwmLoop.unit 7 ∧ (pwmLoop.fld (PRT_FAST 0) 16 8).testBit 7 = true ∧
    pwmLoop.fld (PRT_FAST 0) 16 8 &&& (pwmLoop.setFld (PRT_TRIPOUT 1) 0 8 255).fld (PRT_TRIPOUT 1) 0 8 ≠ 0 ∧
    up.driver 7 = none ∧ (up.modPrt fun x => { x with wait := [(0, 7, 128)] }).prt.wait = [] ++ (0, 7, 128) :: [] ∧
    (128 : Nat).testBit 7 = true ∧ (∀ y ∈ up.prt.wait, y.1 ≠ 0) := by decide

theorem test_wit_TripsLatchOnceAndMoor :
    up.tripped 7 = false ∧ up.paired 7 = false ∧ (up.setTrip 7).tripped 7 = true ∧ (∀ c : Fin 8, up.fastHigh c = false) ∧
    (up.setDom .ctrl 0).on .ctrl = false ∧ up.loopMode 7 = 0 ∧ (up.setFld (SLC_L_MODE 7) 0 2 1).loopMode 7 ≠ 0 ∧
    (up.setBit (SLC_L_CFG 6) 8 true).paired 7 = true ∨ (up.setBit (SLC_L_CFG 6) 2 true).paired 7 = true := by decide

theorem test_wit_BellRowsDeliverInTurnAndSend :
    up.pendSet.length ≤ up.deliveries ∧ belWire.deliveries < belWire.pendSet.length ∧
    ((List.range 4).map fun k => (belWire.bell.last + 1 + k) % 4).find? (fun t => belWire.eligible t && belWire.free_ t && belWire.met t) = some 0 ∧
    ((List.range 4).map fun k => (belMsg.bell.last + 1 + k) % 4).find? (fun t => belMsg.eligible t && belMsg.free_ t && belMsg.met t) = some 3 ∧
    belMsg.deliveries < belMsg.pendSet.length ∧ up.msiOk = false ∧ msiWaits.msiOk = true ∧
    msiWaits.bell.msgs.find? (fun m => !msiWaits.blocked m) = none := by decide

theorem test_wit_ClaimsTakeTheFirstPendingSource :
    (waiting.tgt 3).serving = none ∧ 47 ∈ waiting.pendSet ∧ (∀ m ∈ waiting.pendSet, 47 ≤ m) ∧ up.pendSet = [] ∧
    ((up.modTgt 3 fun x => { x with serving := some 47 }).tgt 3).serving = some 47 ∧ (up.tgt 3).serving ≠ some 0 := by decide

theorem test_wit_FerryRowsKeepTheBooks :
    (up.ring 7).fetching = false ∧ ((ringIn 1 fun x => { x with fetching := true }).ring 7).fetching = true ∧
    (ringIn 1 id).ringState 7 = 1 ∧ (up.ring 7).fetched = [] ∧ (up.setFld (FRY_R_CFG 7) 0 3 4).descBad 7 0 desc0 = true ∧
    (up.ring 7).flights = [] ∧ ((ringIn 1 fun x => { x with fetched := [desc0] }).setDev 7 1).mayIssue 7 = true ∧
    (((ringIn 1 fun x => { x with fetched := [desc0] }).setFld (FRY_R_CFG 7) 0 3 2).modFry fun x => { x with mon := [(0, [])] }).ringWork 7 = true ∧
    (up.setFld (FRY_R_CFG 7) 0 3 2).descBad 7 0 desc0 = false ∧ up.mayMove = true ∧ 0 < (up.setDev 7 1).dev 7 ∧
    up.infl 7 < 65535 ∧ (ringIn 1 fun x => { x with flights := [flight0] }).ferryEnds = true ∧
    ((ringIn 1 fun x => { x with flights := [flight0] }).ring 7).flights = flight0 :: [] ∧ flight0.ready = true ∧
    0 < (up.setInfl 7 1).infl 7 ∧ up.host 7 < 65535 ∧ ({ flight0 with ready := false }).ready = false ∧
    ((ringIn 1 fun x => { x with flights := [{ flight0 with age := some 9 }] }).setFld (FRY_R_CFG 7) 0 3 2).holdExpired 7 = true ∧
    up.holdExpired 7 = false ∧ ((loads 2).ring 7).loading = true ∧ (up.ring 7).loading = false ∧ (loads 2).lhs = 3 ∧
    ((loads 2).ring 7).flights.filter (fun f => !f.ready) = [loadFlight 2 []] ∧
    ((loads 1).ring 7).flights.filter (fun f => !f.ready) = [loadFlight 1 []] ∧ (loadFlight 1 []).desc.mem < 2 ∧
    (loadFlight 2 []).desc.op = 3 ∧ (loadFlight 2 []).put = (loadFlight 2 []).data.length ∧
    (loadFlight 2 []).readWords = 4 ∧
    ({ loadFlight 2 [] with desc := { desc0 with op := 3, words := 99, fmt := 0 } }).readWords = 56 ∧
    (ringIn 2 id).ringState 7 = 2 ∧ 0 ≤ up.host 7 ∧ up.host 7 + up.dev 7 < 65536 ∧ up.mover 7 = none ∧
    (copies 2).mover 7 = some { flight0 with desc := { desc0 with op := 1, words := 8, mem := 2, maddr := 64 }, ready := false } ∧
    (copies 1).flightNext { flight0 with desc := { desc0 with op := 1, words := 8, mem := 1, maddr := 64 }, ready := false } = .inr (1, 64, 8) ∧
    (up.flightNext { flight0 with desc := { desc0 with op := 1, words := 0 }, ready := false }).isLeft = true ∧
    (ringIn 3 id).ringState 7 = 3 ∧
    ((ringIn 1 fun x => { x with flights := [{ flight0 with ready := false }] }).ring 7).flights ≠ [] := by decide

theorem test_wit_RigRowsExchangeJudgeAndPulse :
    (master.toCycle 10).emcRuns = true ∧ (master.toCycle 10).role = 1 ∧ (member.toCycle 10).role = 2 ∧
    (polled.toCycle (10 + 10 * polled.ownSlot)).emcRuns = true ∧
    (polled.toCycle (10 + 10 * polled.ownSlot)).emc.poll = true ∧ (member.toCycle 30).bit CLK_CAP_STAT 0 = true ∧
    (member.toCycle 30).emcRuns = true ∧ frameOk (2 ^ 16) = false ∧ frameOk 6 = true ∧ frameOk 0 = true ∧
    (polled.toCycle 20).emc.sent = some 5 ∧ polled.ownSlot = 0 := by decide

theorem test_wit_RigRowsExchangeJudgeAndPulse2 :
    (judging.toCycle 92).members = [0, 1] ∧ (judging.toCycle 92).emc.judged = false ∧ (judging.toCycle 92).emcRuns = true ∧
    (vget (judging.toCycle 92).emc.slots 1).got = none ∧ (vget judging.emc.slots 1).st = 1 ∧
    ((vget judging.emc.slots 1).tide false).st = 2 ∧ up.role = 0 ∧ judging.tide.len - 8 = 92 ∧
    ((due 0).toCycle 91).emc.due.getLsbD 0 = true ∧ ((due 1).toCycle 1).emc.due.getLsbD 1 = true ∧
    ((due 2).toCycle 50).emc.due.getLsbD 2 = true ∧ ((due 2).toCycle 50).emcRuns = true ∧ ((due 2).toCycle 50).role = 1 ∧
    (master.toCycle 50).emc.due.getLsbD 2 = false := by decide

theorem test_wit_RigRowsExchangeJudgeAndPulse3 :
    (up.toCycle 3).fld EMC_EARM 0 8 = 0 ∧ (up.setFld EMC_EARM 0 8 1).fld EMC_EARM 0 8 = 2 ^ 0 ∧
    (armable.armCheck 0).isOk = true ∧ (up.armCheck 0).isOk = false ∧ armable.cmd.abort = none ∧
    aborting.cmd.abort.isSome = true ∧ (up.setBit EMC_CFG 13 true).bit EMC_CFG 13 = true ∧ up.bit EMC_CFG 13 = false ∧
    up.calBusy 4 = false ∧ 50 * 5 ≤ (250 + 2 ^ 56 - (up.reg72 TIM_EDGE_Q0).toNat / 65536 % 2 ^ 56) % 2 ^ 56 ∧
    (250 + 2 ^ 56 - (up.reg72 TIM_EDGE_Q0).toNat / 65536 % 2 ^ 56) % 2 ^ 56 < 53 * 5 := by decide

theorem test_wit_StoreRowsSaveRecallAndVerify :
    (storeAt (.saving 31 false false false)).store.op = .saving 31 false false false ∧
    (storeAt (.saving 31 true true true)).store.buf.length ≤ 65536 ∧
    (storeAt (.reading 6 false)).store.op = .reading 6 false ∧ (storeAt (.applyWait 1 true)).store.op = .applyWait 1 true ∧
    up.store.op = .idle := by decide

theorem test_wit_StoreRowsSaveRecallAndVerify2 :
    up.useCopy 7 = none ∧ (up.copyEmpty 7 false && up.copyEmpty 7 true) = true ∧
    (stored 0 (List.replicate 8 0)).copyValid 0 false = true ∧ (stored 7 [0, 0]).useCopy 7 = some false ∧
    (stored 1 (List.replicate 16 0)).useCopy 1 = some false ∧
    (up.modStore fun x => { x with words := [(copyAt 7 false, 1)] }).copyEmpty 7 false = false := by decide +kernel

theorem test_wit_StepTakesTheFrontCommand :
    { up with pending := [.powerOnReset, .abortDrained] }.pending = .powerOnReset :: [.abortDrained] := by decide

theorem test_wit_IdleStepPassesOneCycle :
    up.pending = [] ∧ up.live = true ∧ up.tide.cycle + 1 < up.tide.len ∧ up.quiet = true ∧ up.creeps = false ∧
    busyYard.quiet = false ∧ busyYard.tide.cycle + 1 < busyYard.tide.len ∧ stopped.live = false ∧
    { up.tide with cycle := 99 }.len ≤ 99 + 1 ∧ sweeping.creeps = true := by decide

theorem test_wit_EveryStepKeepsTheStoresCanonical :
    State.reset.wf = true ∧ (match step State.reset with | .next t => t.wf | _ => false) = true := by decide

theorem test_wit_NothingActsWithoutRclkOrUnderReset :
    actsUnclocked .tideEdge = false ∧ stopped.live = false := by decide

theorem test_wit_PortsDiscardOrRefuseLines :
    linePort (.sysTide 2 100) = some 2 ∧ (up.setDom .host 0).portUp 2 = false ∧ full.live = true ∧ full.portUp 2 = true ∧
    16 ≤ (full.port 2).lines ∧ Takes up 2 ∧ argsBad (.sysTide 2 801) = some 1 := by decide

theorem test_wit_EventsAreDeliveredAndSettlingKeepsTheRest :
    routed.routeFires 31 63 = true ∧ up.routeFires 31 63 = false ∧ routed.deliveriesTo 0 [63] = [1] ∧ up.cmd.abort = none ∧
    aborting.cmd.abort.isSome = true ∧ (armable.armCheck 0).isOk = true ∧ (up.armCheck 0).isOk = false ∧
    (255 : Nat).testBit 7 = true ∧ up.chanPowered 7 = true ∧ up.bit (YRD_LOG_MASK (63 / 32)) (63 % 32) = false ∧
    (up.setRegN (YRD_LOG_MASK 1) 0xFFFFFFFF).bit (YRD_LOG_MASK (63 / 32)) (63 % 32) = true ∧
    routed.matched [63] 0 = some (0, 1, 1) ∧ up.matched [63] 0 = none ∧ busyYard.codes = [1, 63] ∧
    taskDue.yard.second = ⟨[(0, 1, 1)], 0⟩ ∧ up.yard.second.tasks = [] ∧
    (∀ g : Fin 8, up.engRuns g = true ∨ (up.eng g).still = true) ∧ up.store.op = .idle := by decide

theorem test_wit_BoundariesDiscardApplyOrIgnoreWrites :
    up.reg SYS_EPOCH ≠ 7 ∧ (∃ r, regRow PMX_GPO = some r ∧ r.ta ≠ 0) ∧ PMX_GPO ≠ PWR_TARGET ∧ PMX_GPO ≠ TRL_APPLY ∧
    up.dom (regDom PMX_GPO) ≠ 3 ∧ allows up [⟨PMX_GPO, taMask PMX_GPO, 5, 0⟩] = true ∧ (up.setDom .aon 3).dom .aon = 3 ∧
    (∃ r, regRow SYS_TIDE_LEN = some r ∧ r.ta ≠ 0) ∧ SYS_TIDE_LEN ≠ PWR_TARGET ∧
    errOf up [⟨SYS_TIDE_LEN, taMask SYS_TIDE_LEN, 50, 0⟩] ≠ 0 := by decide

/-! ### Worked examples of the spec -/

/-- Unit 0 of the example rig: four channels at factor 2; group 0 and the directory as line #40 of the Damisk command
reference's example sets them, DOCK0 trained with 8 Gb devices in two ranks; sample 0 of channels 0 and 1 at count 500 000 000,
fraction 0x4000 (the examples of the Dock, of capture and of the Pilot). -/
def rig0 : State :=
  ((((((((up.setRegN BRT_ROUTE 0xBBAA9988).setFld (ACQ_G_CFG 0) 8 8 0x0F).setRegN (ACQ_G_PRE 0) 1000).setRegN (ACQ_G_POST 0)
    3000).setFld (ACQ_G_CFG 0) 4 2 0).setRegN (ACQ_G_SIZE 0) 67108864).setFld MAN_DIR_CFG 0 2 0).setReg72 (BRT_T0_Q0 0)
    (BitVec.ofNat 72 (500000000 * 65536 + 0x4000))).setReg72 (BRT_T0_Q0 1) (BitVec.ofNat 72 (500000000 * 65536 + 0x4000))

/-- CLK:ACLK 480M is FCW 0x4CCC_CCCC_CCCD (R86 and the example of Lighthouse-A). -/
theorem test_parseAclk : parseLine forms 0 (asc "CLK:ACLK 480M") = (none, .units [.row (.clkAclk 0 0x4CCCCCCCCCCD)]) := by
  decide +kernel

/-- SLI resolves to SLIP and STO to STORE; SL and ST are refused (R84). "1.5k" is an integer and "1.5" is not (R86). -/
theorem test_parseNames : parseLine forms 0 (asc "sli:value 3,1.5k") = (none, .units [.row (.slipValue 0 3 1500)]) ∧
    parseLine forms 0 (asc "#7 STO:STAT?") = (some 7, .units [.row (.storeStatQuery 0)]) ∧
    (match (parseLine forms 0 (asc "SL:VALUE 3,1")).2 with | .err e u _ _ => e == 101 && u == 1 | _ => false) = true ∧
    (match (parseLine forms 0 (asc "SYS:TIDE 100.5")).2 with | .err e u a _ => e == 104 && u == 1 && a == 1 | _ => false) = true := by
  decide +kernel

/-- The line #40 of the example, its four units in order (R82). -/
theorem test_parseLine40 :
    parseLine forms 2 (asc "#40 SEG:DIR DOCK0,100000000,1024;ACQ:GROUP 0,SEGMENT,0x0F;SEG:LEN 0,1000,3000;ACQ:MEM 0,DOCK0,0,67108864") =
      (some 40, .units [.row (.segDir 2 .dock0 100000000 1024), .row (.acqGroup 2 0 false 15), .row (.segLen 2 0 1000 3000),
        .row (.acqMem 2 0 .dock0 0 67108864)]) := by decide +kernel

/-- One capture group at two speed grades: 61 and 8 units, 93 against 90 with 24 Ferry units, 90 with 21; with the directory
in QBUF the Manifest takes 4. -/
theorem test_calendarExample : rig0.charge 0 0 = 61 ∧ rig0.charge 0 8 = 8 ∧ rig0.dckCap = 90 ∧
    errOf rig0 [chg (DCK_CH_FERRY 0) 0 7 24] = 301 ∧ allows rig0 [chg (DCK_CH_FERRY 0) 0 7 21] = true ∧
    (rig0.setFld MAN_DIR_CFG 0 2 2).charge 0 8 = 4 ∧ (rig0.setFld CLK_LHS_CFG 28 2 1).dckCap = 75 ∧
    (rig0.setFld CLK_LHS_CFG 28 2 2).dckCap = 45 := by decide +kernel

/-- The trigger of the Pilot's example lies at sample 246, fraction 0x6000; that of capture's example is 12 345 and 0x6000. -/
theorem test_placeExample :
    rig0.place 1 ⟨9, BitVec.ofNat 72 (500000123 * 65536 + 0x7000), none, false, false⟩ =
      some (246, 0x6000, BitVec.ofNat 72 (500000123 * 65536 + 0x7000)) ∧
    rig0.place 0 ⟨9, BitVec.ofNat 72 (500006172 * 65536 + 0xF000), none, false, false⟩ =
      some (12345, 0x6000, BitVec.ofNat 72 (500006172 * 65536 + 0xF000)) := by decide +kernel

/-- The segments of S1: records of 4008 words, 16 743 of them; s 11 344 and e 15 343; the next ready sample 16 368; dead times of
1001 ns and 1025 ns. -/
theorem test_segmentExample : rig0.recLen 0 = 4008 ∧ rig0.recs 0 = 16743 ∧ rig0.nextReady 0 15343 = 16368 ∧
    rig0.deadTime 0 1001 = 1001 * 32768 ∧ rig0.deadTime 0 1025 = 512 * 65536 + 0x8000 ∧
    ((((rig0.takeSeg 0 ⟨0, 0x6000, 12345, 9, false, false⟩).grp 0).seg.map fun x => (x.s, x.e, x.recNo)) =
      some (11344, 15343, 0)) := by decide +kernel

/-- One tide of the S1 pair: E_0 = -1 with its mantissas, 69 from the stage, and the step of the integrator. -/
theorem test_sluiceExample : normalise [⟨75, -2⟩, ⟨-5, -1⟩, ⟨0, 0⟩] = some (-1, [393216, -262144, 0]) ∧
    normA ⟨-25, -2⟩ = some (-65536) ∧ normalise [⟨1, -2⟩] = some (-7, [335544]) ∧
    (stageStep 393216 (-262144) 0 (-65536) 0 (-1) 152 ⟨140, 0, 100, 0⟩).1 = 69 ∧ shiftE (335544 * 152) (-1) = 25501344 := by
  decide +kernel

/-- CRC-32C of the nine characters 1 to 9 is its published check value. -/
theorem test_crc : crc32c ((List.range 9).map (· + 0x31)) = 0xE3069283 := by decide +kernel

/-- A step takes the command in front and leaves the rest. -/
theorem test_step : (match step { up with pending := [.sysEcho 0 false, .abortDrained] } with
    | .next t => t.pending == [.abortDrained] && t.bit (CMD_PCFG 0) 0 == false && t.regN SYS_EPOCH == 1
    | _ => false) = true := by decide +kernel

/-- A domain that is OFF may be configured, but nothing acts on it (R555). -/
theorem test_armRefusedWithoutDomain : errOf (up.setDom .acq 0) [chg (ACQ_G_PRE 0) 0 21 32] = 0 ∧
    (match (up.setDom .acq 0).armCheck 0 with | .error e => errCode e | .ok _ => 0) = 201 := by decide +kernel

end Sys2Proof.Tests
end

section
/-! PROOFS. The ports and the line assembler: what each port operation does to a port, which branch each byte takes, what a
terminator makes of the line, and O32 from these. -/

namespace Sys2Proof.Machine

variable (s : State) (p : Fin 3)

/-! ### Reads of a port -/

/-- A port read back. -/
@[simp] theorem port_setPort (x : PortSt) : (s.setPort p x).port p = x := by
  match p with
  | 0 | 1 | 2 => rfl

@[simp] theorem setPort_setPort (x y : PortSt) : (s.setPort p x).setPort p y = s.setPort p y := by
  match p with
  | 0 | 1 | 2 => rfl

/-- The ports are part of the command state. -/
theorem port_of_cmd {s t : State} (h : s.cmd = t.cmd) (p : Fin 3) : s.port p = t.port p := by
  unfold State.port; rw [h]

@[simp] theorem port_count (off n : Nat) : (s.count off n).port p = s.port p := port_of_cmd (State.count_cmd s off n) p

@[simp] theorem port_setErr (q : Fin 3) (code unit arg : Nat) : (s.setErr q code unit arg).port p = s.port p :=
  port_of_cmd (State.setRegN_cmd s _ _) p

/-- Starting the UART transmitter changes no port. -/
@[simp] theorem port_uartKick : s.uartKick.port p = s.port p := by
  unfold State.uartKick
  split <;> rfl

/-- An echo changes the output buffer of its port and whether that stands at the start of a line, and nothing else of it. -/
theorem port_echo_eq (bs : List Byte) :
    ∃ out start, (s.echo p bs).port p = { s.port p with out := out, atLineStart := start } := by
  unfold State.echo State.outAppend
  split
  · exact ⟨_, _, by rw [port_uartKick, port_setPort]⟩
  · exact ⟨_, _, rfl⟩

@[simp] theorem port_echo_chars (bs : List Byte) : ((s.echo p bs).port p).chars = (s.port p).chars := by
  obtain ⟨out, start, h⟩ := port_echo_eq s p bs; rw [h]

@[simp] theorem port_echo_tooLong (bs : List Byte) : ((s.echo p bs).port p).tooLong = (s.port p).tooLong := by
  obtain ⟨out, start, h⟩ := port_echo_eq s p bs; rw [h]

@[simp] theorem port_echo_lastCR (bs : List Byte) : ((s.echo p bs).port p).lastCR = (s.port p).lastCR := by
  obtain ⟨out, start, h⟩ := port_echo_eq s p bs; rw [h]

@[simp] theorem port_echo_queue (bs : List Byte) : ((s.echo p bs).port p).queue = (s.port p).queue := by
  obtain ⟨out, start, h⟩ := port_echo_eq s p bs; rw [h]

/-- A line put into the queue is its last, and the rest of the port stays. -/
@[simp] theorem port_enqueue (l : Line) :
    (s.enqueue p l).port p = { s.port p with queue := (s.port p).queue ++ [l] } := port_setPort s p _

/-- A clear assembler keeps all of the port but the partial line. -/
theorem PortSt.cleared_eq (x : PortSt) : x.cleared = { x with chars := [], tooLong := false, linkErr := false } := rfl

/-! ### Storing and removing a character (R78, R80) -/

variable {s p}

theorem storeChar_room (c e : Byte) (hl : (s.port p).tooLong = false) (hn : (s.port p).chars.length < 255) :
    s.storeChar p c e = (s.setPort p { s.port p with chars := (s.port p).chars ++ [c] }).echo p [e] := by
  simp [State.storeChar, hl, Nat.ne_of_lt hn]

theorem storeChar_full (c e : Byte) (hl : (s.port p).tooLong = false) (hn : (s.port p).chars.length = 255) :
    s.storeChar p c e = s.setPort p { s.port p with tooLong := true } := by
  simp [State.storeChar, hl, hn]

theorem storeChar_tooLong (c e : Byte) (hl : (s.port p).tooLong = true) : s.storeChar p c e = s := by
  simp [State.storeChar, hl]

theorem eraseChar_none (h : (s.port p).chars = []) : s.eraseChar p = s := by
  simp [State.eraseChar, h]

theorem eraseChar_some (h : (s.port p).chars ≠ []) :
    s.eraseChar p = (s.setPort p { s.port p with chars := (s.port p).chars.dropLast }).echo p [0x08, 0x20, 0x08] := by
  simp [State.eraseChar, h]

/-- A removal leaves an initial part of the line, and neither the mark nor the queue changes. -/
theorem port_eraseChar (s : State) (p : Fin 3) :
    ((s.eraseChar p).port p).chars <+: (s.port p).chars ∧ ((s.eraseChar p).port p).tooLong = (s.port p).tooLong ∧
      ((s.eraseChar p).port p).queue = (s.port p).queue := by
  by_cases h : (s.port p).chars = []
  · rw [eraseChar_none h]
    exact ⟨List.prefix_rfl, rfl, rfl⟩
  · rw [eraseChar_some h]
    simp [List.dropLast_prefix]

/-! ### The end of a line (R79, R80, R97, R112) -/

/-- A line too long is answered ER 103 in its place, with no slot, and the error is recorded. -/
theorem lineEnd_tooLong (hl : (s.port p).tooLong = true) :
    s.lineEnd p = (((s.setPort p (s.port p).cleared).echo p crlf).enqueue p
      ⟨tagOf (s.port p).chars, .answered (.er 103 true), false⟩).setErr p 103 1 0 := by
  simp [State.lineEnd, hl]

/-- A line of spaces that no link error hit is no line. -/
theorem lineEnd_blank (hl : (s.port p).tooLong = false) (he : (s.port p).linkErr = false)
    (hb : (s.port p).chars.all (· == 0x20) = true) :
    s.lineEnd p = (s.setPort p (s.port p).cleared).echo p crlf := by
  unfold State.lineEnd
  rw [if_neg (by simp [hl]), if_pos (by rw [he, hb]; rfl)]

/-- A line that is neither too long nor blank: whether a slot is free decides. -/
theorem lineEnd_line (hl : (s.port p).tooLong = false)
    (hb : (s.port p).linkErr = true ∨ (s.port p).chars.all (· == 0x20) = false) :
    s.lineEnd p = if (s.port p).lines ≥ 16 then
        s.setPort p { (s.port p).cleared with
          turned := (s.port p).turned ++ [⟨none, .text (s.port p).chars (s.port p).linkErr, true⟩] }
      else ((s.setPort p (s.port p).cleared).echo p crlf).enqueue p
        ⟨none, .text (s.port p).chars (s.port p).linkErr, true⟩ := by
  have hline : ¬(!(s.port p).linkErr && (s.port p).chars.all (· == 0x20)) = true := by
    rcases hb with h | h <;> simp only [h] <;> simp
  unfold State.lineEnd
  rw [if_neg (by simp [hl]), if_neg hline, port_setPort, setPort_setPort]

/-! ### The branches of the assembler (R78, R79) -/

/-- The port has noted whether its last byte was a CR. -/
def State.noteCR (s : State) (p : Fin 3) (b : Byte) : State := s.setPort p { s.port p with lastCR := b == 0x0D }

@[simp] theorem port_noteCR (s : State) (p : Fin 3) (b : Byte) :
    (s.noteCR p b).port p = { s.port p with lastCR := b == 0x0D } := port_setPort s p _

theorem noteCR_of_ne {b : Byte} (h : b ≠ 0x0D) : s.noteCR p b = s.setPort p { s.port p with lastCR := false } := by
  unfold State.noteCR
  rw [beq_false_of_ne h]

/-- Only a terminator ends a line of ABORT. -/
theorem endsAbort_of_not_terminator {b : Byte} (hcr : b ≠ 0x0D) (hlf : b ≠ 0x0A) : s.endsAbort p b = false := by
  unfold State.endsAbort
  rw [beq_false_of_ne hcr, beq_false_of_ne hlf]
  rfl

/-- An LF behind a CR ends nothing. -/
theorem endsAbort_lf_of_lastCR (h : (s.port p).lastCR = true) : s.endsAbort p 0x0A = false := by
  simp [State.endsAbort, h]

/-- A line too long is not one of ABORT alone. -/
theorem endsAbort_of_tooLong (b : Byte) (h : (s.port p).tooLong = true) : s.endsAbort p b = false := by
  simp [State.endsAbort, h]

/-- A byte that takes no abort goes to the assembler. -/
theorem rxByte_asmByte {b : Byte} (hcan : b ≠ 0x18) (ha : s.endsAbort p b = false) : s.rxByte p b = s.asmByte p b := by
  unfold State.rxByte
  rw [if_neg (by simpa using hcan), if_neg (by simp [ha])]

/-- 0x18 takes an abort (R100). -/
theorem rxByte_cancel : s.rxByte p 0x18 = (s.noteCR p 0x18).takeAbort := rfl

/-- The terminator of a line of ABORT alone takes an abort (R100). -/
theorem rxByte_abort {b : Byte} (hcan : b ≠ 0x18) (ha : s.endsAbort p b = true) :
    s.rxByte p b = (s.noteCR p b).takeAbort := by
  unfold State.rxByte
  rw [if_neg (by simpa using hcan), if_pos ha]
  rfl

/-- A CR that ends no line of ABORT ends the partial line. -/
theorem rxByte_cr (ha : s.endsAbort p 0x0D = false) : s.rxByte p 0x0D = (s.noteCR p 0x0D).lineEnd p :=
  rxByte_asmByte (by decide) ha

/-- An LF behind a CR is dropped (R79). -/
theorem rxByte_lf_of_lastCR (h : (s.port p).lastCR = true) : s.rxByte p 0x0A = s.noteCR p 0x0A := by
  rw [rxByte_asmByte (by decide) (endsAbort_lf_of_lastCR h)]
  simp [State.asmByte, State.noteCR, h]

/-- The characters with a meaning of their own to the assembler. -/
def editChars : List Byte := [0x08, 0x7F, 0x09, 0x0A, 0x0D, 0x18]

/-- What a character with no meaning of its own does: its code decides. -/
theorem rxByte_plain {b : Byte} (h : b ∉ editChars) :
    s.rxByte p b = if b.toNat < 0x20 then s.noteCR p b
      else if b.toNat < 0x7F then (s.noteCR p b).storeChar p b b else (s.noteCR p b).storeChar p b 0x3F := by
  simp only [editChars, List.mem_cons, List.not_mem_nil, or_false, not_or] at h
  obtain ⟨hbs, hdel, htab, hlf, hcr, hcan⟩ := h
  rw [rxByte_asmByte hcan (endsAbort_of_not_terminator hcr hlf)]
  unfold State.asmByte
  rw [if_neg (by simpa using ⟨hbs, hdel⟩), if_neg (by simpa using htab), if_neg (by simpa using hlf),
    if_neg (by simpa using hcr)]
  rfl

/-- A character above 0x1F other than 0x7F has no meaning of its own. -/
theorem notMem_editChars {b : Byte} (hlo : 0x20 ≤ b.toNat) (hdel : b.toNat ≠ 0x7F) : b ∉ editChars := by
  have hcodes : ∀ c ∈ editChars, c.toNat < 0x20 ∨ c.toNat = 0x7F := by decide
  intro hb
  have := hcodes b hb
  omega

/-- A printing character is stored and echoed as it is. -/
theorem rxByte_printing {b : Byte} (hlo : 0x20 ≤ b.toNat) (hhi : b.toNat < 0x7F) :
    s.rxByte p b = (s.noteCR p b).storeChar p b b := by
  rw [rxByte_plain (notMem_editChars hlo (by omega)), if_neg (by omega), if_pos hhi]

/-- A character above 0x7F is stored as it is and echoed as a question mark. -/
theorem rxByte_high {b : Byte} (h : 0x7F < b.toNat) : s.rxByte p b = (s.noteCR p b).storeChar p b 0x3F := by
  rw [rxByte_plain (notMem_editChars (by omega) (by omega)), if_neg (by omega), if_neg (by omega)]

/-- A tab stores a space. -/
theorem rxByte_tab : s.rxByte p 0x09 = (s.noteCR p 0x09).storeChar p 0x20 0x20 :=
  rxByte_asmByte (by decide) (endsAbort_of_not_terminator (by decide) (by decide))

/-- 0x08 and 0x7F remove a character. -/
theorem rxByte_erase {b : Byte} (h : b ∈ [(0x08 : Byte), 0x7F]) : s.rxByte p b = (s.noteCR p b).eraseChar p := by
  simp only [List.mem_cons, List.not_mem_nil, or_false] at h
  rcases h with rfl | rfl <;>
    exact rxByte_asmByte (by decide) (endsAbort_of_not_terminator (by decide) (by decide))

/-- The other control characters are dropped. -/
theorem rxByte_control {b : Byte} (hlo : b.toNat < 0x20) (h : b ∉ [(0x08 : Byte), 0x09, 0x0A, 0x0D, 0x18]) :
    s.rxByte p b = s.setPort p { s.port p with lastCR := false } := by
  simp only [List.mem_cons, List.not_mem_nil, or_false, not_or] at h
  obtain ⟨hbs, htab, hlf, hcr, hcan⟩ := h
  have hdel : b ≠ 0x7F := by rintro rfl; exact absurd hlo (by decide)
  have hedit : b ∉ editChars := by
    simp only [editChars, List.mem_cons, List.not_mem_nil, or_false, not_or]
    exact ⟨hbs, hdel, htab, hlf, hcr, hcan⟩
  rw [rxByte_plain hedit, if_pos hlo, noteCR_of_ne hcr]

/-- Every character but 0x7F that is no control character, and a tab, are stored (R78). -/
theorem rxByte_stored {b : Byte} (h : (0x20 ≤ b.toNat ∧ b.toNat ≠ 0x7F) ∨ b = 0x09) :
    ∃ c e, s.rxByte p b = (s.noteCR p b).storeChar p c e := by
  rcases h with ⟨hlo, hdel⟩ | rfl
  · rcases Nat.lt_or_gt_of_ne hdel with hhi | hhi
    · exact ⟨_, _, rxByte_printing hlo hhi⟩
    · exact ⟨_, _, rxByte_high hhi⟩
  · exact ⟨_, _, rxByte_tab⟩

/-- A byte that ends no line and takes no abort removes a character, stores one, or is dropped. -/
theorem edits_stores_or_drops {b : Byte} (h : b ∉ [(0x0A : Byte), 0x0D, 0x18]) :
    b ∈ [(0x08 : Byte), 0x7F] ∨ ((0x20 ≤ b.toNat ∧ b.toNat ≠ 0x7F) ∨ b = 0x09) ∨
      (b.toNat < 0x20 ∧ b ∉ [(0x08 : Byte), 0x09, 0x0A, 0x0D, 0x18]) := by
  simp only [List.mem_cons, List.not_mem_nil, or_false] at h ⊢
  bv_omega

/-! ### A blank line -/

/-- No character of a line of spaces is left without its leading spaces. -/
theorem dropWhile_blank {cs : List Byte} (h : cs.all (· == 0x20) = true) : cs.dropWhile (· == 0x20) = [] := by
  induction cs with
  | nil => rfl
  | cons c t ih =>
    rw [List.all_cons, Bool.and_eq_true] at h
    obtain ⟨hc, ht⟩ := h
    exact (List.dropWhile_cons_of_pos (p := (· == 0x20)) hc).trans (ih ht)

/-- A line of spaces reads as an empty one. -/
theorem readTag_blank {cs : List Byte} (h : cs.all (· == 0x20) = true) : readTag cs = readTag [] := by
  unfold readTag
  rw [dropWhile_blank h]
  rfl

/-- An empty header names no form, so a blank line is not one of ABORT. -/
theorem abortLine_blank {cs : List Byte} (h : cs.all (· == 0x20) = true) : abortLine cs = false := by
  have hempty : abortLine [] = false := by decide
  unfold abortLine parseLine at hempty ⊢
  rw [readTag_blank h]
  exact hempty

/-- So the CR of a blank line takes no abort. -/
theorem endsAbort_of_blank (b : Byte) (h : (s.port p).chars.all (· == 0x20) = true) : s.endsAbort p b = false := by
  simp only [State.endsAbort, abortLine_blank h, Bool.and_false]

/-! ### What a byte leaves in the port -/

/-- A printing character joins the partial line and is echoed. -/
theorem rxByte_printing_stores {b : Byte} (hlo : 0x20 ≤ b.toNat) (hhi : b.toNat < 0x7F) (hl : (s.port p).tooLong = false)
    (hn : (s.port p).chars.length < 255) :
    ∃ u : State, (u.port p).chars = (s.port p).chars ++ [b] ∧ (u.port p).queue = (s.port p).queue ∧
      s.rxByte p b = u.echo p [b] := by
  refine ⟨_, ?_, ?_, (rxByte_printing hlo hhi).trans (storeChar_room b b (by simpa using hl) (by simpa using hn))⟩ <;> simp

/-- A tab puts a space into the partial line and echoes one. -/
theorem rxByte_tab_stores (hl : (s.port p).tooLong = false) (hn : (s.port p).chars.length < 255) :
    ∃ u : State, (u.port p).chars = (s.port p).chars ++ [0x20] ∧ s.rxByte p 0x09 = u.echo p [0x20] :=
  ⟨_, by simp, rxByte_tab.trans (storeChar_room _ _ (by simpa using hl) (by simpa using hn))⟩

/-- 0x08 and 0x7F take the last character back and rub it out. -/
theorem rxByte_erase_removes {b : Byte} (hb : b ∈ [(0x08 : Byte), 0x7F]) (hne : (s.port p).chars ≠ []) :
    ∃ u : State, (u.port p).chars = (s.port p).chars.dropLast ∧ s.rxByte p b = u.echo p [0x08, 0x20, 0x08] :=
  ⟨_, by simp, (rxByte_erase hb).trans (eraseChar_some (by simpa using hne))⟩

/-- The 256th character marks the line too long; nothing is stored and nothing is echoed (R80). -/
theorem rxByte_marks_tooLong {b : Byte} (hb : (0x20 ≤ b.toNat ∧ b.toNat ≠ 0x7F) ∨ b = 0x09)
    (hl : (s.port p).tooLong = false) (hn : (s.port p).chars.length = 255) :
    ((s.rxByte p b).port p).tooLong = true ∧ ((s.rxByte p b).port p).chars = (s.port p).chars ∧
      ((s.rxByte p b).port p).out = (s.port p).out := by
  obtain ⟨c, e, h⟩ := rxByte_stored (s := s) (p := p) hb
  rw [h, storeChar_full c e (by simpa using hl) (by simpa using hn)]
  simp

/-- A line too long stays so whatever editing follows, and editing stores nothing more and queues nothing (R80). -/
theorem rxByte_keeps_tooLong {b : Byte} (hb : b ∉ [(0x0A : Byte), 0x0D, 0x18]) (hl : (s.port p).tooLong = true) :
    ((s.rxByte p b).port p).tooLong = true ∧ ((s.rxByte p b).port p).chars <+: (s.port p).chars ∧
      ((s.rxByte p b).port p).queue = (s.port p).queue := by
  rcases edits_stores_or_drops hb with herase | hstore | ⟨hlo, hctrl⟩
  · obtain ⟨hchars, hlong, hqueue⟩ := port_eraseChar (s.noteCR p b) p
    rw [rxByte_erase herase]
    exact ⟨by simpa [hl] using hlong, by simpa using hchars, by simpa using hqueue⟩
  · obtain ⟨c, e, h⟩ := rxByte_stored (s := s) (p := p) hstore
    rw [h, storeChar_tooLong c e (by simpa using hl)]
    simp [hl]
  · rw [rxByte_control hlo hctrl]
    simp [hl]

/-- A CR queues a line that finds a slot. -/
theorem rxByte_cr_queues (ha : s.endsAbort p 0x0D = false) (hl : (s.port p).tooLong = false) (hq : (s.port p).lines < 16)
    (hb : (s.port p).linkErr = true ∨ (s.port p).chars.all (· == 0x20) = false) :
    ((s.rxByte p 0x0D).port p).queue = (s.port p).queue ++ [⟨none, .text (s.port p).chars (s.port p).linkErr, true⟩] ∧
      ((s.rxByte p 0x0D).port p).chars = [] ∧ ((s.rxByte p 0x0D).port p).lastCR = true := by
  rw [rxByte_cr ha, lineEnd_line (by simpa using hl) (by simpa using hb)]
  have hslot : ¬((s.noteCR p 0x0D).port p).lines ≥ 16 := by simpa [PortSt.lines] using hq
  rw [if_neg hslot]
  simp [PortSt.cleared_eq]

/-- A CR turns away a line that finds all 16 slots taken (R97, R108). -/
theorem rxByte_cr_turns_away (ha : s.endsAbort p 0x0D = false) (hl : (s.port p).tooLong = false)
    (hq : 16 ≤ (s.port p).lines) (hb : (s.port p).linkErr = true ∨ (s.port p).chars.all (· == 0x20) = false) :
    ((s.rxByte p 0x0D).port p).queue = (s.port p).queue ∧ ((s.rxByte p 0x0D).port p).chars = [] ∧
      ((s.rxByte p 0x0D).port p).turned =
        (s.port p).turned ++ [⟨none, .text (s.port p).chars (s.port p).linkErr, true⟩] := by
  rw [rxByte_cr ha, lineEnd_line (by simpa using hl) (by simpa using hb)]
  have hslot : ((s.noteCR p 0x0D).port p).lines ≥ 16 := by simpa [PortSt.lines] using hq
  rw [if_pos hslot]
  simp [PortSt.cleared_eq]

/-- A CR behind a blank line queues nothing. -/
theorem rxByte_cr_blank (hl : (s.port p).tooLong = false) (he : (s.port p).linkErr = false)
    (hb : (s.port p).chars.all (· == 0x20) = true) :
    ((s.rxByte p 0x0D).port p).queue = (s.port p).queue ∧ ((s.rxByte p 0x0D).port p).chars = [] := by
  rw [rxByte_cr (endsAbort_of_blank _ hb), lineEnd_blank (by simpa using hl) (by simpa using he) (by simpa using hb)]
  simp [PortSt.cleared_eq]

/-- A CR behind a line too long refuses it with ER 103, and it takes no slot (R80). -/
theorem rxByte_cr_refuses_tooLong (hl : (s.port p).tooLong = true) :
    ∃ l : Line, l.st = .answered (.er 103 true) ∧ l.slot = false ∧
      ((s.rxByte p 0x0D).port p).queue = (s.port p).queue ++ [l] ∧ (s.rxByte p 0x0D).fld (CMD_ERR p) 0 10 = 103 := by
  refine ⟨⟨tagOf (s.port p).chars, _, _⟩, rfl, rfl, ?_⟩
  rw [rxByte_cr (endsAbort_of_tooLong _ hl), lineEnd_tooLong (by simpa using hl)]
  constructor
  · simp [PortSt.cleared_eq]
  · exact fld_setRegN _ _ _ _ _

/-- As the edge ends, the lines turned away are discarded and counted, and an ER 102 is owed (R97). -/
theorem dropTurned_discards (h : (s.port p).turned ≠ []) :
    ((s.dropTurned p).port p).turned = [] ∧ ((s.dropTurned p).port p).owed = true ∧
      ((s.dropTurned p).port p).queue = (s.port p).queue ∧
      (s.dropTurned p).regN (CMD_DROP p) = satAdd 0xFFFFFFFF (s.regN (CMD_DROP p)) (s.port p).turned.length := by
  have hdrop : s.dropTurned p =
      (s.setPort p { s.port p with turned := [], owed := true }).count (CMD_DROP p) (s.port p).turned.length := by
    simp [State.dropTurned, h]
  rw [hdrop, regN_count, if_pos rfl, regN_of_regs (State.setPort_regs s p _)]
  simp

/-- Settles O32: each clause is the rule of the byte, the terminator or the edge it speaks of. -/
theorem assemblerFollowsTheBytes : Obligations.AssemblerFollowsTheBytes :=
  ⟨fun _ _ => rxByte_cancel,
    fun _ _ _ => rxByte_abort,
    fun _ _ _ => rxByte_printing_stores,
    fun _ _ => rxByte_tab_stores,
    fun _ _ _ => rxByte_erase_removes,
    fun _ _ _ => rxByte_control,
    fun _ _ _ => rxByte_marks_tooLong,
    fun _ _ _ => rxByte_keeps_tooLong,
    fun _ _ => rxByte_lf_of_lastCR,
    fun _ _ => rxByte_cr_queues,
    fun _ _ => rxByte_cr_turns_away,
    fun _ _ => dropTurned_discards,
    fun _ _ => State.dropTurned_none,
    fun _ _ => rxByte_cr_blank,
    fun _ _ => rxByte_cr_refuses_tooLong⟩

end Sys2Proof.Machine
end

section
/-! PROOFS. Resets: what a unit reset leaves, what a HOST-only PERST# leaves, what the release publishes, and O28 from these. -/

namespace Sys2Proof.Machine

/-! ### Rows that act without RCLK too -/

/-- Under an asserted reset nothing that follows an edge takes place (R182). -/
theorem live_of_held {s : State} (h : s.pwr.held = true) : s.live = false := by
  simp [State.live, h]

theorem held_of_live {s : State} (h : s.live = true) : s.pwr.held = false := by
  cases hh : s.pwr.held with
  | false => rfl
  | true => rw [live_of_held hh] at h; exact h.symm

theorem anyRow_eq (s : State) (f : State → State) :
    s.anyRow f = .next (if (f s).live = true then (f s).settle else f s) := rfl

theorem anyRow_live {s : State} {f : State → State} (h : (f s).live = true) : s.anyRow f = .next (f s).settle := by
  rw [anyRow_eq, if_pos h]

theorem anyRow_held {s : State} {f : State → State} (h : (f s).pwr.held = true) : s.anyRow f = .next (f s) := by
  rw [anyRow_eq, if_neg (by simp [live_of_held h])]

/-! ### A save cut by a reset (R542) -/

@[simp] theorem storePut_regs (ws : List Word) (s : State) (a : Nat) : (s.storePut a ws).regs = s.regs := by
  induction ws generalizing s a with
  | nil => rfl
  | cons w t ih => exact ih _ _

@[simp] theorem storePut_pwr (ws : List Word) (s : State) (a : Nat) : (s.storePut a ws).pwr = s.pwr := by
  induction ws generalizing s a with
  | nil => rfl
  | cons w t ih => exact ih _ _

/-- The store's array does not depend on the power state. -/
theorem storePut_modPwr (f : PwrSt → PwrSt) (ws : List Word) (s : State) (a : Nat) :
    (s.modPwr f).storePut a ws = (s.storePut a ws).modPwr f := by
  induction ws generalizing s a with
  | nil => rfl
  | cons w t ih =>
    rw [State.storePut, State.storePut, ← ih]
    rfl

@[simp] theorem saveCut_regs (s : State) : s.saveCut.regs = s.regs := by
  unfold State.saveCut
  split
  · exact storePut_regs _ _ _
  · rfl

@[simp] theorem saveCut_pwr (s : State) : s.saveCut.pwr = s.pwr := by
  unfold State.saveCut
  split
  · exact storePut_pwr _ _ _
  · rfl

theorem saveCut_modPwr (s : State) (f : PwrSt → PwrSt) : (s.modPwr f).saveCut = s.saveCut.modPwr f := by
  unfold State.saveCut
  rw [State.modPwr_store]
  split
  · exact congrArg (fun t : State => { t with free := s.free + 1 }) (storePut_modPwr f _ s _)
  · rfl

/-! ### A unit reset (R182, R186, R196) -/

/-- Every register but PWR_RST_CAUSE takes its reset value. -/
theorem unitReset_reg (s : State) (off : Nat) :
    s.unitReset.reg off = if off = PWR_RST_CAUSE then s.reg PWR_RST_CAUSE else resetValue off := by
  rw [← reg_of_regs (saveCut_regs s)]
  exact smGet_smSet _ _ _ _ _

@[simp] theorem unitReset_held (s : State) : s.unitReset.pwr.held = s.pwr.held := by
  show s.saveCut.pwr.held = _
  rw [saveCut_pwr]

@[simp] theorem unitReset_causes (s : State) : s.unitReset.pwr.causes = s.pwr.causes := by
  show s.saveCut.pwr.causes = _
  rw [saveCut_pwr]

/-- A source asserts the reset. -/
@[simp] theorem assertReset_held (s : State) (k : Nat) : (s.assertReset k).pwr.held = true := unitReset_held _

/-- A source adds to the causes of a reset in progress, and is the first cause of a new one. -/
theorem assertReset_causes (s : State) (k : Nat) :
    (s.assertReset k).pwr.causes = (if s.pwr.held then s.pwr.causes else 0) ||| 2 ^ k := unitReset_causes _

theorem assertReset_reg {off : Nat} (s : State) (k : Nat) (h : off ≠ PWR_RST_CAUSE) :
    (s.assertReset k).reg off = resetValue off :=
  (unitReset_reg _ off).trans (if_neg h)

theorem assertReset_reg_cause (s : State) (k : Nat) : (s.assertReset k).reg PWR_RST_CAUSE = s.reg PWR_RST_CAUSE :=
  (unitReset_reg _ _).trans (if_pos rfl)

/-- The store keeps its words, but for the copy that a save was writing (R542). -/
theorem assertReset_words (s : State) (k : Nat) : (s.assertReset k).store.words = s.saveCut.store.words := by
  show (State.modPwr s _).saveCut.store.words = _
  rw [saveCut_modPwr, State.modPwr_store]

theorem anyRow_assertReset (s : State) (k : Nat) : s.anyRow (·.assertReset k) = .next (s.assertReset k) :=
  anyRow_held (assertReset_held s k)

/-- A row of a reset source leaves the unit held in reset: registers, ports and tide at their reset values, the cause noted. -/
theorem reset_row_resets {c : Instr} {s : State} {k : Nat} (h : exec c s = s.anyRow (·.assertReset k)) :
    ∃ u, exec c s = .next u ∧ u.pwr.held = true ∧
      u.pwr.causes = (if s.pwr.held then s.pwr.causes else 0) ||| 2 ^ k ∧
      (∀ off, off ≠ PWR_RST_CAUSE → u.reg off = resetValue off) ∧ u.reg PWR_RST_CAUSE = s.reg PWR_RST_CAUSE ∧
      u.cmd.uart.queue = [] ∧ u.cmd.spi.queue = [] ∧ u.tide.number = 0 ∧ u.tide.tb = 0 ∧
      u.store.words = s.saveCut.store.words :=
  ⟨s.assertReset k, h.trans (anyRow_assertReset s k), assertReset_held s k, assertReset_causes s k,
    fun _ => assertReset_reg s k, assertReset_reg_cause s k, rfl, rfl, rfl, rfl, assertReset_words s k⟩

/-! ### PERST# (R182, R185, R609) -/

/-- What each step of a fold keeps, the fold keeps. -/
theorem foldl_pwr {α : Type} {f : State → α → State} (hf : ∀ s a, (f s a).pwr = s.pwr) (l : List α) (s : State) :
    (l.foldl f s).pwr = s.pwr := by
  induction l generalizing s with
  | nil => rfl
  | cons a t ih => exact (ih _).trans (hf s a)

theorem foldS_eq_foldl (f : State → Nat → State) (l : List Nat) (s : State) : foldS f l s = l.foldl f s := by
  induction l generalizing s with
  | nil => rfl
  | cons a t ih => exact ih _

@[simp] theorem bar2Drop_pwr (s : State) (n : Nat) : (s.bar2Drop n).pwr = s.pwr :=
  foldl_pwr (fun s _ => State.ignore_pwr s) _ _

@[simp] theorem bar2Abort_pwr (s : State) (id : Nat) : (s.bar2Abort id).pwr = s.pwr := by
  unfold State.bar2Abort
  split <;> rfl

@[simp] theorem latchDrop_pwr (s : State) : s.latchDrop.pwr = s.pwr := by
  unfold State.latchDrop
  split <;> rfl

@[simp] theorem bar2Cut_pwr (s : State) : s.bar2Cut.pwr = s.pwr := by
  have hreads : ∀ (l : List Bar2Rd) (t : State), (l.foldl (fun u r => u.bar2Abort r.id) t).pwr = t.pwr :=
    foldl_pwr fun u r => bar2Abort_pwr u r.id
  simp only [State.bar2Cut]
  split <;> simp [hreads]

@[simp] theorem ringKill_pwr (s : State) (r : Nat) : (s.ringKill r).pwr = s.pwr := rfl

@[simp] theorem ratesOn_regs (s : State) (f : NewRate → Bool) : (s.ratesOn f).regs = s.regs := rfl
@[simp] theorem ratesOn_mbox (s : State) (f : NewRate → Bool) : (s.ratesOn f).cmd.mbox = s.cmd.mbox := rfl
@[simp] theorem ratesOn_fry (s : State) (f : NewRate → Bool) : (s.ratesOn f).fry = s.fry := rfl
@[simp] theorem ratesOn_bell (s : State) (f : NewRate → Bool) : (s.ratesOn f).bell = s.bell := rfl
@[simp] theorem ratesOn_pwr (s : State) (f : NewRate → Bool) : (s.ratesOn f).pwr = s.pwr := rfl

/-- What a HOST-only PERST# does: the mailbox, the Ferry and the MSI-X settings are at their reset values and the rest of the power
state is as it was, before HOST_RST is set and PERST# noted. -/
theorem hostReset_eq (s : State) : ∃ t : State, t.pwr = s.pwr ∧ t.cmd.mbox = PortSt.reset ∧ t.fry = FrySt.reset ∧
    t.bell.msixEnable = false ∧
    s.hostReset = ((t.flag PWR_RST_CAUSE 8).modPwr fun x => { x with perst := true }).ratesOn (·.port == 2) := by
  have hrings : (foldS State.ringKill (List.range 8) (s.discard .host s.cmd.mbox.lines).bar2Cut).pwr = s.pwr := by
    rw [foldS_eq_foldl, foldl_pwr ringKill_pwr, bar2Cut_pwr]
    exact State.count_pwr s _ _
  unfold State.hostReset
  refine ⟨_, ?power, ?mailbox, ?ferry, ?msix, rfl⟩
  case power => rw [State.modBell_pwr, ← hrings]
  case mailbox | ferry | msix => rfl

/-- A latched flag read back. -/
theorem bit_flag_self (s : State) (off : Nat) {i : Nat} (h : i < 32) : (s.flag off i).bit off i = true :=
  bit_setBit s off i true h

/-- A HOST-only PERST# sets HOST_RST, is noted, resets HOST's parts, and asserts no reset of the unit. -/
theorem hostReset_resets (s : State) : s.hostReset.bit PWR_RST_CAUSE 8 = true ∧ s.hostReset.pwr.perst = true ∧
    s.hostReset.cmd.mbox = PortSt.reset ∧ s.hostReset.fry = FrySt.reset ∧ s.hostReset.bell.msixEnable = false ∧
    s.hostReset.pwr.held = s.pwr.held := by
  obtain ⟨t, hpwr, hmbox, hfry, hmsix, heq⟩ := hostReset_eq s
  have hcause : s.hostReset.regs = (t.flag PWR_RST_CAUSE 8).regs := by rw [heq, ratesOn_regs, State.modPwr_regs]
  refine ⟨(bit_of_regs hcause _ _).trans (bit_flag_self t PWR_RST_CAUSE (by decide)), ?_⟩
  simp [heq, hpwr, hmbox, hfry, hmsix]

/-- PERST# with HOST ON and SCOPE 0 is the unit reset of source 2. -/
theorem exec_perstAssert_unit {s : State} (hh : s.pwr.held = false) (ho : s.on .host = true)
    (hs : s.bit PWR_RST_CFG 0 = false) : exec .perstAssert s = .next (s.assertReset 2) := by
  rw [exec_perstAssert, ← anyRow_assertReset]
  simp [execPerstAssert, anyRow_eq, hh, ho, hs]

/-- With SCOPE 1 it resets HOST alone. -/
theorem exec_perstAssert_host {s : State} (hh : s.pwr.held = false) (ho : s.on .host = true)
    (hs : s.bit PWR_RST_CFG 0 = true) :
    exec .perstAssert s = .next (if s.hostReset.live = true then s.hostReset.settle else s.hostReset) := by
  simp [exec_perstAssert, execPerstAssert, anyRow_eq, hh, ho, hs]

/-- In a reset, and without HOST, PERST# does nothing. -/
theorem exec_perstAssert_ignored {s : State} (h : s.pwr.held = true ∨ s.on .host = false) :
    exec .perstAssert s = .next (if s.live = true then s.settle else s) := by
  have hc : (s.pwr.held || !s.on .host) = true := by simpa using h
  simp only [exec_perstAssert, execPerstAssert, anyRow_eq, hc, ↓reduceIte]

theorem perstRelease_gives {s : State} (h : s.live = true) :
    Gives s .perstRelease (s.modPwr fun x => { x with perst := false }) := by
  unfold Gives
  rw [exec_perstRelease, execPerstRelease]
  exact anyRow_live h

/-! ### The release (R182, R184, R186) -/

/-- HOST_RST as the release leaves it: cleared after a power-on reset, and kept after any other. -/
def State.keptHostRst (s : State) : Nat := if bits s.pwr.causes 0 1 = 1 then 0 else s.fld PWR_RST_CAUSE 8 1

/-- The unit as its reset ends, HOST not yet started. -/
def State.released (s : State) (b : Bool) : State :=
  let t := (s.setRegN PWR_RST_CAUSE (s.pwr.causes + s.keptHostRst * 256)).setRegN PWR_STRAP (b2n b)
  (t.modPwr fun x => { x with held := false, causes := 0 }).modYard fun x => { x with level := x.pads, sync := x.pads }

theorem released_reg (s : State) (b : Bool) (off : Nat) : (s.released b).reg off =
    if off = PWR_STRAP then BitVec.ofNat 32 (b2n b)
    else if off = PWR_RST_CAUSE then BitVec.ofNat 32 (s.pwr.causes + s.keptHostRst * 256) else s.reg off := by
  rw [← reg_setRegN s PWR_RST_CAUSE, ← reg_setRegN _ PWR_STRAP]
  rfl

/-- Without RCLK the reset does not release. -/
theorem releaseReset_stopped {s : State} (b : Bool) (h : s.tide.rclk = false) : s.releaseReset b = s := by
  simp [State.releaseReset, h]

section
variable {s : State} (b : Bool) (hh : s.pwr.held = true) (hr : s.tide.rclk = true)
include hh hr

/-- The release writes PWR_RST_CAUSE and PWR_STRAP, and HOST is ON where BOOTHOST was high. -/
theorem releaseReset_eq : s.releaseReset b = (s.released b).cond b (·.setDom .host 2) := by
  unfold State.releaseReset
  rw [if_neg (by simp [hh, hr])]
  rfl

theorem releaseReset_pwr : (s.releaseReset b).pwr = { s.pwr with held := false, causes := 0 } := by
  rw [releaseReset_eq b hh hr]
  cases b with
  | false => rfl
  | true => exact State.setDom_pwr _ _ _

theorem releaseReset_tide : (s.releaseReset b).tide = s.tide := by
  rw [releaseReset_eq b hh hr]
  cases b with
  | false => rfl
  | true => exact State.setDom_tide _ _ _

theorem releaseReset_live : (s.releaseReset b).live = true := by
  simp [State.live, releaseReset_pwr b hh hr, releaseReset_tide b hh hr, hr]

/-- Starting HOST changes PWR_STATE alone. -/
theorem releaseReset_reg_ne {off : Nat} (h : off ≠ PWR_STATE) : (s.releaseReset b).reg off = (s.released b).reg off := by
  rw [releaseReset_eq b hh hr]
  cases b with
  | false => rfl
  | true => exact reg_setFld_ne _ _ _ _ _ h

theorem releaseReset_fld_cause (lo w : Nat) :
    (s.releaseReset b).fld PWR_RST_CAUSE lo w = bits ((s.pwr.causes + s.keptHostRst * 256) % 2 ^ 32) lo w := by
  have hreg : (s.releaseReset b).reg PWR_RST_CAUSE = BitVec.ofNat 32 (s.pwr.causes + s.keptHostRst * 256) := by
    rw [releaseReset_reg_ne b hh hr (by decide), released_reg, if_neg (by decide), if_pos rfl]
  rw [State.fld, State.regN, hreg, BitVec.toNat_ofNat]

/-- The release publishes the causes, and keeps HOST_RST of a reset that was no power-on reset. -/
theorem releaseReset_publishes (hc : s.pwr.causes < 16) :
    (s.releaseReset b).fld PWR_RST_CAUSE 0 8 = s.pwr.causes ∧
      (s.releaseReset b).bit PWR_RST_CAUSE 8 = (s.pwr.causes % 2 = 0 && s.bit PWR_RST_CAUSE 8) := by
  have hbit : s.fld PWR_RST_CAUSE 8 1 < 2 := bits_lt _ _ _
  have hkept : s.keptHostRst = if s.pwr.causes % 2 = 0 then s.fld PWR_RST_CAUSE 8 1 else 0 := by
    unfold State.keptHostRst bits
    split <;> split <;> omega
  have hlt : s.keptHostRst < 2 := by rw [hkept]; split <;> omega
  constructor
  · rw [releaseReset_fld_cause b hh hr, bits]
    omega
  · have hfld : (s.releaseReset b).fld PWR_RST_CAUSE 8 1 = s.keptHostRst := by
      rw [releaseReset_fld_cause b hh hr, bits]
      omega
    rw [State.bit, hfld, hkept, State.bit]
    by_cases h2 : s.pwr.causes % 2 = 0 <;> simp [h2]

/-- PWR_STRAP shows BOOTHOST as sampled. -/
theorem releaseReset_strap : (s.releaseReset b).regN PWR_STRAP = b2n b := by
  have hreg : (s.releaseReset b).reg PWR_STRAP = BitVec.ofNat 32 (b2n b) := by
    rw [releaseReset_reg_ne b hh hr (by decide), released_reg, if_pos rfl]
  rw [State.regN, hreg]
  cases b <;> rfl

/-- HOST is ON where BOOTHOST was high, and as it was otherwise. -/
theorem releaseReset_host : (s.releaseReset b).dom .host = if b then 2 else s.dom .host := by
  rw [releaseReset_eq b hh hr]
  cases b with
  | false =>
    have hreg : (s.released false).reg PWR_STATE = s.reg PWR_STATE := by
      rw [released_reg, if_neg (by decide), if_neg (by decide)]
    show bits ((s.released false).reg PWR_STATE).toNat _ _ = _
    rw [hreg]
    rfl
  | true => exact fld_setFld (s.released true) PWR_STATE (2 * domNum .host) 2 2 (by decide)

end

/-! ### VDDQ and the TAP -/

@[simp] theorem tapCells_regs (s : State) : s.tapCells.regs = s.regs := rfl

@[simp] theorem tapCells_tap (s : State) : s.tapCells.pwr.tap = s.pwr.tap := rfl

/-- A TAP instruction takes effect in any state, and reaches no register (R640). -/
theorem tapInstructionUpdate_next (ir : BitVec 8) (s : State) :
    ∃ u, exec (.tapInstructionUpdate ir) s = .next u ∧ u.pwr.tap = ir.toNat ∧ u.regs = s.regs := by
  rw [exec_tapInstructionUpdate, execTapInstructionUpdate]
  refine ⟨_, rfl, ?_⟩
  split <;> simp

/-- Settles O28: the rows of the reset sources, of PERST#, of the release, of VDDQ and of the TAP, by the lemma of each. -/
theorem resetRowsResetAndRelease : Obligations.ResetRowsResetAndRelease := by
  refine ⟨?sources, ?perstUnit, ?perstHost, fun _ => exec_perstAssert_ignored,
    fun s h => ⟨_, perstRelease_gives h, rfl, rfl⟩, ?release, ?stopped, ?vddq, ?vddqHeld, tapInstructionUpdate_next⟩
  case sources =>
    intro x hx s
    simp only [List.mem_cons, List.not_mem_nil, or_false] at hx
    rcases hx with rfl | rfl
    · exact reset_row_resets (exec_powerOnReset s)
    · exact reset_row_resets (exec_resetNAssert s)
  case perstUnit =>
    intro s hh ho hs
    refine ⟨_, exec_perstAssert_unit hh ho hs, assertReset_held s 2, ?_, fun _ => assertReset_reg s 2⟩
    simp [assertReset_causes, hh]
  case perstHost =>
    intro s hl ho hs
    have hh := held_of_live hl
    obtain ⟨hcause, hperst, hmbox, hfry, hmsix, hheld⟩ := hostReset_resets s
    exact ⟨hcause, hperst, hmbox, hfry, hmsix, hheld.trans hh, exec_perstAssert_host hh ho hs⟩
  case release =>
    intro b s hh hr
    have hpwr := releaseReset_pwr b hh hr
    have hhost := releaseReset_host b hh hr
    refine ⟨s.releaseReset b, anyRow_live (releaseReset_live b hh hr), by rw [hpwr], by rw [hpwr],
      releaseReset_publishes b hh hr, releaseReset_strap b hh hr, ?_, ?_⟩
    all_goals
      rintro rfl
      exact hhost
  case stopped =>
    intro b s hh hr
    have hstay : s.releaseReset b = s := releaseReset_stopped b hr
    rw [exec_resetRelease, execResetRelease, anyRow_held (by rw [hstay]; exact hh), hstay]
  case vddq | vddqHeld =>
    intro s hh
    simp [exec_vddqFall, execVddqFall, hh]

end Sys2Proof.Machine
end

section
/-! PROOFS. The Pilot's accepted triggers: the registers that a record's way into its capture group leaves alone, the sample
index that an accepted trigger latches, and the refutation of O37 from these. -/

namespace Sys2Proof.Machine

variable (s : State) (g : Nat)

/-! ### Operations that reach no register -/

/-- What each step of a fold keeps of the registers, the fold keeps. -/
theorem foldl_regs {α : Type} {f : State → α → State} (hf : ∀ s a, (f s a).regs = s.regs) (l : List α) (s : State) :
    (l.foldl f s).regs = s.regs :=
  l.foldlRecOn f (motive := fun u => u.regs = s.regs) rfl fun u hu a _ => (hf u a).trans hu

theorem foldS_regs {f : State → Nat → State} (hf : ∀ s k, (f s k).regs = s.regs) (l : List Nat) (s : State) :
    (foldS f l s).regs = s.regs := by
  rw [foldS_eq_foldl]
  exact foldl_regs hf l s

@[simp] theorem memWrites_regs (m a : Nat) (ws : List Quay) : (s.memWrites m a ws).regs = s.regs := by
  induction ws generalizing s a with
  | nil => rfl
  | cons w t ih => exact ih _ _

@[simp] theorem dockPut_regs (n c : Nat) (seq : Word) (a : Nat) (ws : List Quay) :
    (s.dockPut n c seq a ws).regs = s.regs := by
  induction ws generalizing s a with
  | nil => rfl
  | cons w t ih => exact ih _ _

/-- Histograms count beside the registers. -/
@[simp] theorem histBody_regs (x : Seg) (k : Nat) (ws : List Quay) : (s.histBody g x k ws).regs = s.regs := by
  refine foldS_regs (fun u h => ?_) _ _
  split
  · refine foldl_regs (fun u p => foldl_regs (fun u q => ?_) _ _) _ _
    split <;> rfl
  · rfl

@[simp] theorem emitBody_regs (n : Nat) : (s.emitBody g n).regs = s.regs := by
  induction n generalizing s with
  | zero => rfl
  | succ n ih =>
    rw [State.emitBody]
    split
    · rfl
    · split
      · rw [ih, State.modGrp_regs]
        split <;> simp
      · rfl

@[simp] theorem refillMarks_regs (n : Nat) : (State.refillMarks n s).regs = s.regs := by
  induction n generalizing s with
  | zero => rfl
  | succ n ih =>
    rw [State.refillMarks]
    split
    · rfl
    · split
      · rfl
      · exact ih _

@[simp] theorem fillMarks_regs (r n : Nat) : (s.fillMarks r n).regs = s.regs := by
  induction n generalizing s with
  | zero => rfl
  | succ n ih =>
    rw [State.fillMarks]
    split
    · split
      · rfl
      · split
        · exact (ih _).trans (refillMarks_regs _ 1)
        · rfl
    · rfl

@[simp] theorem fillMon_regs (r n : Nat) : (s.fillMon r n).regs = s.regs := by
  induction n generalizing s with
  | zero => rfl
  | succ n ih =>
    rw [State.fillMon]
    split
    · split
      · rfl
      · split
        · exact ih _
        · rfl
    · rfl

@[simp] theorem ringFill_regs (r : Nat) : (s.ringFill r).regs = s.regs := by
  unfold State.ringFill
  split
  · split
    · exact fillMarks_regs s r 300
    · split
      · exact fillMon_regs s r 300
      · rfl
  · rfl

/-- TRIGOUT pulses reach no register. -/
@[simp] theorem trigOuts_regs : (s.trigOuts g).regs = s.regs := by
  refine foldS_regs (fun u j => ?_) _ _
  split <;> rfl

/-! ### A record's way into its group (R246, R269, R271, R283) -/

theorem reg_setReg72_of_lt {base off : Nat} (q : Quay) (h : off < base) : (s.setReg72 base q).reg off = s.reg off := by
  unfold State.setReg72
  rw [reg_setRegN, if_neg (by omega), reg_setRegN, if_neg (by omega), reg_setRegN, if_neg (by omega)]

section
variable {off : Nat} (h : off < ACQ_STAT)
include h

theorem rejectRec_reg (busy : Bool) : (s.rejectRec g busy).reg off = s.reg off := by
  have ho : off ≠ ACQ_G_REJ g := by unfold ACQ_STAT at h; unfold ACQ_G_REJ; omega
  unfold State.rejectRec
  rw [reg_count_ne _ _ _ ho]
  exact reg_of_regs (State.modGrp_regs s g _) off

theorem setGrp_reg (v : Nat) : (s.setGrp g v).reg off = s.reg off := by
  have hg : off ≠ ACQ_G_STAT g := by unfold ACQ_STAT at h; unfold ACQ_G_STAT; omega
  unfold State.setGrp
  rw [reg_setBit_ne _ _ _ _ (Nat.ne_of_lt h), reg_setBit_ne _ _ _ _ (Nat.ne_of_lt h), reg_setFld_ne _ _ _ _ _ hg]

theorem takeSeg_reg (t : TrigRec) : (s.takeSeg g t).reg off = s.reg off := by
  have hseq : off ≠ MAN_SEQ := by unfold ACQ_STAT at h; unfold MAN_SEQ; omega
  have hnext : off ≠ ACQ_G_NEXTREC g := by unfold ACQ_STAT at h; unfold ACQ_G_NEXTREC; omega
  have hdead : off < ACQ_G_DEADSUM_Q0 g := by unfold ACQ_STAT at h; unfold ACQ_G_DEADSUM_Q0; omega
  unfold State.takeSeg
  rw [reg_of_regs (emitBody_regs _ g _), setGrp_reg _ _ h, reg_setRegN, if_neg hnext, reg_setReg72_of_lt _ _ hdead,
    reg_of_regs (State.modGrp_regs _ g _), State.bump, reg_setRegN, if_neg hseq]

theorem queueTrig_reg (m : List Quay) : (s.queueTrig g m).reg off = s.reg off := by
  have ho : off ≠ ACQ_G_MARKLOST g := by unfold ACQ_STAT at h; unfold ACQ_G_MARKLOST; omega
  unfold State.queueTrig
  split
  · exact reg_of_regs (ringFill_regs _ _) off
  · exact reg_count_ne _ _ _ ho

theorem takeMark_reg (t : TrigRec) : (s.takeMark g t).reg off = s.reg off :=
  (queueTrig_reg _ g h _).trans (reg_of_regs (State.modGrp_regs s g _) off)

/-- A group that receives a record changes no register ahead of the capture block. -/
theorem giveRecord_reg (t : TrigRec) : (s.giveRecord g t).reg off = s.reg off := by
  have harmed : (if (s.grp g).r ≤ t.i then s.takeSeg g t else s.rejectRec g false).reg off = s.reg off := by
    split
    · exact takeSeg_reg s g h t
    · exact rejectRec_reg s g h false
  dsimp only [State.giveRecord]
  split
  · exact harmed
  · exact harmed
  · exact rejectRec_reg s g h true
  · split
    · exact takeMark_reg s g h t
    · rfl
  · rfl

/-- So delivering a record and showing the trigger leave the Pilot's registers as they were. -/
theorem delivered_regN (t : TrigRec) : ((s.giveRecord g t).trigOuts g).regN off = s.regN off := by
  rw [regN_of_regs (trigOuts_regs _ g), State.regN, giveRecord_reg s g h]
  rfl

end

/-! ### The index that an accepted trigger latches (R245, R251) -/

/-- PLT_LAST_IDX_HI holds bits 47:32 of the sample index. -/
theorem noteTrig_indexHi (t : TrigRec) : (s.noteTrig g t).regN (PLT_LAST_IDX_HI g) = t.i / 2 ^ 32 % 2 ^ 16 := by
  unfold State.noteTrig
  rw [regN_of_regs (State.raise_regs _ 3), regN_setRegN, if_pos rfl]
  omega

/-- Whatever state delivers the record of an accepted trigger, it holds those bits there, as the delivery leaves them. -/
theorem indexHi_of_accept_eq {s u : State} {g : Fin 8} {t : TrigRec}
    (h : s.accept g t = (u.giveRecord g t).trigOuts g) : u.regN (PLT_LAST_IDX_HI g) = t.i / 2 ^ 32 % 2 ^ 16 := by
  have hg : PLT_LAST_IDX_HI g < ACQ_STAT := by unfold PLT_LAST_IDX_HI ACQ_STAT; omega
  calc u.regN (PLT_LAST_IDX_HI g) = (s.accept g t).regN (PLT_LAST_IDX_HI g) := by rw [h, delivered_regN u g hg t]
    _ = (s.noteTrig g t).regN (PLT_LAST_IDX_HI g) := delivered_regN _ g hg t
    _ = t.i / 2 ^ 32 % 2 ^ 16 := noteTrig_indexHi s g t

/-- Refutes O37: the clause on accepted triggers has PLT_LAST_IDX_HI hold the index from bit 32 on modulo 2^32, where the index
is of 48 bits (R245) and the register of 16 (R251). An event placed at sample 2^48, which a channel of 4 GS/s reaches in 19.5
hours, leaves 0 there and not 65 536. -/
theorem not_enginesQualifyRateAndHoldOff : ¬ Obligations.EnginesQualifyRateAndHoldOff := by
  rintro ⟨-, -, -, -, -, -, haccept, -⟩
  obtain ⟨u, hu, -, -, -, hclaim, -⟩ := haccept State.reset 0 ⟨0, 0, 2 ^ 48, 0, false, false⟩
  exact absurd (hclaim.symm.trans (indexHi_of_accept_eq hu)) (by decide)

end Sys2Proof.Machine
end

section
/-! PROOFS. Stream blocks and Watermark intervals: what each of their rows makes of its group, what the output slots of an
interval hold, and O39 from these. -/

namespace Sys2Proof.Machine

/-- A row on RCLK gives its own effect. -/
theorem gives_of_row {s : State} {c : Instr} {f : State → State} (hrow : exec c s = s.row f) (h : s.live = true) :
    Gives s c (f s) :=
  hrow.trans (row_live h f)

/-- Where that effect is none, the row leaves the state as it is. -/
theorem turns_id_of_row {c : Instr} {pre : State → Prop} {f : State → State} (hrow : ∀ s, exec c s = s.row f)
    (hf : ∀ s, pre s → f s = s) : Turns c pre id := by
  intro s hl hp
  have hgives := gives_of_row (hrow s) hl
  rwa [hf s hp] at hgives

/-! ### Groups read back -/

@[simp] theorem vget_vset_self {α : Type} {n : Nat} (v : Vector α (n + 1)) (i : Nat) (x : α) : vget (vset v i x) i = x := by
  simp [vget, vset]

section
variable (s : State) (g : Nat)

@[simp] theorem grp_modGrp_self (f : GrpSt → GrpSt) : (s.modGrp g f).grp g = f (s.grp g) :=
  vget_vset_self s.acq.grps g _

@[simp] theorem grp_flag (off i : Nat) : (s.flag off i).grp g = s.grp g := rfl

@[simp] theorem grp_count (off n : Nat) : (s.count off n).grp g = s.grp g := rfl

/-- A flag leaves every other register as it was. -/
theorem reg_flag_ne (off i : Nat) {o : Nat} (h : o ≠ off) : (s.flag off i).reg o = s.reg o := reg_setBit_ne s off i true h

/-- What is counted and flagged shows in the count and in the flag, and in no other register. -/
theorem count_flag_regs {o e i : Nat} (n : Nat) (hne : o ≠ e) (hi : i < 32) :
    ((s.count o n).flag e i).regN o = satAdd 0xFFFFFFFF (s.regN o) n ∧ ((s.count o n).flag e i).bit e i = true ∧
      s.KeepsRegs ((s.count o n).flag e i) [o, e] := by
  refine ⟨?_, bit_flag_self _ _ hi, fun off hoff => ?_⟩
  · rw [State.regN, reg_flag_ne _ _ _ hne, ← State.regN, regN_count, if_pos rfl]
  · obtain ⟨hcount, hflag⟩ : off ≠ o ∧ off ≠ e := by simpa using hoff
    rw [reg_flag_ne _ _ _ hflag, reg_count_ne _ _ _ hcount]

/-! ### Mark records reach no register -/

@[simp] theorem queueMark_regs (m : List Quay) : (s.queueMark g m).regs = s.regs := by
  rw [State.queueMark, ringFill_regs, refillMarks_regs, State.modGrp_regs]

@[simp] theorem queueGap_regs (cause : Nat) : (s.queueGap g cause).regs = s.regs := by
  unfold State.queueGap
  split
  · rfl
  · exact queueMark_regs _ g _

end

/-! ### A block dropped (R285) -/

section
variable (x : GrpSt) (first : Nat)

@[simp] theorem GrpSt.dropBlock_cur : (x.dropBlock first).cur = some false := by
  unfold GrpSt.dropBlock
  split <;> rfl

/-- Where no GAP record waits for the queue, the pending one counts the block, or starts with it. -/
theorem GrpSt.dropBlock_pending (h : x.waitMarks.any isGap = false) :
    (x.dropBlock first).waitMarks = x.waitMarks ∧
      (x.dropBlock first).gap = match x.gap with
        | some (f, n) => some (f, n + 1)
        | none => some (first, 1) := by
  rw [GrpSt.dropBlock, if_neg (by simp [h])]
  exact ⟨rfl, rfl⟩

/-- Where one waits, it counts the block. -/
theorem GrpSt.dropBlock_waiting (h : x.waitMarks.any isGap = true) :
    (x.dropBlock first).gap = x.gap ∧
      (x.dropBlock first).waitMarks = x.waitMarks.map fun m => if isGap m then gapPlus m else m := by
  rw [GrpSt.dropBlock, if_pos h]
  exact ⟨rfl, rfl⟩

end

/-! ### A block begins (R284, R285) -/

section
variable {s : State} {g : Nat}

theorem blockBegin_idle (h : (s.grpState g ≠ 4 ∧ (s.grpState g ≠ 5 ∨ (s.grp g).stopAt = none)) ∨ (s.grp g).cur ≠ none) :
    s.blockBegin g = s := by
  refine if_neg fun hc => ?_
  simp only [Bool.and_eq_true, Bool.or_eq_true, beq_iff_eq, Option.isNone_iff_eq_none] at hc
  obtain ⟨hruns, hcur⟩ := hc
  obtain ⟨h4, h5⟩ | hbusy := h
  · obtain hst | ⟨hst, hstop⟩ := hruns
    · exact h4 hst
    · obtain h5 | h5 := h5
      · exact h5 hst
      · simp [h5] at hstop
  · exact hbusy hcur

theorem blockBegin_staged (h4 : s.grpState g = 4) (hcur : (s.grp g).cur = none)
    (hroom : s.staged g < s.fld (ACQ_G_CFG g) 20 4) :
    s.blockBegin g = (s.queueGap g 0).modGrp g fun x => { x with cur := some true } := by
  simp [State.blockBegin, h4, hcur, hroom]

theorem blockBegin_dropped (h4 : s.grpState g = 4) (hcur : (s.grp g).cur = none)
    (hfull : s.fld (ACQ_G_CFG g) 20 4 ≤ s.staged g) :
    s.blockBegin g = ((s.modGrp g (·.dropBlock (s.rawFirst g (s.grp g).base))).count (ACQ_G_DROP g) 1).flag ACQ_EVT (16 + g) := by
  simp [State.blockBegin, h4, hcur, Nat.not_lt.mpr hfull]

end

/-! ### A block ends (R284) -/

section
variable (s : State) (g n : Nat) (short : Bool)

@[simp] theorem blockEnd_regs : (s.blockEnd g n short).regs = s.regs := by
  dsimp only [State.blockEnd]
  split <;> rfl

/-- The group is between blocks, and the next has the next number. -/
theorem blockEnd_grp : ((s.blockEnd g n short).grp g).cur = none ∧
    ((s.blockEnd g n short).grp g).blockNo = (s.grp g).blockNo + 1 := by
  dsimp only [State.blockEnd]
  constructor
  · rw [grp_modGrp_self]
  · rw [grp_modGrp_self]
    split <;> rfl

theorem blockEnd_offered : (s.blockEnd g n short).acq.offered =
    if (s.grp g).cur = some true ∧ 0 < n then
      offerBlock s.acq.offered ⟨g, (s.grp g).blockNo, s.takeWords g n, short, s.tide.tb⟩
    else s.acq.offered := by
  dsimp only [State.blockEnd]
  split <;> rfl

variable {s g}

theorem blockComplete_idle (h : (s.grp g).cur = none ∨ s.heldAll g < s.blkLen g) : s.blockComplete g = s := by
  refine if_neg fun hc => ?_
  simp only [Bool.and_eq_true, decide_eq_true_eq] at hc
  obtain ⟨hcur, hheld⟩ := hc
  obtain hnone | hshort := h
  · simp [hnone] at hcur
  · omega

theorem blockComplete_ends {b : Bool} (hcur : (s.grp g).cur = some b) (hheld : s.blkLen g ≤ s.heldAll g) :
    s.blockComplete g = s.blockEnd g (s.blkLen g) false := by
  simp [State.blockComplete, hcur, hheld]

theorem blkLen_pos : 0 < s.blkLen g := Nat.two_pow_pos _

end

/-! ### An interval ends (R301, R302) -/

/-- The D oldest raw slots of channel c of a group, with the marks of the triggers that fall in them (R283). -/
def GrpSt.intervalSlots (x : GrpSt) (c d : Nat) : List Slot :=
  ((vget x.raw c).take d).mapIdx fun i y => { y with mark := y.mark || x.marksAt.contains (vget x.rawBase c + i) }

/-- The group once these have gone through the decimator: their output slots follow those not yet packed. -/
def GrpSt.decimate (x : GrpSt) (c d mode : Nat) : GrpSt :=
  ({ x with raw := vset x.raw c ((vget x.raw c).drop d),
            rawBase := vset x.rawBase c (vget x.rawBase c + d),
            outs := vset x.outs c (vget x.outs c ++ wmkOut mode (x.intervalSlots c d)) } : GrpSt).pack c 2

section
variable {s : State} {g c : Nat}

theorem interval_idle (h : s.wmark g = false ∨ (vget (s.grp g).raw c).length < s.wmkD g ∨
    (s.grpState g ≠ 4 ∧ s.grpState g ≠ 5)) : s.interval g c = s := by
  refine if_neg fun hc => ?_
  simp only [Bool.and_eq_true, Bool.or_eq_true, beq_iff_eq, decide_eq_true_eq] at hc
  obtain ⟨⟨⟨hruns, hmark⟩, -⟩, hfull⟩ := hc
  obtain hno | hshort | ⟨h4, h5⟩ := h
  · simp [hno] at hmark
  · omega
  · obtain hst | ⟨hst, -⟩ := hruns
    · exact h4 hst
    · exact h5 hst

theorem interval_decimates (h4 : s.grpState g = 4) (hmark : s.wmark g = true) (hd : 0 < s.wmkD g)
    (hfull : s.wmkD g ≤ (vget (s.grp g).raw c).length) :
    (s.interval g c).regs = s.regs ∧ (s.interval g c).grp g = (s.grp g).decimate c (s.wmkD g) (s.wmkMode g) := by
  simp only [State.interval, h4, hmark, hd, hfull, beq_self_eq_true, Bool.true_or, Bool.true_and, decide_true, ↓reduceIte,
    State.modGrp_regs, grp_modGrp_self, true_and]
  rfl

end

/-! ### The output slots of an interval (R301) -/

/-- MINMAX: the least value, which carries MARK, and the greatest. -/
theorem wmkOut_minmax {ys : List Slot} (h : ys ≠ []) :
    ∃ lo hi, (ys.map (·.v)).min? = some lo ∧ (ys.map (·.v)).max? = some hi ∧
      wmkOut 0 ys = [⟨lo, ys.any (·.ovr), ys.any (·.mark)⟩, ⟨hi, ys.any (·.ovr), false⟩] := by
  obtain ⟨y, t, rfl⟩ := List.exists_cons_of_ne_nil h
  refine ⟨_, _, List.min?_cons', List.max?_cons', ?_⟩
  simp [wmkOut, List.foldl_map]

/-- MEAN: the sum over the number of samples, rounded. -/
theorem wmkOut_mean (ys : List Slot) :
    wmkOut 1 ys = [⟨roundDiv (ys.map (·.v)).sum ys.length, ys.any (·.ovr), ys.any (·.mark)⟩] := by
  simp [wmkOut, List.sum_eq_foldl, List.foldl_map]

/-- PICK: the first sample. -/
theorem wmkOut_pick (y : Slot) (ys : List Slot) :
    wmkOut 2 (y :: ys) = [⟨y.v, (y :: ys).any (·.ovr), (y :: ys).any (·.mark)⟩] := rfl

/-- Rounding is off by half a unit of the quotient at most. -/
theorem roundDiv_near (n : Int) {d : Nat} (hd : 0 < d) : 2 * (d * roundDiv n d - n).natAbs ≤ d := by
  have near : ∀ m : Int, 2 * (d * ((2 * m + d) / (2 * d)) - m).natAbs ≤ d := fun m => by
    have hsum := Int.emod_add_mul_ediv (2 * m + d) (2 * d)
    have hlo := Int.emod_nonneg (2 * m + d) (b := 2 * d) (by omega)
    have hhi := Int.emod_lt_of_pos (2 * m + d) (b := 2 * d) (by omega)
    rw [Int.mul_assoc] at hsum
    omega
  unfold roundDiv
  split
  · exact near n
  · have hneg := near (-n)
    rw [Int.mul_neg]
    omega

/-! ### The rows -/

/-- Settles O39: the rows of stream blocks and of intervals, and the three modes of the decimator, by the lemma of each. -/
theorem streamRowsStageDropAndDecimate : Obligations.StreamRowsStageDropAndDecimate := by
  refine ⟨fun g => ⟨?beginIdle, ?beginStaged, ?beginDropped⟩, fun g => ⟨?completeIdle, ?completeStaged, ?completeDropped⟩,
    fun g c => ⟨?interval, ?intervalIdle⟩, ?minmax, fun ys h => ⟨wmkOut_mean ys, ?mean⟩, wmkOut_pick⟩
  case beginIdle => exact turns_id_of_row (exec_streamBlockBegin g) fun _ => blockBegin_idle
  case beginStaged =>
    rintro s hl ⟨h4, hcur, hroom⟩
    refine ⟨_, gives_of_row (exec_streamBlockBegin g s) hl, ?_⟩
    rw [blockBegin_staged h4 hcur hroom]
    exact ⟨by rw [grp_modGrp_self], reg_of_regs (queueGap_regs s g 0) _⟩
  case beginDropped =>
    rintro s hl ⟨h4, hcur, hfull⟩
    refine ⟨_, gives_of_row (exec_streamBlockBegin g s) hl, ?_⟩
    rw [blockBegin_dropped h4 hcur hfull]
    have hne : ACQ_G_DROP g ≠ ACQ_EVT := by unfold ACQ_G_DROP ACQ_EVT; omega
    obtain ⟨hcount, hevt, hkeeps⟩ := count_flag_regs (s.modGrp g (·.dropBlock (s.rawFirst g (s.grp g).base)))
      (i := 16 + g) 1 hne (by omega)
    simp only [grp_flag, grp_count, grp_modGrp_self]
    exact ⟨GrpSt.dropBlock_cur _ _, hcount, hevt, hkeeps, GrpSt.dropBlock_pending _ _, GrpSt.dropBlock_waiting _ _⟩
  case completeIdle => exact turns_id_of_row (exec_streamBlockComplete g) fun _ => blockComplete_idle
  case completeStaged =>
    rintro s hl ⟨hcur, hheld⟩
    refine ⟨_, gives_of_row (exec_streamBlockComplete g s) hl, ?_⟩
    obtain ⟨hnone, hno⟩ := blockEnd_grp s g (s.blkLen g) false
    rw [blockComplete_ends hcur hheld, blockEnd_offered, if_pos ⟨hcur, blkLen_pos⟩]
    exact ⟨rfl, hnone, hno, blockEnd_regs _ _ _ _⟩
  case completeDropped =>
    rintro s hl ⟨hcur, hheld⟩
    refine ⟨_, gives_of_row (exec_streamBlockComplete g s) hl, ?_⟩
    obtain ⟨hnone, hno⟩ := blockEnd_grp s g (s.blkLen g) false
    rw [blockComplete_ends hcur hheld, blockEnd_offered, if_neg (by simp [hcur])]
    exact ⟨rfl, hnone, hno, blockEnd_regs _ _ _ _⟩
  case interval =>
    rintro s hl ⟨h4, hmark, hd, hfull⟩
    obtain ⟨hregs, hgrp⟩ := interval_decimates h4 hmark hd hfull
    refine ⟨_, gives_of_row (exec_decimatorIntervalEnd g c s) hl, hregs, ?_⟩
    rintro x ys rfl rfl
    exact hgrp
  case intervalIdle => exact turns_id_of_row (exec_decimatorIntervalEnd g c) fun _ => interval_idle
  case minmax =>
    intro ys h
    obtain ⟨lo, hi, hlo, hhi, hout⟩ := wmkOut_minmax h
    simp only [List.min?_eq_some_iff, List.max?_eq_some_iff, List.mem_map, forall_exists_index, and_imp,
      forall_apply_eq_imp_iff₂] at hlo hhi
    obtain ⟨hlomem, hlole⟩ := hlo
    obtain ⟨hhimem, hlehi⟩ := hhi
    exact ⟨_, _, hout, fun y hy => ⟨hlole y hy, hlehi y hy⟩, hlomem, hhimem, rfl, rfl, rfl, rfl⟩
  case mean => exact roundDiv_near _ (List.length_pos_iff.mpr h)

end Sys2Proof.Machine
end

section
/-! PROOFS. Claims and completions of the Bell: which sources are PENDING and which a claim may take, what a claim, a completion and
the end of an edge make of a target, and O48 from these. -/

namespace Sys2Proof.Machine

/-! ### Masks -/

theorem bits_one_beq_one (m i : Nat) : (bits m i 1 == 1) = m.testBit i := by
  rw [Nat.testBit_eq_decide_div_mod_eq, Bool.eq_iff_iff, beq_iff_eq, decide_eq_true_iff]
  exact Iff.rfl

theorem bits_one_beq_zero (m i : Nat) : (bits m i 1 == 0) = !m.testBit i := by
  have hlt : bits m i 1 < 2 := bits_lt m i 1
  obtain h | h : bits m i 1 = 0 ∨ bits m i 1 = 1 := by omega
  · rw [← bits_one_beq_one, h]
    rfl
  · rw [← bits_one_beq_one, h]
    rfl

theorem testBit_foldl_or (l : List Nat) (m i : Nat) :
    (l.foldl (fun m i => m ||| 2 ^ i) m).testBit i = (m.testBit i || decide (i ∈ l)) := by
  induction l generalizing m with
  | nil => simp
  | cons k t ih => simp [ih, Nat.testBit_two_pow, Bool.or_assoc, eq_comm]

theorem testBit_maskOf (l : List Nat) (i : Nat) : (maskOf l).testBit i = decide (i ∈ l) := by
  simp [maskOf, testBit_foldl_or]

/-! ### Targets read back -/

theorem vget_vset_ne {α : Type} {n : Nat} (v : Vector α (n + 1)) {i j : Nat} (x : α) (h : i % (n + 1) ≠ j % (n + 1)) :
    vget (vset v i x) j = vget v j := by
  simp [vget, vset, Vector.getElem_set_ne, h]

section
variable (s : State)

@[simp] theorem tgt_modTgt_self (t : Nat) (f : BellTgt → BellTgt) : (s.modTgt t f).tgt t = f (s.tgt t) :=
  vget_vset_self s.bell.tgts t _

theorem tgt_modTgt_ne {t k : Fin 4} (f : BellTgt → BellTgt) (h : t ≠ k) : (s.modTgt t f).tgt k = s.tgt k :=
  vget_vset_ne _ _ (by omega)

@[simp] theorem freeTgt_tgt (t k : Nat) : (s.freeTgt t).tgt k = s.tgt k := rfl

@[simp] theorem cond_freeTgt_tgt (b : Bool) (t k : Nat) : (s.cond b (·.freeTgt t)).tgt k = s.tgt k := by
  cases b <;> rfl

@[simp] theorem cond_freeTgt_ints (b : Bool) (t : Nat) : (s.cond b (·.freeTgt t)).bell.ints = s.bell.ints := by
  cases b <;> rfl

theorem freeTgt_freed (t : Nat) : (s.freeTgt t).bell.freed.testBit t = true := by
  simp [State.freeTgt]

/-! ### The sources that are PENDING, and those that a claim may take (R450, R466) -/

section
variable {s} {n : Nat}

theorem mem_levels : n ∈ s.levels ↔ n < 48 ∧ s.level n = true := by
  simp [State.levels]

theorem server_isNone : (s.server n).isNone = true ↔ ∀ k : Fin 4, (s.tgt k).serving ≠ some n := by
  simp [State.server, Fin.forall_iff]

theorem mem_waiting : n ∈ s.waiting ↔
    n < 48 ∧ s.level n = true ∧ s.belEnabled n = true ∧ ∀ k : Fin 4, (s.tgt k).serving ≠ some n := by
  simp only [State.waiting, List.mem_filter, Bool.and_eq_true, mem_levels, server_isNone, and_assoc]

theorem mem_claimSet : n ∈ s.claimSet ↔
    n < 48 ∧ s.level n = true ∧ s.bell.olds.testBit n = true ∧ ∀ k : Fin 4, (s.tgt k).serving ≠ some n := by
  simp only [State.claimSet, List.mem_filter, Bool.and_eq_true, bits_one_beq_one, mem_levels, server_isNone, and_assoc]

/-- Sources stand in the order of their numbers, which is that of their priority (R451). -/
theorem claimSet_eq_cons (h : n ∈ s.claimSet) (hmin : ∀ m ∈ s.claimSet, n ≤ m) : ∃ rest, s.claimSet = n :: rest := by
  have hsorted : s.claimSet.Pairwise (· < ·) := (List.pairwise_lt_range.filter _).filter _
  obtain ⟨m, rest, hset⟩ := List.exists_cons_of_ne_nil (List.ne_nil_of_mem h)
  rw [hset] at h hmin hsorted
  obtain rfl | hrest := List.mem_cons.mp h
  · exact ⟨rest, hset⟩
  · have hlt := (List.pairwise_cons.mp hsorted).1 n hrest
    have hle := hmin m List.mem_cons_self
    omega

end

/-! ### The end of an edge -/

/-- What this edge found PENDING is what a claim of the next one may take (R466). -/
theorem mem_pendSet_of_mem_claimSet_bellNext {n : Nat} (h : n ∈ (s.modBell fun _ => s.bellNext).claimSet) : n ∈ s.pendSet := by
  obtain ⟨-, -, hold, -⟩ := mem_claimSet.mp h
  exact of_decide_eq_true ((testBit_maskOf s.pendSet n).symm.trans hold)

/-- A target freed on this edge is passed over by the delivery decided on it (R453). -/
theorem bellNext_due_ne {t : Nat} (h : s.bell.freed.testBit t = true) : s.bellNext.due ≠ some t := by
  change s.nextDue ≠ some t
  unfold State.nextDue
  split
  · exact nofun
  · intro hdue
    have hfree := List.find?_some hdue
    simp [bits_one_beq_zero, h] at hfree

theorem bellNext_tgt_delivered (t : Nat) : ((s.modBell fun _ => s.bellNext).tgt t).delivered = (s.tgt t).delivered := by
  simp only [State.tgt, State.modBell_bell, State.bellNext, vget, Vector.getElem_ofFn]
  split <;> simp

/-- The pin of an INT target then follows its delivery alone (R456). -/
theorem bellNext_intLow (t : Nat) : (s.modBell fun _ => s.bellNext).intLow t = (s.tgt t).delivered := by
  rw [State.intLow, bellNext_tgt_delivered]
  simp [State.bellNext, bits]

/-! ### A delivery counts as claimed (R455, R456) -/

theorem foldl_bell {α : Type} {f : State → α → State} (hf : ∀ s a, (f s a).bell = s.bell) (l : List α) (s : State) :
    (l.foldl f s).bell = s.bell := by
  induction l generalizing s with
  | nil => rfl
  | cons a t ih => exact (ih _).trans (hf s a)

theorem dropMsgs_bell (p : Msi → Bool) :
    (s.dropMsgs p).bell = { s.bell with msgs := s.bell.msgs.filter fun m => !p m } := by
  refine foldl_bell ?_ _ _
  exact fun _ _ => rfl

theorem claimed_tgts (t : Nat) :
    (s.claimed t).bell.tgts = vmod s.bell.tgts t fun x => { x with delivered := false, named := none } := by
  rw [State.claimed, dropMsgs_bell]
  rfl

/-- The target holds no delivery, and serves what it served. -/
theorem claimed_tgt (t : Nat) : (s.claimed t).tgt t = { s.tgt t with delivered := false, named := none } := by
  rw [State.tgt, claimed_tgts]
  exact vget_vset_self _ t _

/-- An INT pin that a delivery held low stays low to the end of the edge. -/
theorem claimed_ints {t : Nat} (ht : t < 2) (h : (s.tgt t).delivered = true) :
    (s.claimed t).bell.ints.testBit t = true := by
  simp [State.claimed, dropMsgs_bell, ht, h]

/-! ### A claim (R456, R466) -/

section
variable {s} {t n : Nat}

theorem claim_serving (h : (s.tgt t).serving = some n) : s.claim t = (BitVec.ofNat 32 n, s) := by
  simp [State.claim, h]

theorem claim_none (h : (s.tgt t).serving = none) (hset : s.claimSet = []) :
    s.claim t = (0, (s.claimed t).cond (s.tgt t).delivered (·.freeTgt t)) := by
  simp [State.claim, h, hset]

theorem claim_first {rest : List Nat} (h : (s.tgt t).serving = none) (hset : s.claimSet = n :: rest) :
    s.claim t = (BitVec.ofNat 32 (n + 2 ^ 31), (s.claimed t).modTgt t fun x => { x with serving := some n }) := by
  simp [State.claim, h, hset]

/-- Whether or not there is a source to claim, the target's delivery has ended and its pin is as `claimed` leaves it. -/
theorem claim_ends_delivery (h : (s.tgt t).serving = none) :
    ((s.claim t).2.tgt t).delivered = false ∧ (s.claim t).2.bell.ints = (s.claimed t).bell.ints := by
  cases hset : s.claimSet with
  | nil =>
    rw [claim_none h hset, cond_freeTgt_tgt, cond_freeTgt_ints, claimed_tgt]
    exact ⟨rfl, rfl⟩
  | cons n rest =>
    rw [claim_first h hset, tgt_modTgt_self, claimed_tgt]
    exact ⟨rfl, rfl⟩

end

/-! ### A completion (R457, R459) -/

section
variable {s} {t n : Nat}

theorem complete_served (h : (s.tgt t).serving = some n) :
    s.complete t n = (s.modTgt t fun x => { x with serving := none }).freeTgt t := by
  simp [State.complete, h]

theorem complete_other (h : (s.tgt t).serving ≠ some n) : s.complete t n = s.countFld BEL_BAD_COMPLETE 0 16 1 := by
  simp [State.complete, h]

end

theorem complete_tgt_ne {t k : Fin 4} (n : Nat) (h : t ≠ k) : (s.complete t n).tgt k = s.tgt k := by
  by_cases hsrv : (s.tgt t).serving = some n
  · rw [complete_served hsrv, freeTgt_tgt, tgt_modTgt_ne s _ h]
  · rw [complete_other hsrv]
    rfl

/-- A source that no other target serves waits again once completed, where it is high and enabled. -/
theorem mem_waiting_complete {t : Fin 4} {n : Nat} (h : (s.tgt t).serving = some n)
    (honly : ∀ k : Fin 4, k ≠ t → (s.tgt k).serving ≠ some n) :
    n ∈ (s.complete t n).waiting ↔ n < 48 ∧ s.level n = true ∧ s.belEnabled n = true := by
  have hfree : ∀ k : Fin 4, ((s.complete t n).tgt k).serving ≠ some n := fun k => by
    by_cases hk : t = k
    · subst hk
      simp [complete_served h]
    · rw [complete_tgt_ne s n hk]
      exact honly k (Ne.symm hk)
  rw [mem_waiting, and_iff_left hfree, complete_served h]
  rfl

end

/-! ### A count in a field -/

theorem fld_countFld_self (s : State) (off lo w n : Nat) (h : lo + w ≤ 32) :
    (s.countFld off lo w n).fld off lo w = satAdd (2 ^ w - 1) (s.fld off lo w) n := by
  have hlt : satAdd (2 ^ w - 1) (s.fld off lo w) n < 2 ^ w := by
    have hpos := Nat.two_pow_pos w
    unfold satAdd
    split <;> omega
  exact (fld_setFld s off lo w _ h).trans (Nat.mod_eq_of_lt hlt)

theorem countFld_keepsRegs (s : State) (off lo w n : Nat) : s.KeepsRegs (s.countFld off lo w n) [off] := fun o ho =>
  reg_setFld_ne s off lo w _ (by simpa using ho)

/-! ### The statement -/

/-- Settles O48: the two sets of sources, then claims and completions, by the equation of each case. -/
theorem claimsTakeTheFirstPendingSource : Obligations.ClaimsTakeTheFirstPendingSource := by
  refine ⟨fun s n => mem_pendSet_of_mem_claimSet_bellNext s, ?pending, ?first, ?nothing, ?pin, fun _ _ _ => claim_serving,
    ?completed, ?counted, fun s _ _ n => complete_tgt_ne s n⟩
  case pending =>
    intro s n h
    exact (mem_waiting.mp (List.mem_filter.mp h).1).2
  case first =>
    intro s t n hsrv hmin hmem
    obtain ⟨hlt, hlevel, -, hnobody⟩ := mem_claimSet.mp hmem
    obtain ⟨rest, hset⟩ := claimSet_eq_cons hmem hmin
    refine ⟨?_, ?_, (claim_ends_delivery hsrv).1, hlevel, hnobody⟩
    · rw [claim_first hsrv hset, BitVec.toNat_ofNat]
      omega
    · rw [claim_first hsrv hset, tgt_modTgt_self]
  case nothing =>
    intro s t hsrv hset
    refine ⟨?_, (claim_ends_delivery hsrv).1, ?_, fun hdel => bellNext_due_ne _ ?_⟩
    · rw [claim_none hsrv hset]
    · rw [claim_none hsrv hset, cond_freeTgt_tgt, claimed_tgt, hsrv]
    · rw [claim_none hsrv hset, hdel]
      exact freeTgt_freed _ _
  case pin =>
    intro s t ht hdel hsrv
    obtain ⟨hended, hints⟩ := claim_ends_delivery hsrv
    refine ⟨?_, (bellNext_intLow _ t).trans hended⟩
    rw [State.intLow, hints, bits_one_beq_one, claimed_ints s ht hdel, Bool.or_true]
  case completed =>
    intro s t n hsrv
    refine ⟨?_, ?_, fun hdel => ?_, mem_waiting_complete s hsrv, bellNext_due_ne _ ?_⟩
    · simp [complete_served hsrv]
    · rw [complete_served hsrv]
      rfl
    · simp [complete_served hsrv, State.free_, hdel]
    · rw [complete_served hsrv]
      exact freeTgt_freed _ _
  case counted =>
    intro s t n hsrv
    rw [complete_other hsrv]
    exact ⟨rfl, fld_countFld_self s _ 0 16 1 (by omega), countFld_keepsRegs s _ 0 16 1⟩

end Sys2Proof.Machine
end
